-- ==== Sys2Proof/Word.lean ====
section
/-! DEFINITION. The words of the Cue Ring (bytes and 16-bit fields) and tables of a fixed number of entries: one read, one
write, one way to build, and the lemmas that tell them apart. -/

namespace Sys2Proof

/-- One byte on the Cue Ring. -/
abbrev Byte := BitVec 8

/-- A two-byte field, or a 16-bit word of a key or a check. -/
abbrev Half := BitVec 16

/-- A ring node address byte: nodes 1 to 239, 255 broadcast, 0 none (R161). -/
abbrev Node := BitVec 8

/-- Link numbers, 0 to 63. -/
abbrev LinkId := Fin 64

/-- Band numbers, 0 to 3. -/
abbrev BandId := Fin 4

/-- Switcher slot numbers, 0 to 3. -/
abbrev SlotId := Fin 4

/-- Talkback destination numbers, 0 to 31. -/
abbrev DestId := Fin 32

/-- Talk source numbers, 0 to 15. -/
abbrev TalkId := Fin 16

/-- A time in milliseconds, or stopped: a running timer keeps the full time it was started with. -/
abbrev Timer := Option Nat

variable {α : Type} {n : Nat}

/-- The entry of a table at an index of its range. -/
def rd (t : Vector α n) (i : Fin n) : α := t[i.val]'i.isLt

/-- A table with one entry replaced. -/
def wr (t : Vector α n) (i : Fin n) (x : α) : Vector α n := t.set i.val x i.isLt

/-- A table from the value of each entry. -/
@[irreducible] def tab (f : Fin n → α) : Vector α n := Vector.ofFn f

@[simp] theorem rd_wr_same (t : Vector α n) (i : Fin n) (x : α) : rd (wr t i x) i = x := by
  simp [rd, wr]

@[simp] theorem rd_wr_ne (t : Vector α n) (i j : Fin n) (x : α) (h : i ≠ j) :
    rd (wr t i x) j = rd t j := by
  have : i.val ≠ j.val := fun e => h (Fin.ext e)
  simp [rd, wr, this]

theorem rd_wr (t : Vector α n) (i j : Fin n) (x : α) :
    rd (wr t i x) j = if i = j then x else rd t j := by
  by_cases h : i = j
  · subst h; simp
  · simp [h]

@[simp] theorem rd_tab (f : Fin n → α) (i : Fin n) : rd (tab f) i = f i := by
  simp [rd, tab]

@[simp] theorem rd_replicate (x : α) (i : Fin n) : rd (Vector.replicate n x) i = x := by
  simp [rd]

theorem tab_ext {s t : Vector α n} (h : ∀ i, rd s i = rd t i) : s = t := by
  apply Vector.ext
  intro i hi
  exact h ⟨i, hi⟩

@[simp] theorem wr_rd_self (t : Vector α n) (i : Fin n) : wr t i (rd t i) = t := by
  apply tab_ext
  intro j
  by_cases h : i = j
  · subst h; simp
  · simp [h]

end Sys2Proof
end

