-- ==== Sys2Proof/Syntax.lean ====
section
/-! DEFINITION. The commands of the part: one constructor for each row of spec/opcode_table.json, with the row's operands. -/

namespace Sys2Proof

/-- What an arriving frame carries beside its kind and payload (R161): destination, source, and the check as received. -/
structure FrameHead where
  dst   : Node
  src   : Node
  check : Half
  deriving DecidableEq, Repr

/-- What an arriving CMD frame carries beside its request code and parameters (R162). -/
structure CmdHead where
  dst   : Node
  src   : Node
  id    : Byte
  check : Half
  deriving DecidableEq, Repr

/-- The operations and events of spec/opcode_table.json, each whole and indivisible (spec/95). A frame command carries the
bytes its row leaves open: the kind, the METER form, the request code and the table id are fixed by the constructor. -/
inductive Instr where
  /-- RESET_N_LOW (R165). -/
  | resetNLow
  /-- COLD_RESET (R165), with the 8-bit number on ADDR7 to ADDR0. -/
  | coldReset (straps : Byte)
  /-- RING_IN_FRAME (R166): any bytes arriving at Ring In. -/
  | ringInFrame (raw : List Byte)
  /-- FILL_SLOT (R168). -/
  | fillSlot
  /-- QUEUE_SPACE_EVENT (R170). -/
  | queueSpaceEvent
  /-- LAMP_FRAME_BUILD (R140). -/
  | lampFrameBuild
  /-- BYPASS_ENTRY (R173). -/
  | bypassEntry
  /-- TALLY (R121), with the whole payload. -/
  | tally (h : FrameHead) (payload : List Byte)
  /-- CYCLE (R148), with the whole payload. -/
  | cycle (h : FrameHead) (payload : List Byte)
  /-- VOICE (R147), with the whole payload. -/
  | voice (h : FrameHead) (payload : List Byte)
  /-- METER_LINK_FORM (R79): the payload after the form byte 00h. -/
  | meterLinkForm (h : FrameHead) (fields : List Byte)
  /-- METER_PROBE_FORM (R70): the payload after the form byte 01h. -/
  | meterProbeForm (h : FrameHead) (fields : List Byte)
  /-- TUNED (R107), with the whole payload. -/
  | tuned (h : FrameHead) (payload : List Byte)
  /-- TUNE_TIMER_EXPIRY (R106). -/
  | tuneTimerExpiry
  /-- METER_SILENCE_EXPIRY (R85) of one link. -/
  | meterSilenceExpiry (link : LinkId)
  /-- SWITCHER_SILENCE_EXPIRY (R124) of one slot. -/
  | switcherSilenceExpiry (slot : SlotId)
  /-- SWITCHER_HOLD_EXPIRY (R125) of one slot. -/
  | switcherHoldExpiry (slot : SlotId)
  /-- PROBE_TIMEOUT (R72). -/
  | probeTimeout
  /-- LAMP_REFRESH_EXPIRY (R139). -/
  | lampRefreshExpiry
  /-- SWEEP_INTERVAL_EXPIRY (R68). -/
  | sweepIntervalExpiry
  /-- CHECK_COMPLETION (R44), of a CHECK or a CONFIRM. -/
  | checkCompletion
  /-- SEARCH_COMPLETION (R45). -/
  | searchCompletion
  /-- AUDIT_COMPLETION (R46). -/
  | auditCompletion
  /-- REFILL_COMPLETION (R48). -/
  | refillCompletion
  /-- SIGNATURE_COMPLETION (R49). -/
  | signatureCompletion
  /-- IDENTIFY (R178). -/
  | identify (h : CmdHead) (params : List Byte)
  /-- STATUS (R178). -/
  | status (h : CmdHead) (params : List Byte)
  /-- READ (R179). -/
  | read (h : CmdHead) (params : List Byte)
  /-- WRITE_BAND (R2). -/
  | writeBand (h : CmdHead) (index : Half) (record : List Byte)
  /-- WRITE_LINK (R8). -/
  | writeLink (h : CmdHead) (index : Half) (record : List Byte)
  /-- WRITE_WINDOW (R14). -/
  | writeWindow (h : CmdHead) (index : Half) (record : List Byte)
  /-- WRITE_SWITCHER (R118). -/
  | writeSwitcher (h : CmdHead) (index : Half) (record : List Byte)
  /-- WRITE_SOURCEMAP (R119). -/
  | writeSourcemap (h : CmdHead) (index : Half) (record : List Byte)
  /-- WRITE_PALETTE (R133). -/
  | writePalette (h : CmdHead) (index : Half) (record : List Byte)
  /-- WRITE_CONDITION (R134). -/
  | writeCondition (h : CmdHead) (index : Half) (record : List Byte)
  /-- WRITE_TALKSRC (R143). -/
  | writeTalksrc (h : CmdHead) (index : Half) (record : List Byte)
  /-- WRITE_DEST (R144). -/
  | writeDest (h : CmdHead) (index : Half) (record : List Byte)
  /-- WRITE_XPOINT (R145). -/
  | writeXpoint (h : CmdHead) (index : Half) (record : List Byte)
  /-- WRITE_SETTINGS (R181). -/
  | writeSettings (h : CmdHead) (index : Half) (record : List Byte)
  /-- CHECK (R40, R182). -/
  | check (h : CmdHead) (params : List Byte)
  /-- AUDIT (R46, R182). -/
  | audit (h : CmdHead) (params : List Byte)
  /-- REFILL (R47, R182). -/
  | refill (h : CmdHead) (params : List Byte)
  /-- SIGNATURE (R49, R182). -/
  | signature (h : CmdHead) (params : List Byte)
  /-- READ_LOG (R37). -/
  | readLog (h : CmdHead) (params : List Byte)
  /-- MOVE_LINK (R112). -/
  | moveLink (h : CmdHead) (params : List Byte)
  /-- RELEASE_LINK (R113). -/
  | releaseLink (h : CmdHead) (params : List Byte)
  /-- CANCEL_MOVE (R114). -/
  | cancelMove (h : CmdHead) (params : List Byte)
  /-- SWEEP_GO (R64). -/
  | sweepGo (h : CmdHead) (params : List Byte)
  /-- SWEEP_STOP (R76). -/
  | sweepStop (h : CmdHead) (params : List Byte)
  /-- LAMP_TEST (R141). -/
  | lampTest (h : CmdHead) (params : List Byte)
  /-- SHOW_LOCK (R184). -/
  | showLock (h : CmdHead) (params : List Byte)
  /-- SHOW_UNLOCK (R184). -/
  | showUnlock (h : CmdHead) (params : List Byte)
  /-- BYPASS (R185). -/
  | bypass (h : CmdHead) (params : List Byte)
  /-- RESUME (R174, R185). -/
  | resume (h : CmdHead) (params : List Byte)
  /-- RESTART (R186). -/
  | restart (h : CmdHead) (params : List Byte)
  /-- UNKNOWN_REQUEST (R175): a CMD with a request code that is none of the part's. -/
  | unknownRequest (h : CmdHead) (code : Byte) (params : List Byte)
  /-- POWER_LOSS (R165). -/
  | powerLoss
  /-- SEARCH_ENTRY_VERDICT (R45). -/
  | searchEntryVerdict
  /-- CONFLICT_LOGGED (R36). -/
  | conflictLogged
  deriving DecidableEq, Repr

end Sys2Proof
end

