-- ==== Sys2Proof/WellFormed.lean ====
section
/-! DEFINITION. Which commands spell a frame the ring can carry: payload lengths of R161 and R162, and a request code that
is none of the part's for UNKNOWN_REQUEST. The meanings do not rest on it: they are total on every operand. -/

namespace Sys2Proof

/-- The longest payload of a frame (R161). -/
def maxPayload : Nat := 240

/-- The request codes of R162: 01h to 09h and 0Bh to 15h. -/
def knownCode (c : Byte) : Bool := 1 ≤ c.toNat && c.toNat ≤ 0x15 && c.toNat ≠ 0x0A

/-- A payload that fits a frame (R161). -/
def fits (payload : List Byte) : Bool := payload.length ≤ maxPayload

/-- A parameter list that fits a CMD frame after its request code and request id (R162). -/
def paramsFit (params : List Byte) : Bool := params.length + 2 ≤ maxPayload

/-- A written record that fits a WRITE after its code, id, table id and index (R163). -/
def recordFits (record : List Byte) : Bool := record.length + 5 ≤ maxPayload

/-- The well-formed commands. -/
def Instr.WellFormed : Instr → Bool
  | .resetNLow | .coldReset _ | .fillSlot | .queueSpaceEvent | .lampFrameBuild | .bypassEntry => true
  | .ringInFrame raw => raw.length ≤ maxPayload + 6
  | .tally _ p | .cycle _ p | .voice _ p | .tuned _ p => fits p
  | .meterLinkForm _ p | .meterProbeForm _ p => p.length + 1 ≤ maxPayload
  | .tuneTimerExpiry | .meterSilenceExpiry _ | .switcherSilenceExpiry _ | .switcherHoldExpiry _ | .probeTimeout
  | .lampRefreshExpiry | .sweepIntervalExpiry => true
  | .checkCompletion | .searchCompletion | .auditCompletion | .refillCompletion | .signatureCompletion => true
  | .identify _ p | .status _ p | .read _ p => paramsFit p
  | .writeBand _ _ r | .writeLink _ _ r | .writeWindow _ _ r | .writeSwitcher _ _ r | .writeSourcemap _ _ r
  | .writePalette _ _ r | .writeCondition _ _ r | .writeTalksrc _ _ r | .writeDest _ _ r | .writeXpoint _ _ r
  | .writeSettings _ _ r => recordFits r
  | .check _ p | .audit _ p | .refill _ p | .signature _ p | .readLog _ p => paramsFit p
  | .moveLink _ p | .releaseLink _ p | .cancelMove _ p | .sweepGo _ p | .sweepStop _ p | .lampTest _ p => paramsFit p
  | .showLock _ p | .showUnlock _ p | .bypass _ p | .resume _ p | .restart _ p => paramsFit p
  | .unknownRequest _ c p => paramsFit p && !knownCode c
  | .powerLoss | .searchEntryVerdict | .conflictLogged => true

end Sys2Proof
end

