-- ==== Sys2Proof/Decode.lean ====
section
/-! DEFINITION. The commands that a word of bits spells. spec/opcode_table.json gives no row any bits (every row's "fields"
is empty and none has "fixed"), so no word spells a command. -/

namespace Sys2Proof

/-- The command the table's bits spell for an `nbits`-bit word `w`: none, since no row has bits. -/
def decodeTableWord (_nbits _w : Nat) : Option Instr := none

end Sys2Proof
end

