-- ==== Sys2Proof/Config.lean ====
section
/-! DEFINITION. What silicon revision A fixes (00_scope, R178) and the free values: what the manual leaves without a value. -/

namespace Sys2Proof.Config

/-- The vendor code IDENTIFY answers (R178). -/
def vendorCode : Byte := 0x2C

/-- The part code IDENTIFY answers (R178). -/
def partCode : Nat := 6416

/-- The silicon revision IDENTIFY answers: 1 for revision A (R178). -/
def revision : Byte := 1

/-- The Control Queue holds at most 24 frames (R169). -/
def controlCapacity : Nat := 24

/-- With this many RSP frames in the MGR's output hold an arriving CMD is discarded untaken (R175, R176). -/
def holdLimit : Nat := 4

/-- The MGR's output hold holds at most six RSP frames (R176). -/
def holdCapacity : Nat := 6

/-- The Deferred List holds at most 8 orders (R97). -/
def deferredCapacity : Nat := 8

/-- A Spare List and the Conflict Log hold at most 16 entries (R36, R50). -/
def listCapacity : Nat := 16

/-- FREE VALUE (DESIGN CHOICE, safe; notes/assumptions/16 and 17). A byte the manual states no value for; the argument is
the counter `State.freeCtr`, so that no two readings need agree. It has no body: nothing can be proved of its value. -/
opaque freeByte : Nat → Byte

end Sys2Proof.Config
end

