-- ==== Sys2Proof/Machine/Records.lean ====
section
/-! DEFINITION. The records the part keeps, block by block, and the value each takes at cold reset. -/

namespace Sys2Proof.Machine

/-! ## Plan Store (R1 to R18) -/

/-- A Band Table entry (R1). -/
structure BandEntry where
  enabled    : Bool
  base       : Nat
  step       : Nat
  count      : Nat
  gcc        : Nat
  gim        : Nat
  threeTone  : Bool
  span       : Nat
  threshold  : Int
  spareWidth : Nat
  probeNode  : Node
  deriving DecidableEq, Repr

/-- The cold reset entry (R4). -/
def BandEntry.cold : BandEntry :=
  { enabled := false, base := 0, step := 25, count := 1, gcc := 0, gim := 0, threeTone := false, span := 1,
    threshold := -80, spareWidth := 200, probeNode := 0 }

/-- Link kinds (R5). -/
inductive LinkKind where
  | camera | mic | ifb | ret
  deriving DecidableEq, Repr

/-- The configuration fields of a link (R5). -/
structure LinkCfg where
  inUse          : Bool
  kind           : LinkKind
  band           : BandId
  width          : Nat
  tx             : Node
  rx             : Node
  rx2            : Node
  priority       : Nat
  autoRetune     : Bool
  rescueOnAir    : Bool
  blendLamp      : Bool
  minLevel       : Int
  goodMargin     : Nat
  goodQuality    : Nat
  poorQuality    : Nat
  persistence    : Nat
  batteryWarning : Nat
  lampNode       : Node
  lampEnable     : Bool
  trim           : Int
  talkback       : Option DestId
  deriving DecidableEq, Repr

/-- The cold reset configuration (R11). -/
def LinkCfg.cold : LinkCfg :=
  { inUse := false, kind := .camera, band := 0, width := 200, tx := 0, rx := 0, rx2 := 0, priority := 0,
    autoRetune := false, rescueOnAir := false, blendLamp := false, minLevel := -90, goodMargin := 10,
    goodQuality := 70, poorQuality := 30, persistence := 4, batteryWarning := 20, lampNode := 0,
    lampEnable := false, trim := 0, talkback := none }

/-- Carrier states (R6). -/
inductive CarrierState where
  | none | committed | uncertain | lost
  deriving DecidableEq, Repr

/-- Retune phases (R6, R98). -/
inductive Phase where
  | idle | queued | checking | tuning | reverting
  deriving DecidableEq, Repr

/-- The carrier fields of a link (R6). -/
structure LinkCarrier where
  channel : Option Nat
  state   : CarrierState
  forced  : Bool
  phase   : Phase
  deriving DecidableEq, Repr

/-- The cold reset carrier fields (R6). -/
def LinkCarrier.cold : LinkCarrier := { channel := none, state := .none, forced := false, phase := .idle }

/-- Health grades (R7). -/
inductive Health where
  | unknown | good | marginal | poor | down
  deriving DecidableEq, Repr

/-- The health fields of a link (R7, R78); `level` is F in quarter-dB units, absent while invalid. -/
structure LinkHealth where
  grade       : Health
  level       : Option Int
  lastQuality : Nat
  lastBattery : Option Nat
  persist     : Nat
  batteryLow  : Bool
  silence     : Timer
  deriving DecidableEq, Repr

/-- The health fields after cold reset and after warm restart (R7). -/
def LinkHealth.cold : LinkHealth :=
  { grade := .unknown, level := none, lastQuality := 0, lastBattery := none, persist := 0, batteryLow := false,
    silence := none }

/-- A set drawn from the buses PROGRAM, PREVIEW and ISO (R117). -/
structure Buses where
  program : Bool
  preview : Bool
  iso     : Bool
  deriving DecidableEq, Repr

/-- The empty set of buses. -/
def Buses.empty : Buses := { program := false, preview := false, iso := false }

/-- A link record: four groups of fields, each written by one block (R5, R6, R7). -/
structure Link where
  cfg     : LinkCfg
  carrier : LinkCarrier
  health  : LinkHealth
  tally   : Buses
  deriving DecidableEq, Repr

/-- The cold reset link record (R11). -/
def Link.cold : Link := { cfg := .cold, carrier := .cold, health := .cold, tally := .empty }

/-- Window anchors (R13). -/
inductive Anchor where
  | bottom | top
  deriving DecidableEq, Repr

/-- An exclusion window (R13). -/
structure Window where
  enabled    : Bool
  band       : BandId
  anchor     : Anchor
  size       : Nat
  complement : Bool
  deriving DecidableEq, Repr

/-- The cold reset window (R15). -/
def Window.cold : Window := { enabled := false, band := 0, anchor := .bottom, size := 1, complement := false }

/-- The Plan Store: Band Table, Link Table, Exclusion Windows, plan generation. -/
structure Plan where
  bands   : Vector BandEntry 4
  links   : Vector Link 64
  windows : Vector Window 8
  gen     : Half
  deriving DecidableEq, Repr

/-- The Plan Store after cold reset (R4, R11, R15, R16). -/
def Plan.cold : Plan :=
  { bands := Vector.replicate 4 .cold, links := Vector.replicate 64 .cold, windows := Vector.replicate 8 .cold, gen := 0 }

/-! ## Occupancy Cells (R59) -/

/-- Cell states (R59). -/
inductive CellState where
  | unmeasured | quiet | busy | own
  deriving DecidableEq, Repr

/-- An occupancy cell record (R59). -/
structure Cell where
  state : CellState
  last  : Option Int
  peak  : Option Int
  age   : Nat
  deriving DecidableEq, Repr

/-- The cold reset cell (R62). -/
def Cell.cold : Cell := { state := .unmeasured, last := none, peak := none, age := 0 }

/-! ## Compatibility Planner (R19 to R58) -/

/-- What an order will tune to (R96): a channel, or OFF. -/
inductive Chosen where
  | channel (n : Nat) | off
  deriving DecidableEq, Repr

/-- Operation kinds (R38). -/
inductive OpKind where
  | check | confirm | search | audit | refill | signature
  deriving DecidableEq, Repr

/-- Operation origins and log requesters (R38). -/
inductive Origin where
  | retune | management | flag
  deriving DecidableEq, Repr

/-- Check modes (R19). -/
inductive CheckMode where
  | full | exclusionOnly
  deriving DecidableEq, Repr

/-- A link as a snapshot holds it (R20): its carrier fields, band and width. -/
structure SnapLink where
  carrier : LinkCarrier
  band    : BandId
  width   : Nat
  deriving DecidableEq, Repr

/-- The Active order as a snapshot holds it (R20): link, phase, and the chosen channel that is its target (R12). -/
structure SnapOrder where
  link   : LinkId
  phase  : Phase
  chosen : Option Chosen
  deriving DecidableEq, Repr

/-- The fixed copy of the plan an operation reads (R20, R43); `band` is absent when the request's band is out of range. -/
structure Snapshot where
  band    : Option BandEntry
  windows : Vector Window 8
  links   : Vector SnapLink 64
  order   : Option SnapOrder
  cells   : Vector Cell 256
  gen     : Half
  deriving DecidableEq, Repr

/-- A Spare List entry (R50). -/
structure Spare where
  channel : Nat
  level   : Int
  deriving DecidableEq, Repr

/-- Who a management planner request is answered to (R38). -/
structure Asker where
  id  : Byte
  src : Node
  deriving DecidableEq, Repr

/-- The active operation (R38). -/
structure ActiveOp where
  kind         : OpKind
  origin       : Origin
  band         : Nat
  link         : Option Nat
  channel      : Option Nat
  width        : Option Nat
  mode         : CheckMode
  snap         : Snapshot
  /-- CHECK, CONFIRM, AUDIT: conflicts already counted in the log. -/
  logged       : Nat
  /-- SEARCH: the last Spare List entry examined. -/
  lastExamined : Option Nat
  /-- SEARCH: the entry whose check gave CLEAR. -/
  found        : Option Nat
  /-- REFILL: the CLEAR candidates found. -/
  clearFound   : List Spare
  /-- REFILL: the band's list has been emptied since the start. -/
  emptied      : Bool
  asker        : Option Asker
  deriving DecidableEq, Repr

/-- A request waiting in the RTE place (R38). -/
structure RteRequest where
  kind    : OpKind
  link    : LinkId
  channel : Option Nat
  mode    : CheckMode
  deriving DecidableEq, Repr

/-- A request waiting in the management place (R38): kind, parameters, request id and source node. -/
structure MgrRequest where
  kind    : OpKind
  band    : Nat
  channel : Nat
  width   : Nat
  mover   : Option Nat
  asker   : Asker
  deriving DecidableEq, Repr

/-- An answer held for return to NORMAL (R38, R54). -/
structure HeldAnswer where
  kind  : OpKind
  asker : Asker
  deriving DecidableEq, Repr

/-- Conflict kinds (R35). -/
inductive ConflictKind where
  | excluded | occupied | spacing | im2 | im3
  deriving DecidableEq, Repr

/-- An aggressor, or a victim that is a carrier (R35): the candidate, or a link, marked TARGET or not. -/
inductive Item where
  | candidate | link (k : Nat) (target : Bool)
  deriving DecidableEq, Repr

/-- The victim of a conflict (R35). -/
inductive Victim where
  | window (w : Nat) | cell (c : Nat) | item (i : Item)
  deriving DecidableEq, Repr

/-- A conflict record (R35). -/
structure Conflict where
  kind       : ConflictKind
  aggressors : List Item
  victim     : Victim
  product    : Option Int
  shortfall  : Option Int
  deriving DecidableEq, Repr

/-- Verdicts of checks and audits (R32, R33). -/
inductive Verdict where
  | clear | conflict | clean | range
  deriving DecidableEq, Repr

/-- The header fields of the Conflict Log that an operation's start writes (R34). -/
structure LogHeader where
  operation : OpKind
  requester : Origin
  link      : Option Nat
  band      : Nat
  channel   : Option Nat
  width     : Option Nat
  mode      : CheckMode
  gen       : Half
  deriving DecidableEq, Repr

/-- The Conflict Log (R34, R35, R36). -/
structure ConflictLog where
  header   : Option LogHeader
  verdict  : Option Verdict
  total    : Nat
  overflow : Nat
  records  : List Conflict
  deriving DecidableEq, Repr

/-- The empty log (R37). -/
def ConflictLog.empty : ConflictLog := { header := none, verdict := none, total := 0, overflow := 0, records := [] }

/-- The Compatibility Planner's state (R38). -/
structure Cpl where
  active   : Option ActiveOp
  rtePlace : Option RteRequest
  mgrPlace : Option MgrRequest
  flags    : Vector Bool 4
  spares   : Vector (List Spare) 4
  log      : ConflictLog
  answers  : List HeldAnswer
  deriving DecidableEq, Repr

/-- The planner after cold reset (R58). -/
def Cpl.cold : Cpl :=
  { active := none, rtePlace := none, mgrPlace := none, flags := Vector.replicate 4 false,
    spares := Vector.replicate 4 [], log := .empty, answers := [] }

/-! ## Frames and the Ring Interface (R161 to R174) -/

/-- A frame without its length and check, which follow from the rest (R161). -/
structure Frame where
  kind    : Byte
  dst     : Node
  src     : Node
  payload : List Byte
  deriving DecidableEq, Repr

/-- Control Queue classes (R168, R169). -/
inductive CtlClass where
  | tune | lamp | probe | rsp | note
  deriving DecidableEq, Repr

/-- A frame in the Control Queue. -/
structure Queued where
  cls   : CtlClass
  frame : Frame
  deriving DecidableEq, Repr

/-- Ring modes (R164). -/
inductive RingMode where
  | normal | bypass
  deriving DecidableEq, Repr

/-- An RSP kept apart while the bypass entry mark is set (R173); `resume` marks the RSP to a RESUME. -/
structure KeptRsp where
  frame  : Frame
  resume : Bool
  deriving DecidableEq, Repr

/-- The bypass entry mark, with the RSP to the BYPASS request and the RSPs kept apart (R173). -/
structure EntryMark where
  rsp  : Frame
  kept : List KeptRsp
  deriving DecidableEq, Repr

/-- The Ring Interface's state (R164). The Control Queue stands in order of admission, oldest first. `spaceOwed` is the model's
own: a Control Queue frame has left, and the queue-space event of its departure has not yet served a producer (R170). -/
structure Rif where
  node      : Node
  mode      : RingMode
  permanent : Bool
  entry     : Option EntryMark
  voiceQ    : Vector (Option Frame) 32
  voicePtr  : Fin 32
  ctlQ      : List Queued
  errors    : Nat
  notesLost : Bool
  spaceOwed : Bool
  deriving DecidableEq, Repr

/-- A strap value that is a node address: 1 to 239 (R165). -/
def strapsValid (straps : Byte) : Bool := 1 ≤ straps.toNat && straps.toNat ≤ 239

/-- The Ring Interface after a cold reset with the given straps (R164, R165). -/
def Rif.cold (straps : Byte) : Rif :=
  { node := straps, mode := if strapsValid straps then .normal else .bypass, permanent := !strapsValid straps,
    entry := none, voiceQ := Vector.replicate 32 none, voicePtr := 0, ctlQ := [], errors := 0, notesLost := false,
    spaceOwed := false }

/-! ## Spectrum Sweeper (R59 to R77) -/

/-- Sweep modes (R63). -/
inductive SweepMode where
  | onceR | once | cycle | step
  deriving DecidableEq, Repr

/-- Sweep states (R66). -/
inductive SweepState where
  | idle | probing | paused | waiting
  deriving DecidableEq, Repr

/-- The sweep configuration (R63). -/
structure SweepCfg where
  band    : BandId
  start   : Nat
  stop    : Nat
  mode    : SweepMode
  dwell   : Nat
  report  : Bool
  timer   : Bool
  degrade : Bool
  deriving DecidableEq, Repr

/-- The zero configuration (R63). -/
def SweepCfg.zero : SweepCfg :=
  { band := 0, start := 0, stop := 0, mode := .once, dwell := 2, report := false, timer := false, degrade := false }

/-- A probe (R63, R69). -/
structure Probe where
  tag     : Byte
  band    : BandId
  cell    : Nat
  channel : Nat
  deriving DecidableEq, Repr

/-- A PROBE frame in the SWP's output hold, with the probe it will make outstanding (R69). -/
structure HeldProbe where
  frame : Frame
  probe : Probe
  deriving DecidableEq, Repr

/-- The Spectrum Sweeper's state (R59, R63, R68). -/
structure Swp where
  cells        : Vector (Vector Cell 256) 4
  cfg          : SweepCfg
  state        : SweepState
  cursor       : Nat
  probe        : Option Probe
  probeTimer   : Timer
  probeTag     : Byte
  timeouts     : Nat
  probeHold    : Option HeldProbe
  reportHold   : Option Frame
  marks        : Vector Bool 256
  passTimeouts : Nat
  interval     : Timer
  deriving DecidableEq, Repr

/-- The sweeper after cold reset (R62, R63, R68). -/
def Swp.cold : Swp :=
  { cells := Vector.replicate 4 (Vector.replicate 256 .cold), cfg := .zero, state := .idle, cursor := 0, probe := none,
    probeTimer := none, probeTag := 0, timeouts := 0, probeHold := none, reportHold := none,
    marks := Vector.replicate 256 false, passTimeouts := 0, interval := none }

/-! ## Link Monitor and Retune Engine (R78 to R116) -/

/-- Reasons of wants and orders (R88, R96). -/
inductive Reason where
  | health | rescue | verify | operator
  deriving DecidableEq, Repr

/-- The Link Monitor's own state: the Retune Wanted set (R78, R88), per link its entry's reason. -/
structure Lmn where
  wants : Vector (Option Reason) 64
  deriving DecidableEq, Repr

/-- The Link Monitor after cold reset (R78). -/
def Lmn.cold : Lmn := { wants := Vector.replicate 64 none }

/-- Targets of orders (R96). -/
inductive Target where
  | channel (n : Nat) | spare | off
  deriving DecidableEq, Repr

/-- Causes of a failed move (R163, R187). -/
inductive Cause where
  | conflict | range | noSpare | planMoving | tuneFail | tuneTimeout
  deriving DecidableEq, Repr

/-- An addressed node and its answer mark (R96). -/
structure Addressed where
  node : Node
  ok   : Bool
  deriving DecidableEq, Repr

/-- A retune order (R96). `tag` is absent until a TUNE batch, `snapGen` until a planner result; `cause` is recorded on entry
into REVERTING (R109). -/
structure Order where
  link     : LinkId
  target   : Target
  reason   : Reason
  force    : Bool
  chosen   : Option Chosen
  previous : Option Nat
  nodes    : List Addressed
  tag      : Option Byte
  confirms : Nat
  snapGen  : Option Half
  cause    : Option Cause
  deriving DecidableEq, Repr

/-- An order as it is created (R96). -/
def Order.fresh (link : LinkId) (target : Target) (reason : Reason) (force : Bool) : Order :=
  { link := link, target := target, reason := reason, force := force, chosen := none, previous := none, nodes := [],
    tag := none, confirms := 0, snapGen := none, cause := none }

/-- A TUNE frame in the RTE's output hold (R105); `awaited` is off for a batch whose answers are not awaited (R109). -/
structure HeldTune where
  frame   : Frame
  awaited : Bool
  deriving DecidableEq, Repr

/-- The Retune Engine's state (R97). The Deferred List stands oldest first. -/
structure Rte where
  active    : Option Order
  staged    : Option Order
  deferred  : List Order
  tuneTag   : Byte
  tuneTimer : Timer
  hold      : List HeldTune
  owed      : Bool
  deriving DecidableEq, Repr

/-- The Retune Engine after cold reset (R97). -/
def Rte.cold : Rte :=
  { active := none, staged := none, deferred := [], tuneTag := 0, tuneTimer := none, hold := [], owed := false }

/-! ## Tally Merger (R117) -/

/-- Switcher slot states (R117). -/
inductive SlotState where
  | offline | online | holding
  deriving DecidableEq, Repr

/-- The suppression maps of a slot, one per bus (R117). -/
structure Suppress where
  program : Vector Bool 64
  preview : Vector Bool 64
  iso     : Vector Bool 64
  deriving DecidableEq, Repr

/-- The configuration a WRITE to SWITCHER carries (R118). -/
structure SlotCfg where
  node     : Node
  enabled  : Bool
  enables  : Buses
  suppress : Suppress
  deriving DecidableEq, Repr

/-- A switcher slot: configuration, source map and working state (R117). -/
structure Slot where
  cfg     : SlotCfg
  map     : Vector (Option LinkId) 256
  state   : SlotState
  contrib : Vector Buses 256
  silence : Timer
  hold    : Timer
  deriving DecidableEq, Repr

/-- The empty contribution (R117). -/
def emptyContribution : Vector Buses 256 := Vector.replicate 256 .empty

/-- The cold reset slot (R117). -/
def Slot.cold : Slot :=
  { cfg :=
      { node := 0, enabled := false, enables := { program := true, preview := true, iso := true },
        suppress :=
          { program := Vector.replicate 64 false, preview := Vector.replicate 64 false, iso := Vector.replicate 64 false } },
    map := Vector.replicate 256 none, state := .offline, contrib := emptyContribution, silence := none, hold := none }

/-- The Tally Merger's state; the merged tally stands in the link records (R7). -/
structure Tly where
  slots : Vector Slot 4
  deriving DecidableEq, Repr

/-- The Tally Merger after cold reset (R131). -/
def Tly.cold : Tly := { slots := Vector.replicate 4 .cold }

/-! ## Lamp Driver (R132) -/

/-- A colour (R132). -/
structure Colour where
  red   : Byte
  green : Byte
  blue  : Byte
  deriving DecidableEq, Repr

/-- A palette entry (R132); brightness is 0 to 15. -/
structure PaletteEntry where
  colour     : Colour
  brightness : Nat
  deriving DecidableEq, Repr

/-- Cadences (R134). -/
inductive Cadence where
  | steady | slow | fast | alternate
  deriving DecidableEq, Repr

/-- A Lamp Condition entry (R132). -/
structure LampCondition where
  palette : Fin 8
  cadence : Cadence
  deriving DecidableEq, Repr

/-- The Lamp Driver's state (R132). The conditions stand in the order TEST, PROGRAM, CALL, PREVIEW, ISO, WARNING. -/
structure Lmp where
  palette    : Vector PaletteEntry 8
  conditions : Vector LampCondition 6
  pending    : Vector Bool 64
  debts      : Vector (Option Node) 64
  next       : LinkId
  refresh    : Timer
  test       : Bool
  deriving DecidableEq, Repr

/-- The cold reset palette (R133). -/
def coldPalette : Vector PaletteEntry 8 :=
  #v[{ colour := { red := 0, green := 0, blue := 0 }, brightness := 0 },
     { colour := { red := 255, green := 0, blue := 0 }, brightness := 15 },
     { colour := { red := 0, green := 255, blue := 0 }, brightness := 15 },
     { colour := { red := 255, green := 160, blue := 0 }, brightness := 12 },
     { colour := { red := 0, green := 0, blue := 255 }, brightness := 15 },
     { colour := { red := 255, green := 255, blue := 255 }, brightness := 15 },
     { colour := { red := 255, green := 0, blue := 255 }, brightness := 8 },
     { colour := { red := 255, green := 255, blue := 255 }, brightness := 15 }]

/-- The cold reset Lamp Condition table (R134). -/
def coldConditions : Vector LampCondition 6 :=
  #v[{ palette := 7, cadence := .steady }, { palette := 1, cadence := .steady }, { palette := 4, cadence := .fast },
     { palette := 2, cadence := .steady }, { palette := 3, cadence := .steady }, { palette := 6, cadence := .slow }]

/-- The Lamp Driver after cold reset (R142): the refresh timer runs with the default 2 s. -/
def Lmp.cold : Lmp :=
  { palette := coldPalette, conditions := coldConditions, pending := Vector.replicate 64 false,
    debts := Vector.replicate 64 none, next := 0, refresh := some 2000, test := false }

/-! ## Talkback Mixer (R143 to R160) -/

/-- A Talk Source entry (R143). -/
structure TalkSource where
  node    : Node
  key     : Nat
  enabled : Bool
  deriving DecidableEq, Repr

/-- A Destination entry (R144). -/
structure Dest where
  enabled : Bool
  link    : Option LinkId
  wired   : Node
  feed    : Option TalkId
  gain    : Fin 16
  duck    : Fin 16
  deriving DecidableEq, Repr

/-- The cold reset destination (R144). -/
def Dest.cold : Dest := { enabled := false, link := none, wired := 0, feed := none, gain := 0, duck := 8 }

/-- A crosspoint (R145). -/
structure Xpoint where
  on   : Bool
  gain : Fin 16
  deriving DecidableEq, Repr

/-- A voice block: a TALK flag and 48 signed 16-bit samples (R146). -/
structure Block where
  talk    : Bool
  samples : Vector Half 48
  deriving DecidableEq, Repr

/-- The silent block (R146). -/
def Block.silent : Block := { talk := false, samples := Vector.replicate 48 0 }

/-- A voice buffer (R146). -/
structure Buffer where
  arrived : Option Block
  last    : Block
  misses  : Nat
  deriving DecidableEq, Repr

/-- The silent state of a buffer (R146). -/
def Buffer.silent : Buffer := { arrived := none, last := .silent, misses := 2 }

/-- The Talkback Mixer's state. -/
structure Tbm where
  sources : Vector TalkSource 16
  dests   : Vector Dest 32
  xpoints : Vector (Vector Xpoint 32) 16
  buffers : Vector Buffer 16
  call    : Vector Bool 32
  ducked  : Vector Bool 32
  held    : Vector Bool 32
  deriving DecidableEq, Repr

/-- The Talkback Mixer after cold reset (R160). -/
def Tbm.cold : Tbm :=
  { sources := Vector.replicate 16 { node := 0, key := 0, enabled := false }, dests := Vector.replicate 32 .cold,
    xpoints := Vector.replicate 16 (Vector.replicate 32 { on := false, gain := 0 }),
    buffers := Vector.replicate 16 .silent, call := Vector.replicate 32 false, ducked := Vector.replicate 32 false,
    held := Vector.replicate 32 false }

/-! ## Management Responder (R175 to R187) -/

/-- The Settings record (R181): times in ms, but the lamp refresh and the sweep interval in s. -/
structure Settings where
  reportNode      : Node
  tuneTimeout     : Nat
  meterSilence    : Nat
  switcherSilence : Nat
  switcherHold    : Nat
  lampRefresh     : Nat
  sweepInterval   : Nat
  deriving DecidableEq, Repr

/-- The cold reset Settings record (R181). -/
def Settings.cold : Settings :=
  { reportNode := 0, tuneTimeout := 300, meterSilence := 500, switcherSilence := 200, switcherHold := 2000,
    lampRefresh := 2, sweepInterval := 0 }

/-- A show lock key: four 16-bit words (R184). -/
structure LockKey where
  w0 : Half
  w1 : Half
  w2 : Half
  w3 : Half
  deriving DecidableEq, Repr

/-- The Management Responder's state: Settings, show lock and key, output hold oldest first (R176, R181, R184). -/
structure Mgr where
  settings : Settings
  locked   : Bool
  key      : LockKey
  hold     : List Frame
  deriving DecidableEq, Repr

/-- The Management Responder after cold reset (R176, R181, R184). -/
def Mgr.cold : Mgr := { settings := .cold, locked := false, key := { w0 := 0, w1 := 0, w2 := 0, w3 := 0 }, hold := [] }

/-! ## Pins and Ring Out -/

/-- Power, the level of RESET_N and the bypass relay drive (00 Pins, R165). -/
structure Pins where
  powered : Bool
  resetN  : Bool
  bypDrv  : Bool
  deriving DecidableEq, Repr

/-- The pins once RESET_N has gone high with power on (R165). -/
def Pins.cold : Pins := { powered := true, resetN := true, bypDrv := true }

/-- What a command puts at Ring Out (R165, R166, R167). -/
inductive RingOut where
  /-- Nothing reaches Ring Out. -/
  | quiet
  /-- An arriving frame leaves unchanged. -/
  | forwarded (raw : List Byte)
  /-- A consumed, stripped or FILL frame leaves its place as a FILL slot. -/
  | slot
  /-- The part sends these bytes in a FILL slot: a frame of its own, or a FILL frame. -/
  | sent (raw : List Byte)
  /-- The released relay passes an arriving frame around the part. -/
  | around (raw : List Byte)
  deriving DecidableEq, Repr

end Sys2Proof.Machine
end

