-- ==== Sys2Proof/Machine/Flags.lean ====
section
/-! DEFINITION. The flags and grades computed from records: the filtered level (R81), the classification of a report (R82), the
battery-low flag (R87), cell grading (R71), lamp eligibility (R132), the hold condition of a destination (R153), and the
clamping of the Settings timers (R181). -/

namespace Sys2Proof.Machine

/-- The filtered level after a report level: 4L at first, then F + trunc((4L - F) / 4) (R81). -/
def filterLevel (f : Option Int) (level : Int) : Int :=
  match f with
  | none => 4 * level
  | some f => f + Int.tdiv (4 * level - f) 4

/-- The classification of a report of quality `q` on a link, with F just updated (R82). -/
def classify (c : LinkCfg) (before : Health) (f : Int) (q : Nat) : Health :=
  let m := f - 4 * c.minLevel
  if q < c.poorQuality ∨ m < 0 then .poor
  else if before = .poor ∧ (m < 8 ∨ q < c.poorQuality + 10) then .poor
  else if m ≥ 4 * (c.goodMargin : Int) ∧ c.goodQuality ≤ q then .good
  else .marginal

/-- The battery-low flag after a battery value (R87). -/
def batteryFlag (low : Bool) (warning b : Nat) : Bool :=
  if b < warning then true else if warning + 5 ≤ b then false else low

/-- The persistence count after a classification (R84). -/
def persistCount (before : Nat) (grade : Health) : Nat := if grade = .poor then min 15 (before + 1) else 0

/-- The grade of a cell after an accepted level, against the busy threshold (R71). -/
def gradeCell (before : CellState) (threshold level : Int) : CellState :=
  if threshold ≤ level then .busy
  else if level ≤ threshold - 6 then .quiet
  else if before = .quiet then .quiet else .busy

/-- A link is eligible for a lamp: in use, lamp node not 0, lamp enable on (R132). -/
def LinkCfg.eligible (c : LinkCfg) : Bool := c.inUse && c.lampNode ≠ 0 && c.lampEnable

/-- A link holds the destinations that name it (R153). -/
def LinkCarrier.holds (c : LinkCarrier) : Bool :=
  c.phase = .tuning || c.phase = .reverting || c.state ≠ .committed

/-- A number brought into a range. -/
def clampTo (lo hi n : Nat) : Nat := max lo (min hi n)

/-- The Settings record with its timers in range (R181). -/
def Settings.clamped (x : Settings) : Settings :=
  { x with
    tuneTimeout := clampTo 20 2000 x.tuneTimeout, meterSilence := clampTo 100 5000 x.meterSilence,
    switcherSilence := clampTo 50 1000 x.switcherSilence, switcherHold := clampTo 0 10000 x.switcherHold,
    lampRefresh := clampTo 1 10 x.lampRefresh, sweepInterval := clampTo 0 3600 x.sweepInterval }

end Sys2Proof.Machine
end

