-- ==== Sys2Proof/Machine/Spectrum.lean ====
section
/-! DEFINITION. Spans and overlap (R12), exclusion windows (R13), cell geometry (R1, R59), and the carriers of a band (R12). -/

namespace Sys2Proof.Machine

/-- An interval of spectrum in half-kHz units (R12). -/
structure Span where
  lo : Int
  hi : Int
  deriving DecidableEq, Repr

/-- Two spans overlap when the low end of each is strictly below the high end of the other (R12). -/
def Span.overlaps (a b : Span) : Bool := a.lo < b.hi && b.lo < a.hi

/-- The span of a carrier at frequency f with width w: from 2f - w to 2f + w (R12). -/
def carrierSpan (f w : Int) : Span := { lo := 2 * f - w, hi := 2 * f + w }

/-- The frequency of channel n: base + n × step (R1). -/
def BandEntry.freq (b : BandEntry) (n : Int) : Int := b.base + n * b.step

/-- The span of the channels first to last; an empty range has none (R12). -/
def BandEntry.rangeSpan (b : BandEntry) (first last : Int) : Option Span :=
  if first ≤ last then some { lo := 2 * b.freq first - b.step, hi := 2 * b.freq last + b.step } else none

/-- The number of occupancy cells: ceiling(count / span) (R1). -/
def BandEntry.cellCount (b : BandEntry) : Nat := (b.count + b.span - 1) / b.span

/-- The cell that holds a channel (R24). -/
def BandEntry.cellOf (b : BandEntry) (n : Nat) : Nat := n / b.span

/-- The first channel of a cell (R1). -/
def BandEntry.cellFirst (b : BandEntry) (j : Nat) : Nat := j * b.span

/-- The last channel of a cell: min((j + 1) × span, count) - 1 (R1). -/
def BandEntry.cellLast (b : BandEntry) (j : Nat) : Int := (min ((j + 1) * b.span) b.count : Nat) - (1 : Int)

/-- The centre channel of a cell: first + floor(c / 2), c = min(span, count - first) (R47, R59). -/
def BandEntry.cellCentre (b : BandEntry) (j : Nat) : Nat := b.cellFirst j + min b.span (b.count - b.cellFirst j) / 2

/-- The span of a cell is that of its channels (R59). -/
def BandEntry.cellSpan (b : BandEntry) (j : Nat) : Option Span := b.rangeSpan (b.cellFirst j) (b.cellLast j)

/-- A span that may be empty overlaps another. -/
def meets (a : Option Span) (b : Span) : Bool :=
  match a with
  | some a => a.overlaps b
  | none => false

/-- The base range of a window against a channel count (R13). -/
def Window.base (w : Window) (count : Nat) : Int × Int :=
  match w.anchor with
  | .bottom => (0, w.size - 1)
  | .top => (count - w.size, count - 1)

/-- The channel ranges a window covers (R13): its base range, or with complement the two parts outside it. -/
def Window.ranges (w : Window) (count : Nat) : List (Int × Int) :=
  let (lo, hi) := w.base count
  if w.complement then [(0, lo - 1), (hi + 1, count - 1)] else [(lo, hi)]

/-- A window overlaps a span when a range it covers overlaps it; a disabled window covers nothing (R13). -/
def Window.covers (w : Window) (b : BandEntry) (s : Span) : Bool :=
  w.enabled && (w.ranges b.count).any fun r => meets (b.rangeSpan r.1 r.2) s

/-- The span a link's carrier occupies at a channel of a band with a width. -/
def BandEntry.channelSpan (b : BandEntry) (n width : Nat) : Span := carrierSpan (b.freq n) width

/-- A link of a band that stands in the plan with a channel (R6, R12). -/
def Link.standsAt (l : Link) (b : BandId) : Option Nat :=
  if l.cfg.band = b && l.carrier.state ≠ .none then l.carrier.channel else none

/-- The TUNING target: link and chosen channel of the Active order in phase TUNING (R12). -/
def tuningTarget (p : Plan) (r : Rte) : Option (LinkId × Nat) :=
  match r.active with
  | some o =>
    match (rd p.links o.link).carrier.phase, o.chosen with
    | .tuning, some (.channel n) => some (o.link, n)
    | _, _ => none
  | none => none

/-- The spans of the carriers of a band: standing carriers of its links, and the TUNING target (R12). -/
def bandCarriers (p : Plan) (r : Rte) (b : BandId) : List Span :=
  let e := rd p.bands b
  ((List.finRange 64).filterMap fun k =>
      ((rd p.links k).standsAt b).map fun n => e.channelSpan n (rd p.links k).cfg.width)
    ++ (match tuningTarget p r with
        | some (k, n) => if (rd p.links k).cfg.band = b then [e.channelSpan n (rd p.links k).cfg.width] else []
        | none => [])

end Sys2Proof.Machine
end

