-- ==== Sys2Proof/Machine/Wire.lean ====
section
/-! DEFINITION. Bytes on the Cue Ring: byte order, signed fields, CRC-16, frames, and the codes of R162 and R163. -/

namespace Sys2Proof.Machine

/-! ## Fields of one, two, three and four bytes, high byte first (00 Conventions) -/

/-- A number in one byte. -/
def byte (n : Nat) : Byte := BitVec.ofNat 8 n

/-- A 16-bit word, high byte first. -/
def halfBytes (h : Half) : List Byte := [h.extractLsb' 8 8, h.extractLsb' 0 8]

/-- A number in two bytes. -/
def n16 (n : Nat) : List Byte := halfBytes (BitVec.ofNat 16 n)

/-- A number in three bytes. -/
def n24 (n : Nat) : List Byte := [byte (n / 65536), byte (n / 256), byte n]

/-- A number in four bytes. -/
def n32 (n : Nat) : List Byte := [byte (n / 16777216), byte (n / 65536), byte (n / 256), byte n]

/-- A signed number in one byte, two's complement. -/
def signedByte (i : Int) : Byte := BitVec.ofInt 8 i

/-- A signed number in two bytes, two's complement. -/
def i16 (i : Int) : List Byte := halfBytes (BitVec.ofInt 16 i)

/-- Two bytes read high byte first, as a word. -/
def half (hi lo : Byte) : Half := hi ++ lo

/-- Two bytes read high byte first, as a number. -/
def u16 (hi lo : Byte) : Nat := hi.toNat * 256 + lo.toNat

/-- Three bytes read high byte first, as a number. -/
def u24 (a b c : Byte) : Nat := a.toNat * 65536 + b.toNat * 256 + c.toNat

/-- The byte of a list at an offset; the callers' length tests come first. -/
def at0 (bs : List Byte) (i : Nat) : Byte := bs.getD i 0

/-- The two-byte number of a list at an offset. -/
def at16 (bs : List Byte) (i : Nat) : Nat := u16 (at0 bs i) (at0 bs (i + 1))

/-! ## CRC-16 (00 Terms, R49, R161) -/

/-- One bit of the CRC-16: shift left, and add the polynomial x¹⁶ + x¹² + x⁵ + 1 when a one leaves. -/
def crcBit (c : Half) : Half := if c.msb then (c <<< 1) ^^^ 0x1021#16 else c <<< 1

/-- `k c`, with `c` reduced to a numeral first: kernel evaluation of a long chain of steps stays shallow. -/
def evalHalf {α : Type} (c : Half) (k : Half → α) : α :=
  match c.toNat with
  | 0 => k 0#16
  | n + 1 => k (BitVec.ofNat 16 (n + 1))

@[simp] theorem evalHalf_eq {α : Type} (c : Half) (k : Half → α) : evalHalf c k = k c := by
  unfold evalHalf
  split <;> rename_i h
  · rw [show c = 0#16 from BitVec.eq_of_toNat_eq (by simpa using h)]
  · rw [← Nat.succ_eq_add_one, ← h, BitVec.ofNat_toNat, BitVec.setWidth_eq]

/-- So many bits of the CRC-16. -/
def crcBits : Nat → Half → Half
  | 0, c => c
  | n + 1, c => evalHalf (crcBit c) (crcBits n)

/-- One byte of the CRC-16, most significant bit first. -/
def crcByte (c : Half) (b : Byte) : Half := crcBits 8 (c ^^^ (b.zeroExtend 16 <<< 8))

/-- The CRC-16 of further bytes, from the value so far. -/
def crcFrom : List Byte → Half → Half
  | [], c => c
  | b :: bs, c => evalHalf (crcByte c b) (crcFrom bs)

/-- CRC-16 with initial value FFFFh and no final inversion. -/
def crc16 (bs : List Byte) : Half := crcFrom bs 0xFFFF#16

/-! ## Frames (R161) -/

/-- Frame kind codes (R161). -/
abbrev Kind.fill : Byte := 0x00
abbrev Kind.cycle : Byte := 0x01
abbrev Kind.tally : Byte := 0x10
abbrev Kind.lamp : Byte := 0x11
abbrev Kind.voice : Byte := 0x20
abbrev Kind.mix : Byte := 0x21
abbrev Kind.meter : Byte := 0x30
abbrev Kind.probe : Byte := 0x31
abbrev Kind.tune : Byte := 0x32
abbrev Kind.tuned : Byte := 0x33
abbrev Kind.cmd : Byte := 0x40
abbrev Kind.rsp : Byte := 0x41
abbrev Kind.note : Byte := 0x42

/-- The header and payload of a frame (R161). -/
def body (kind : Byte) (dst src : Node) (payload : List Byte) : List Byte :=
  kind :: dst :: src :: byte payload.length :: payload

/-- The bytes of a frame on the ring with a given check. -/
def wire (kind : Byte) (dst src : Node) (payload : List Byte) (check : Half) : List Byte :=
  body kind dst src payload ++ halfBytes check

/-- The bytes of a frame the part sends, with a fresh check (R167). -/
def Frame.bytes (f : Frame) : List Byte := wire f.kind f.dst f.src f.payload (crc16 (body f.kind f.dst f.src f.payload))

/-- The FILL frame the part sends: destination 0, source 0 and length 0 (R161). -/
def fillFrame : Frame := { kind := Kind.fill, dst := 0, src := 0, payload := [] }

/-- The frame an arriving run of bytes holds, when it passes its check (R161): length byte 240 or less, all 6 + n bytes
there, and the two check bytes equal to the CRC-16 of bytes 0 to 3 + n. -/
def parseFrame (raw : List Byte) : Option Frame :=
  match raw with
  | kind :: dst :: src :: len :: rest =>
    if len.toNat ≤ 240 && len.toNat + 2 ≤ rest.length then
      let payload := rest.take len.toNat
      if half (at0 rest len.toNat) (at0 rest (len.toNat + 1)) = crc16 (kind :: dst :: src :: len :: payload) then
        some { kind := kind, dst := dst, src := src, payload := payload }
      else none
    else none
  | _ => none

/-! ## Codes (R162, R163) -/

/-- On/off fields as sent. -/
def onOff (b : Bool) : Byte := if b then 1 else 0

/-- On/off fields of a written record: another value than 00h and 01h lies outside the range (R163). -/
def readOnOff (b : Byte) : Option Bool := if b = 0 then some false else if b = 1 then some true else none

/-- Bus bits: bit 0 PROGRAM, bit 1 PREVIEW, bit 2 ISO (R162). -/
def Buses.code (u : Buses) : Byte := byte (u.program.toNat + 2 * u.preview.toNat + 4 * u.iso.toNat)

/-- The buses a bus byte carries; further bits are ignored (R122, R162). -/
def readBuses (b : Byte) : Buses := { program := b.getLsbD 0, preview := b.getLsbD 1, iso := b.getLsbD 2 }

def LinkKind.code : LinkKind → Byte
  | .camera => 0 | .mic => 1 | .ifb => 2 | .ret => 3

def readLinkKind (b : Byte) : Option LinkKind :=
  if b = 0 then some .camera else if b = 1 then some .mic else if b = 2 then some .ifb
  else if b = 3 then some .ret else none

def Anchor.code : Anchor → Byte
  | .bottom => 0 | .top => 1

def readAnchor (b : Byte) : Option Anchor := if b = 0 then some .bottom else if b = 1 then some .top else none

def CarrierState.code : CarrierState → Byte
  | .none => 0 | .committed => 1 | .uncertain => 2 | .lost => 3

def Phase.code : Phase → Byte
  | .idle => 0 | .queued => 1 | .checking => 2 | .tuning => 3 | .reverting => 4

def Health.code : Health → Byte
  | .unknown => 0 | .good => 1 | .marginal => 2 | .poor => 3 | .down => 4

def Reason.code : Reason → Byte
  | .health => 0 | .rescue => 1 | .verify => 2 | .operator => 3

def Cause.code : Cause → Byte
  | .conflict => 0 | .range => 1 | .noSpare => 2 | .planMoving => 3 | .tuneFail => 4 | .tuneTimeout => 5

def CellState.code : CellState → Byte
  | .unmeasured => 0 | .quiet => 1 | .busy => 2 | .own => 3

def SweepMode.code : SweepMode → Byte
  | .onceR => 0 | .once => 1 | .cycle => 2 | .step => 3

def readSweepMode (b : Byte) : Option SweepMode :=
  if b = 0 then some .onceR else if b = 1 then some .once else if b = 2 then some .cycle
  else if b = 3 then some .step else none

def SweepState.code : SweepState → Byte
  | .idle => 0 | .probing => 1 | .paused => 2 | .waiting => 3

def SlotState.code : SlotState → Byte
  | .offline => 0 | .online => 1 | .holding => 2

def OpKind.code : OpKind → Byte
  | .check => 0 | .confirm => 1 | .search => 2 | .audit => 3 | .refill => 4 | .signature => 5

def Origin.code : Origin → Byte
  | .retune => 0 | .management => 1 | .flag => 2

def CheckMode.code : CheckMode → Byte
  | .full => 0 | .exclusionOnly => 1

/-- Verdict codes; 00h while the verdict is absent. -/
def verdictCode : Option Verdict → Byte
  | none => 0 | some .clear => 1 | some .conflict => 2 | some .clean => 3 | some .range => 4

def ConflictKind.code : ConflictKind → Byte
  | .excluded => 0 | .occupied => 1 | .spacing => 2 | .im2 => 3 | .im3 => 4

def Cadence.code : Cadence → Byte
  | .steady => 0 | .slow => 1 | .fast => 2 | .alternate => 3

def readCadence (b : Byte) : Option Cadence :=
  if b = 0 then some .steady else if b = 1 then some .slow else if b = 2 then some .fast
  else if b = 3 then some .alternate else none

/-- RSP statuses (R162, R177); `inWindow` is PROTECTED. -/
inductive RspStatus where
  | ok | clamped | busy | locked | inWindow | conflict | onAir | range | inUse | full | noSuch | keyMismatch
  | bypassed | unknownRequest
  deriving DecidableEq, Repr

def RspStatus.code : RspStatus → Byte
  | .ok => 0x00 | .clamped => 0x01 | .busy => 0x02 | .locked => 0x03 | .inWindow => 0x04 | .conflict => 0x05
  | .onAir => 0x06 | .range => 0x07 | .inUse => 0x08 | .full => 0x09 | .noSuch => 0x0A | .keyMismatch => 0x0B
  | .bypassed => 0x0C | .unknownRequest => 0x0D

/-- NOTE kinds (R162, R187). -/
inductive NoteKind where
  | retuned | retuneFailed | retuneWithdrawn | deferred | linkLost | linkDown | health | battery | sweepDone | cell
  | probeSilent | switcher
  deriving DecidableEq, Repr

def NoteKind.code : NoteKind → Byte
  | .retuned => 0x01 | .retuneFailed => 0x02 | .retuneWithdrawn => 0x03 | .deferred => 0x04 | .linkLost => 0x05
  | .linkDown => 0x06 | .health => 0x07 | .battery => 0x08 | .sweepDone => 0x09 | .cell => 0x0A
  | .probeSilent => 0x0B | .switcher => 0x0C

/-- Request codes (R162). -/
abbrev Req.identify : Byte := 0x01
abbrev Req.status : Byte := 0x02
abbrev Req.read : Byte := 0x03
abbrev Req.write : Byte := 0x04
abbrev Req.check : Byte := 0x05
abbrev Req.audit : Byte := 0x06
abbrev Req.refill : Byte := 0x07
abbrev Req.signature : Byte := 0x08
abbrev Req.readLog : Byte := 0x09
abbrev Req.moveLink : Byte := 0x0B
abbrev Req.releaseLink : Byte := 0x0C
abbrev Req.cancelMove : Byte := 0x0D
abbrev Req.sweepGo : Byte := 0x0E
abbrev Req.sweepStop : Byte := 0x0F
abbrev Req.lampTest : Byte := 0x10
abbrev Req.showLock : Byte := 0x11
abbrev Req.showUnlock : Byte := 0x12
abbrev Req.bypass : Byte := 0x13
abbrev Req.resume : Byte := 0x14
abbrev Req.restart : Byte := 0x15

/-- Table identifiers (R179). -/
abbrev Table.band : Byte := 1
abbrev Table.link : Byte := 2
abbrev Table.window : Byte := 3
abbrev Table.switcher : Byte := 4
abbrev Table.sourcemap : Byte := 5
abbrev Table.palette : Byte := 6
abbrev Table.condition : Byte := 7
abbrev Table.talksrc : Byte := 8
abbrev Table.dest : Byte := 9
abbrev Table.xpoint : Byte := 10
abbrev Table.settings : Byte := 11
abbrev Table.cells : Byte := 12
abbrev Table.spare : Byte := 13
abbrev Table.health : Byte := 14
abbrev Table.orders : Byte := 15

/-- The request code of a management planner request (R162, R182). -/
def OpKind.request : OpKind → Byte
  | .audit => Req.audit
  | .refill => Req.refill
  | .signature => Req.signature
  | .check | .confirm | .search => Req.check

/-- Channel fields with FFFFh for none. -/
def channelOrNone : Option Nat → List Byte
  | some n => n16 n
  | none => n16 0xFFFF

/-- The channel a TUNE or TUNED frame carries for a chosen channel: FFFFh for OFF (R162). -/
def Chosen.wireChannel : Chosen → Nat
  | .channel n => n
  | .off => 0xFFFF

/-- The channel a revert batch carries: FFFFh for none (R109). -/
def previousChannel : Option Nat → Nat
  | some n => n
  | none => 0xFFFF

/-- Targets as ORDERS and RETUNE_FAILED code them: FFFEh SPARE, FFFFh OFF (R163). -/
def Target.wire : Target → List Byte
  | .channel n => n16 n
  | .spare => n16 0xFFFE
  | .off => n16 0xFFFF

/-- Chosen channels as ORDERS codes them: FFFFh OFF, FFFEh absent (R163). -/
def chosenWire : Option Chosen → List Byte
  | some (.channel n) => n16 n
  | some .off => n16 0xFFFF
  | none => n16 0xFFFE

/-- Levels as CELLS codes them: 80h absent (R163). -/
def levelOrAbsent : Option Int → Byte
  | some l => signedByte l
  | none => 0x80

/-- Carrier items of a conflict record (R163): 00h to 3Fh a link, 40h to 7Fh a link marked TARGET, FEh CANDIDATE. -/
def Item.code : Item → Byte
  | .candidate => 0xFE
  | .link k false => byte k
  | .link k true => byte (k + 0x40)

/-- Victims of a conflict record (R163). -/
def Victim.code : Victim → Byte
  | .window w => byte w
  | .cell c => byte c
  | .item i => i.code

/-- A level brought into -127 to 0 (R70, R80): above 0 taken as 0, -128 taken as -127. -/
def reportedLevel (b : Byte) : Int := max (-127) (min 0 b.toInt)

end Sys2Proof.Machine
end

