-- ==== Sys2Proof/Machine/Compat.lean ====
section
/-! DEFINITION. The compatibility arithmetic (R19 to R33) over a snapshot: the checked set, the stages in their order, the
standing evaluation, and the counts of the Conflict Log (R36). -/

namespace Sys2Proof.Machine

/-- An entry of the checked set P (R21). -/
structure Carrier where
  link   : Nat
  freq   : Int
  width  : Int
  target : Bool
  deriving DecidableEq, Repr

/-- An entry as an aggressor or a victim, with its TARGET mark (R35). -/
def Carrier.item (c : Carrier) : Item := .link c.link c.target

/-- The COMMITTED entry of a link, if it has one (R21). -/
def committedEntry (snap : Snapshot) (e : BandEntry) (b : Nat) (mover : Option Nat) (k : LinkId) : List Carrier :=
  let l := rd snap.links k
  if mover ≠ some k.val && l.band.val = b && l.carrier.state ≠ .none then
    match l.carrier.channel with
    | some n => [{ link := k.val, freq := e.freq n, width := l.width, target := false }]
    | none => []
  else []

/-- The TARGET entry of the Active order in TUNING, if it is this link's (R21). -/
def targetEntry (snap : Snapshot) (e : BandEntry) (b : Nat) (mover : Option Nat) (k : LinkId) : List Carrier :=
  match snap.order with
  | some o =>
    if o.link = k && o.phase = .tuning && mover ≠ some k.val && (rd snap.links k).band.val = b then
      match o.chosen with
      | some (.channel n) => [{ link := k.val, freq := e.freq n, width := (rd snap.links k).width, target := true }]
      | _ => []
    else []
  | none => []

/-- The checked set P, ordered by link, the TARGET entry directly after its link's COMMITTED entry (R21). -/
def checkedSet (snap : Snapshot) (e : BandEntry) (b : Nat) (mover : Option Nat) : List Carrier :=
  (List.finRange 64).flatMap fun k => committedEntry snap e b mover k ++ targetEntry snap e b mover k

/-- The shortfall ceiling((T - 2 × |Δ|) / 2) (R30). -/
def shortfall (t delta : Int) : Int := (t - 2 * |delta| + 1) / 2

/-- The spacing test (R25): a SPACING conflict when 2 × |Δ| < w_a + w_b + 2 × G_cc. -/
def spacingTest (e : BandEntry) (agg : Item) (f w : Int) (k : Carrier) : List Conflict :=
  let t := w + k.width + 2 * e.gcc
  let d := f - k.freq
  if 2 * |d| < t then
    [{ kind := .spacing, aggressors := [agg], victim := .item k.item, product := none, shortfall := some (shortfall t d) }]
  else []

/-- The hit inequality of a product on a victim (R26, R28): no hit below 0, and a hit when 2 × |p - f| < w_p + w + 2 × G_im. -/
def productTest (e : BandEntry) (kind : ConflictKind) (aggs : List Item) (p wp : Int) (victim : Item) (f w : Int) :
    List Conflict :=
  let t := wp + w + 2 * e.gim
  if 0 ≤ p && 2 * |p - f| < t then
    [{ kind := kind, aggressors := aggs, victim := .item victim, product := some p, shortfall := some (shortfall t (p - f)) }]
  else []

/-- The two-tone product 2f_a - f_b, of width 2w_a + w_b, on a victim (R26). -/
def im2Test (e : BandEntry) (a b victim : Item × Int × Int) : List Conflict :=
  productTest e .im2 [a.1, b.1] (2 * a.2.1 - b.2.1) (2 * a.2.2 + b.2.2) victim.1 victim.2.1 victim.2.2

/-- The three-tone product f_x + f_y - f_z, of width w_x + w_y + w_z, on a victim (R28). -/
def im3Test (e : BandEntry) (x y z victim : Item × Int × Int) : List Conflict :=
  productTest e .im3 [x.1, y.1, z.1] (x.2.1 + y.2.1 - z.2.1) (x.2.2 + y.2.2 + z.2.2) victim.1 victim.2.1 victim.2.2

/-- A carrier as the product tests take it: item, frequency, width. -/
def Carrier.tone (c : Carrier) : Item × Int × Int := (c.item, c.freq, c.width)

/-- The entries of P at positions other than those given, in order. -/
def others (ps : List (Carrier × Nat)) (skip : List Nat) : List (Carrier × Nat) := ps.filter fun k => k.2 ∉ skip

/-- The pairs of entries x before y, taken with x in order and then y in order (R29). -/
def pairs : List (Carrier × Nat) → List ((Carrier × Nat) × (Carrier × Nat))
  | [] => []
  | x :: rest => rest.map (fun y => (x, y)) ++ pairs rest

/-- The exclusion stage for one aggressor and span: one EXCLUDED conflict for each enabled window of the band that overlaps
(R23). -/
def exclusionStage (snap : Snapshot) (e : BandEntry) (b : Nat) (agg : Item) (s : Span) : List Conflict :=
  (List.finRange 8).flatMap fun w =>
    if (rd snap.windows w).band.val = b && (rd snap.windows w).covers e s then
      [{ kind := .excluded, aggressors := [agg], victim := .window w.val, product := none, shortfall := none }]
    else []

/-- The occupancy stage: one OCCUPIED conflict when the cell holding the channel is BUSY (R24). -/
def occupancyStage (snap : Snapshot) (e : BandEntry) (n : Nat) : List Conflict :=
  let j := e.cellOf n
  if h : j < 256 then
    if (rd snap.cells ⟨j, h⟩).state = .busy then
      [{ kind := .occupied, aggressors := [.candidate], victim := .cell j, product := none, shortfall := none }]
    else []
  else []

/-- The two-tone stage (R27): the candidate as one of a pair, then the candidate as victim. -/
def twoToneStage (e : BandEntry) (ps : List (Carrier × Nat)) (c : Item × Int × Int) : List Conflict :=
  (ps.flatMap fun i =>
    ((others ps [i.2]).flatMap fun k => im2Test e c i.1.tone k.1.tone)
      ++ ((others ps [i.2]).flatMap fun k => im2Test e i.1.tone c k.1.tone))
  ++ ps.flatMap fun i => (others ps [i.2]).flatMap fun j => im2Test e i.1.tone j.1.tone c

/-- The three-tone stage (R29): the candidate as x, as z, and as victim. -/
def threeToneStage (e : BandEntry) (ps : List (Carrier × Nat)) (c : Item × Int × Int) : List Conflict :=
  (ps.flatMap fun y => (others ps [y.2]).flatMap fun z =>
      (others ps [y.2, z.2]).flatMap fun k => im3Test e c y.1.tone z.1.tone k.1.tone)
  ++ ((pairs ps).flatMap fun xy =>
      (others ps [xy.1.2, xy.2.2]).flatMap fun k => im3Test e xy.1.1.tone xy.2.1.tone c k.1.tone)
  ++ (pairs ps).flatMap fun xy =>
      (others ps [xy.1.2, xy.2.2]).flatMap fun z => im3Test e xy.1.1.tone xy.2.1.tone z.1.tone c

/-- What a check or a standing evaluation finds: RANGE, or its conflicts in the order found. -/
inductive Findings where
  | range | conflicts (l : List Conflict)
  deriving DecidableEq, Repr

/-- The band entry a snapshot offers to a check, where the band is in range and enabled (R22, R33). -/
def Snapshot.openBand (snap : Snapshot) : Option BandEntry :=
  match snap.band with
  | some e => if e.enabled then some e else none
  | none => none

/-- One compatibility check (R19, R22 to R29, R32). -/
def compatCheck (snap : Snapshot) (b n w : Nat) (mover : Option Nat) (mode : CheckMode) : Findings :=
  match snap.openBand with
  | none => .range
  | some e =>
    if n < e.count && 1 ≤ w && w ≤ 40000 && mover.all (· < 64) then
      let ps := (checkedSet snap e b mover).zipIdx
      let fc := e.freq n
      let c : Item × Int × Int := (.candidate, fc, w)
      let excluded := exclusionStage snap e b .candidate (carrierSpan fc w)
      match mode with
      | .exclusionOnly => .conflicts excluded
      | .full =>
        .conflicts (excluded ++ occupancyStage snap e n ++ ps.flatMap (fun k => spacingTest e .candidate fc w k.1)
          ++ twoToneStage e ps c ++ (if e.threeTone then threeToneStage e ps c else []))
    else .range

/-- The standing evaluation of a band (R33). -/
def standingEvaluation (snap : Snapshot) (b : Nat) : Findings :=
  match snap.openBand with
  | none => .range
  | some e =>
    let ps := (checkedSet snap e b none).zipIdx
    .conflicts
      ((ps.flatMap fun i => exclusionStage snap e b i.1.item (carrierSpan i.1.freq i.1.width))
        ++ ((pairs ps).flatMap fun ij => spacingTest e ij.1.1.item ij.1.1.freq ij.1.1.width ij.2.1)
        ++ (ps.flatMap fun a => (others ps [a.2]).flatMap fun b =>
              (others ps [a.2, b.2]).flatMap fun k => im2Test e a.1.tone b.1.tone k.1.tone)
        ++ (if e.threeTone then
              (pairs ps).flatMap fun xy => (others ps [xy.1.2, xy.2.2]).flatMap fun z =>
                (others ps [xy.1.2, xy.2.2, z.2]).flatMap fun k =>
                  im3Test e xy.1.1.tone xy.2.1.tone z.1.tone k.1.tone
            else []))

/-- The total of conflicts a result carries, saturating at 65,535 (R32). -/
def Findings.total : Findings → Nat
  | .range => 0
  | .conflicts l => min 65535 l.length

/-- The verdict, with the word for no conflict: CLEAR of a check, CLEAN of a standing evaluation (R32, R33). -/
def Findings.verdict (fine : Verdict) : Findings → Verdict
  | .range => .range
  | .conflicts [] => fine
  | .conflicts _ => .conflict

/-- The conflicts found. -/
def Findings.list : Findings → List Conflict
  | .range => []
  | .conflicts l => l

/-- One conflict counted and, while fewer than sixteen records are held, appended (R36). -/
def ConflictLog.append (l : ConflictLog) (c : Conflict) : ConflictLog :=
  if l.records.length < Config.listCapacity then
    { l with total := min 65535 (l.total + 1), records := l.records ++ [c] }
  else
    { l with total := min 65535 (l.total + 1), overflow := min 255 (l.overflow + 1) }

/-- The carriers a SIGNATURE feeds: each link whose carrier state is other than NONE, six bytes each (R49). -/
def signatureBytes (snap : Snapshot) : List Byte :=
  (List.finRange 64).flatMap fun k =>
    let l := rd snap.links k
    if l.carrier.state ≠ .none then
      [byte k.val, byte l.band.val] ++ channelOrNone l.carrier.channel ++ n16 l.width
    else []

end Sys2Proof.Machine
end

