-- ==== Sys2Proof/Machine/Operands.lean ====
section
/-! DEFINITION. The operands of commands: the fields of arriving payloads (R162) and the written records of the tables, read
from their bytes, and the entries as a READ returns them (R163). A reader of a written record answers none when a field lies
outside its range; what a table's own rule tests besides stands with the rule. -/

namespace Sys2Proof.Machine

/-! ## Small readers -/

/-- A value kept when a test holds. -/
def given (b : Bool) {α : Type} (x : α) : Option α := if b then some x else none

/-- A number in a range. -/
def inRange (lo hi n : Nat) : Option Nat := given (lo ≤ n && n ≤ hi) n

/-- A signed number in a range. -/
def inRangeInt (lo hi i : Int) : Option Int := given (lo ≤ i && i ≤ hi) i

/-- A node field of a record: 0 to 239. -/
def nodeField (b : Byte) : Option Node := given (b.toNat ≤ 239) b

/-- A number below `n`. -/
def finField (n k : Nat) : Option (Fin n) := if h : k < n then some ⟨k, h⟩ else none

/-- A field below `n`, or FFh for none. -/
def finOrNone (n : Nat) (b : Byte) : Option (Option (Fin n)) :=
  if b = 0xFF then some none else (finField n b.toNat).map some

/-! ## Written records (R163) -/

/-- BAND, 18 bytes (R1). -/
def readBand : List Byte → Option BandEntry
  | [en, b2, b1, b0, s1, s0, c1, c0, cc1, cc0, im1, im0, three, span, thr, w1, w0, probe] => do
    let enabled ← readOnOff en
    let step ← inRange 1 65535 (u16 s1 s0)
    let count ← inRange 1 16384 (u16 c1 c0)
    let gcc ← inRange 0 10000 (u16 cc1 cc0)
    let gim ← inRange 0 10000 (u16 im1 im0)
    let threeTone ← readOnOff three
    let span ← inRange 1 64 span.toNat
    let threshold ← inRangeInt (-120) (-20) thr.toInt
    let spareWidth ← inRange 1 40000 (u16 w1 w0)
    let probeNode ← nodeField probe
    return { enabled, base := u24 b2 b1 b0, step, count, gcc, gim, threeTone, span, threshold, spareWidth, probeNode }
  | _ => none

/-- BAND as read. -/
def BandEntry.bytes (b : BandEntry) : List Byte :=
  [onOff b.enabled] ++ n24 b.base ++ n16 b.step ++ n16 b.count ++ n16 b.gcc ++ n16 b.gim
    ++ [onOff b.threeTone, byte b.span, signedByte b.threshold] ++ n16 b.spareWidth ++ [b.probeNode]

/-- LINK, 22 bytes (R5). -/
def readLinkCfg : List Byte → Option LinkCfg
  | [use, kind, band, w1, w0, tx, rx, rx2, prio, auto, rescue, blend, minL, margin, goodQ, poorQ, pers, batt, lampN, lampE,
      trim, talk] => do
    let inUse ← readOnOff use
    let kind ← readLinkKind kind
    let band ← finField 4 band.toNat
    let width ← inRange 1 40000 (u16 w1 w0)
    let tx ← nodeField tx
    let rx ← nodeField rx
    let rx2 ← nodeField rx2
    let priority ← inRange 0 7 prio.toNat
    let autoRetune ← readOnOff auto
    let rescueOnAir ← readOnOff rescue
    let blendLamp ← readOnOff blend
    let minLevel ← inRangeInt (-127) 0 minL.toInt
    let goodMargin ← inRange 0 40 margin.toNat
    let goodQuality ← inRange 0 100 goodQ.toNat
    let poorQuality ← inRange 0 100 poorQ.toNat
    let persistence ← inRange 1 15 pers.toNat
    let batteryWarning ← inRange 0 100 batt.toNat
    let lampNode ← nodeField lampN
    let lampEnable ← readOnOff lampE
    let trim ← inRangeInt (-8) 7 trim.toInt
    let talkback ← finOrNone 32 talk
    return { inUse, kind, band, width, tx, rx, rx2, priority, autoRetune, rescueOnAir, blendLamp, minLevel, goodMargin,
             goodQuality, poorQuality, persistence, batteryWarning, lampNode, lampEnable, trim, talkback }
  | _ => none

/-- An optional number below 255, FFh for none. -/
def finOrNoneByte {n : Nat} : Option (Fin n) → Byte
  | some k => byte k.val
  | none => 0xFF

/-- The configuration fields of LINK as read. -/
def LinkCfg.bytes (c : LinkCfg) : List Byte :=
  [onOff c.inUse, c.kind.code, byte c.band.val] ++ n16 c.width
    ++ [c.tx, c.rx, c.rx2, byte c.priority, onOff c.autoRetune, onOff c.rescueOnAir, onOff c.blendLamp,
        signedByte c.minLevel, byte c.goodMargin, byte c.goodQuality, byte c.poorQuality, byte c.persistence,
        byte c.batteryWarning, c.lampNode, onOff c.lampEnable, signedByte c.trim, finOrNoneByte c.talkback]

/-- LINK as read: configuration, carrier fields, health and merged tally (R163, R179). -/
def Link.bytes (l : Link) : List Byte :=
  l.cfg.bytes ++ channelOrNone l.carrier.channel
    ++ [l.carrier.state.code, onOff l.carrier.forced, l.carrier.phase.code, l.health.grade.code, l.tally.code]

/-- WINDOW, 6 bytes (R13). -/
def readWindow : List Byte → Option Window
  | [en, band, anchor, s1, s0, comp] => do
    let enabled ← readOnOff en
    let band ← finField 4 band.toNat
    let anchor ← readAnchor anchor
    let size ← inRange 1 16384 (u16 s1 s0)
    let complement ← readOnOff comp
    return { enabled, band, anchor, size, complement }
  | _ => none

/-- WINDOW as read. -/
def Window.bytes (w : Window) : List Byte :=
  [onOff w.enabled, byte w.band.val, w.anchor.code] ++ n16 w.size ++ [onOff w.complement]

/-- A suppression map from its 8 bytes: link k at bit (k mod 8) of byte floor(k / 8) (R163). -/
def readMap (bs : List Byte) : Vector Bool 64 := tab fun k => (at0 bs (k.val / 8)).getLsbD (k.val % 8)

/-- One byte of a suppression map as read. -/
def mapByte (m : Vector Bool 64) (i : Nat) : Byte :=
  (List.finRange 8).foldl (fun (acc : Byte) b =>
    if h : i * 8 + b.val < 64 then acc ||| (byte (rd m ⟨i * 8 + b.val, h⟩).toNat <<< b.val) else acc) 0

/-- A suppression map as read. -/
def mapBytes (m : Vector Bool 64) : List Byte := (List.range 8).map (mapByte m)

/-- SWITCHER, 27 bytes (R118). -/
def readSlotCfg (r : List Byte) : Option SlotCfg := do
  let node ← nodeField (at0 r 0)
  let enabled ← readOnOff (at0 r 1)
  return { node, enabled, enables := readBuses (at0 r 2),
           suppress := { program := readMap (r.drop 3), preview := readMap (r.drop 11), iso := readMap (r.drop 19) } }

/-- SWITCHER as read: the written record, then the state (R130). -/
def Slot.bytes (t : Slot) : List Byte :=
  [t.cfg.node, onOff t.cfg.enabled, t.cfg.enables.code] ++ mapBytes t.cfg.suppress.program
    ++ mapBytes t.cfg.suppress.preview ++ mapBytes t.cfg.suppress.iso ++ [t.state.code]

/-- SOURCEMAP, 64 entries of a link number or FFh for none (R119). -/
def readMapRecord (r : List Byte) : Option (List (Option LinkId)) := r.mapM (finOrNone 64)

/-- The source a map record's entry stands for: record r holds slot r / 4's sources 64 × (r mod 4) to 64 × (r mod 4) + 63. -/
def mapSource (rec : Fin 16) (i : Fin 64) : Fin 256 := ⟨64 * (rec.val % 4) + i.val, by omega⟩

/-- The slot of a map record (R119). -/
def mapSlot (rec : Fin 16) : SlotId := ⟨rec.val / 4, by omega⟩

/-- SOURCEMAP as read. -/
def sourceMapBytes (slots : Vector Slot 4) (rec : Fin 16) : List Byte :=
  (List.finRange 64).map fun i => finOrNoneByte (rd (rd slots (mapSlot rec)).map (mapSource rec i))

/-- PALETTE, 4 bytes (R133). -/
def readPalette : List Byte → Option PaletteEntry
  | [r, g, b, br] => do
    let brightness ← inRange 0 15 br.toNat
    return { colour := { red := r, green := g, blue := b }, brightness }
  | _ => none

/-- The bytes of a colour. -/
def Colour.bytes (c : Colour) : List Byte := [c.red, c.green, c.blue]

/-- PALETTE as read. -/
def PaletteEntry.bytes (e : PaletteEntry) : List Byte := e.colour.bytes ++ [byte e.brightness]

/-- CONDITION, 2 bytes (R134). -/
def readCondition : List Byte → Option LampCondition
  | [p, c] => do
    let palette ← finField 8 p.toNat
    let cadence ← readCadence c
    return { palette, cadence }
  | _ => none

/-- CONDITION as read. -/
def LampCondition.bytes (e : LampCondition) : List Byte := [byte e.palette.val, e.cadence.code]

/-- TALKSRC, 3 bytes (R143). -/
def readTalkSource : List Byte → Option TalkSource
  | [node, key, en] => do
    let node ← nodeField node
    let key ← inRange 0 15 key.toNat
    let enabled ← readOnOff en
    return { node, key, enabled }
  | _ => none

/-- TALKSRC as read. -/
def TalkSource.bytes (e : TalkSource) : List Byte := [e.node, byte e.key, onOff e.enabled]

/-- DEST, 6 bytes (R144). -/
def readDest : List Byte → Option Dest
  | [en, link, wired, feed, gain, duck] => do
    let enabled ← readOnOff en
    let link ← finOrNone 64 link
    let wired ← nodeField wired
    let feed ← finOrNone 16 feed
    let gain ← finField 16 gain.toNat
    let duck ← finField 16 duck.toNat
    return { enabled, link, wired, feed, gain, duck }
  | _ => none

/-- DEST as read: the written record, then the flags CALL, DUCKED and held (R145). -/
def Tbm.destBytes (t : Tbm) (d : DestId) : List Byte :=
  let e := rd t.dests d
  [onOff e.enabled, finOrNoneByte e.link, e.wired, finOrNoneByte e.feed, byte e.gain.val, byte e.duck.val,
   byte ((rd t.call d).toNat + 2 * (rd t.ducked d).toNat + 4 * (rd t.held d).toNat)]

/-- XPOINT, 32 entries of on/off and gain code (R145). -/
def readXpoints (r : List Byte) : Option (Vector Xpoint 32) :=
  let entry (d : Fin 32) : Option Xpoint := do
    let on ← readOnOff (at0 r (2 * d.val))
    let gain ← finField 16 (at0 r (2 * d.val + 1)).toNat
    return { on, gain }
  if (List.finRange 32).all fun d => (entry d).isSome then some (tab fun d => (entry d).getD { on := false, gain := 0 })
  else none

/-- XPOINT as read. -/
def xpointBytes (row : Vector Xpoint 32) : List Byte :=
  (List.finRange 32).flatMap fun d => [onOff (rd row d).on, byte (rd row d).gain.val]

/-- SETTINGS, 12 bytes (R181): the report node must be 0 to 239, the timers are clamped by the rule. -/
def readSettings : List Byte → Option Settings
  | [node, t1, t0, m1, m0, s1, s0, h1, h0, lamp, i1, i0] => do
    let reportNode ← nodeField node
    return { reportNode, tuneTimeout := u16 t1 t0, meterSilence := u16 m1 m0, switcherSilence := u16 s1 s0,
             switcherHold := u16 h1 h0, lampRefresh := lamp.toNat, sweepInterval := u16 i1 i0 }
  | _ => none

/-- SETTINGS as read. -/
def Settings.bytes (x : Settings) : List Byte :=
  [x.reportNode] ++ n16 x.tuneTimeout ++ n16 x.meterSilence ++ n16 x.switcherSilence ++ n16 x.switcherHold
    ++ [byte x.lampRefresh] ++ n16 x.sweepInterval

/-! ## Entries of the tables that are only read (R163) -/

/-- CELLS as read. -/
def Cell.bytes (c : Cell) : List Byte := [c.state.code, levelOrAbsent c.last, levelOrAbsent c.peak, byte c.age]

/-- SPARE as read: the whole list of a band. -/
def spareBytes (l : List Spare) : List Byte :=
  byte l.length :: l.flatMap fun e => n16 e.channel ++ [signedByte e.level]

/-- HEALTH as read (R78): the health fields, whether the silence timer runs, and the want's reason. -/
def healthBytes (h : LinkHealth) (want : Option Reason) : List Byte :=
  [h.grade.code] ++ (match h.level with | some f => i16 f | none => n16 0x8000)
    ++ [byte h.lastQuality, (match h.lastBattery with | some b => byte b | none => 0xFF), byte h.persist,
        onOff h.batteryLow, onOff h.silence.isSome, (match want with | some r => r.code | none => 0xFF)]

/-- The answer marks of an order: bit i for the addressed node in place i. -/
def marksByte (nodes : List Addressed) : Byte :=
  byte (nodes.zipIdx.foldl (fun acc a => if a.1.ok then acc + 2 ^ a.2 else acc) 0)

/-- ORDERS as read (R96), with the link's phase. The tag and the snapshot generation of an order that has had none are free
values (notes/assumptions/17); `c` is the counter of free values. -/
def Order.bytes (o : Order) (phase : Phase) (c : Nat) : List Byte :=
  [byte o.link.val] ++ o.target.wire ++ [o.reason.code, onOff o.force] ++ chosenWire o.chosen ++ channelOrNone o.previous
    ++ (List.range 3).map (fun i => (o.nodes[i]?.map (·.node)).getD 0)
    ++ [marksByte o.nodes, o.tag.getD (Config.freeByte c), byte o.confirms]
    ++ (match o.snapGen with | some g => halfBytes g | none => [Config.freeByte (c + 1), Config.freeByte (c + 2)])
    ++ [phase.code]

/-! ## The Conflict Log in READ_LOG (R163) -/

/-- The three aggressor bytes of a record: FFh where the list holds fewer. -/
def aggressorBytes (l : List Item) : List Byte := (List.range 3).map fun i => (l[i]?.map Item.code).getD 0xFF

/-- A record of the log, 12 bytes. -/
def Conflict.bytes (c : Conflict) : List Byte :=
  [c.kind.code] ++ aggressorBytes c.aggressors ++ [c.victim.code]
    ++ (match c.product with | some p => n32 p.toNat | none => n32 0xFFFFFFFF)
    ++ (match c.shortfall with | some d => n24 d.toNat | none => n24 0)

/-- An optional number in two bytes, FFFFh for none. -/
def natOrNone : Option Nat → List Byte
  | some n => n16 n
  | none => n16 0xFFFF

/-- The eight header fields that an operation's start writes; every bit set in the empty log. -/
def headerBytes : Option LogHeader → List Byte
  | some h =>
    [h.operation.code, h.requester.code, (match h.link with | some k => byte k | none => 0xFF), byte h.band]
      ++ natOrNone h.channel ++ natOrNone h.width ++ [h.mode.code] ++ halfBytes h.gen
  | none => List.replicate 11 0xFF

/-- The whole log as READ_LOG carries it: 16 bytes of header and 12 for each record. -/
def ConflictLog.bytes (l : ConflictLog) : List Byte :=
  headerBytes l.header ++ [verdictCode l.verdict] ++ n16 l.total ++ [byte l.overflow, byte l.records.length]
    ++ l.records.flatMap Conflict.bytes

/-! ## Payloads of arriving frames (R162) -/

/-- The entries of a TALLY payload, when its count is 0 to 119 and its length 1 + 2 × count (R121). -/
def readTally (payload : List Byte) : Option (List (Fin 256 × Buses)) :=
  match payload with
  | [] => none
  | c :: rest =>
    if c.toNat ≤ 119 && rest.length = 2 * c.toNat then
      some ((List.range c.toNat).map fun i => ((at0 rest (2 * i)).toFin, readBuses (at0 rest (2 * i + 1))))
    else none

/-- A voice block: flags and 48 samples (R162). -/
def readBlock (payload : List Byte) : Block :=
  { talk := (at0 payload 1).getLsbD 0, samples := tab fun i => half (at0 payload (2 + 2 * i.val)) (at0 payload (3 + 2 * i.val)) }

/-- A link-form METER report (R80), in range. -/
structure Report where
  levelA  : Int
  levelB  : Option Int
  quality : Nat
  battery : Option Nat
  deriving DecidableEq, Repr

/-- The fields of a link-form METER frame after its link number, brought into range (R80, R162). -/
def readReport (presence a b q batt : Byte) : Report :=
  { levelA := reportedLevel a, levelB := given (presence.getLsbD 0) (reportedLevel b), quality := min 100 q.toNat,
    battery := given (presence.getLsbD 1) (min 100 batt.toNat) }

/-- A sweep configuration as SWEEP_GO carries it: none where mode or dwell is not among its values (R64, R163). The band and
the cells are tested by the rule. -/
structure SweepRequest where
  band    : Nat
  start   : Nat
  stop    : Nat
  mode    : SweepMode
  dwell   : Nat
  report  : Bool
  timer   : Bool
  degrade : Bool
  deriving DecidableEq, Repr

/-- The eight parameter bytes of a SWEEP_GO; an on/off field other than 00h is taken as on (R163). -/
def readSweep : List Byte → Option SweepRequest
  | [band, start, stop, mode, dwell, report, timer, degrade] => do
    let mode ← readSweepMode mode
    let dwell ← given (dwell.toNat ∈ [2, 5, 10, 20]) dwell.toNat
    return { band := band.toNat, start := start.toNat, stop := stop.toNat, mode, dwell, report := report ≠ 0,
             timer := timer ≠ 0, degrade := degrade ≠ 0 }
  | _ => none

end Sys2Proof.Machine
end

