-- ==== Sys2Proof/Machine/State.lean ====
section
/-! DEFINITION. The whole state of the part, as plain data, and the machine right after reset. -/

namespace Sys2Proof.Machine

/-- The state of the JSA-6416, block by block (spec/00 Block diagram), with three fields of the model's own: what the last
command put at Ring Out, the counter of free values, and the queue of waiting commands, first in first out. -/
structure State where
  pins    : Pins
  rif     : Rif
  plan    : Plan
  cpl     : Cpl
  swp     : Swp
  lmn     : Lmn
  rte     : Rte
  tly     : Tly
  lmp     : Lmp
  tbm     : Tbm
  mgr     : Mgr
  ringOut : RingOut
  freeCtr : Nat
  pending : List Instr
  deriving DecidableEq, Repr

/-- The reasons a command could stop the machine. The manual names no fault: no meaning answers one. -/
inductive Fault where
  /-- Raised by no command; it stands here because a closed type of reasons must have a name for one. Safe. -/
  | unreachable
  deriving DecidableEq, Repr

/-- The reasons a command could be refused. -/
inductive Refusal where
  /-- Raised by exec for a command whose meaning is not written; safe. -/
  | notModelled (mnemonic : String)
  deriving DecidableEq, Repr

/-- Every record at its cold reset value, with the given number on the address straps (R165). The queue of commands is the
environment's and is handed in. -/
def State.cold (straps : Byte) (pending : List Instr) : State :=
  { pins := .cold, rif := .cold straps, plan := .cold, cpl := .cold, swp := .cold, lmn := .cold, rte := .cold,
    tly := .cold, lmp := .cold, tbm := .cold, mgr := .cold, ringOut := .quiet, freeCtr := 0, pending := pending }

/-- The strap value State.reset assumes: 20. DESIGN CHOICE, unsafe (notes/assumptions/5): the straps are set by the board. -/
def defaultStraps : Byte := 20

/-- The machine right after a cold reset, no command waiting. -/
def State.reset : State := .cold defaultStraps []

end Sys2Proof.Machine
end

