-- ==== Sys2Proof/Machine/Ops.lean ====
section
/-! DEFINITION. The named operations over the state that every block shares: one update per block, the records of links, the
admission of the Control Queue (R169) and the forming of NOTE and RSP frames (R175, R176, R187). -/

namespace Sys2Proof.Machine

/-! ## One update per block -/

def State.onPins (s : State) (f : Pins → Pins) : State := { s with pins := f s.pins }
def State.onRif (s : State) (f : Rif → Rif) : State := { s with rif := f s.rif }
def State.onPlan (s : State) (f : Plan → Plan) : State := { s with plan := f s.plan }
def State.onCpl (s : State) (f : Cpl → Cpl) : State := { s with cpl := f s.cpl }
def State.onSwp (s : State) (f : Swp → Swp) : State := { s with swp := f s.swp }
def State.onLmn (s : State) (f : Lmn → Lmn) : State := { s with lmn := f s.lmn }
def State.onRte (s : State) (f : Rte → Rte) : State := { s with rte := f s.rte }
def State.onTly (s : State) (f : Tly → Tly) : State := { s with tly := f s.tly }
def State.onLmp (s : State) (f : Lmp → Lmp) : State := { s with lmp := f s.lmp }
def State.onTbm (s : State) (f : Tbm → Tbm) : State := { s with tbm := f s.tbm }
def State.onMgr (s : State) (f : Mgr → Mgr) : State := { s with mgr := f s.mgr }
def State.setOut (s : State) (o : RingOut) : State := { s with ringOut := o }
def State.useFree (s : State) (n : Nat) : State := { s with freeCtr := s.freeCtr + n }

/-! ## Records -/

/-- The part runs: power on and RESET_N high (R165). -/
def State.live (s : State) : Bool := s.pins.powered && s.pins.resetN

/-- The part is in NORMAL mode; the bypass entry mark may be set (R164). -/
def State.normal (s : State) : Bool := s.rif.mode = .normal

/-- A link record. -/
def State.link (s : State) (k : LinkId) : Link := rd s.plan.links k

/-- A link record changed. -/
def State.onLink (s : State) (k : LinkId) (f : Link → Link) : State :=
  s.onPlan fun p => { p with links := wr p.links k (f (rd p.links k)) }

/-- The carrier fields of a link changed (R6). -/
def State.onCarrier (s : State) (k : LinkId) (f : LinkCarrier → LinkCarrier) : State :=
  s.onLink k fun l => { l with carrier := f l.carrier }

/-- The health fields of a link changed (R7). -/
def State.onHealth (s : State) (k : LinkId) (f : LinkHealth → LinkHealth) : State :=
  s.onLink k fun l => { l with health := f l.health }

/-- A Band Table entry. -/
def State.band (s : State) (b : BandId) : BandEntry := rd s.plan.bands b

/-- The plan generation advances by one, wrapping (R16). -/
def State.advanceGen (s : State) : State := s.onPlan fun p => { p with gen := p.gen + 1 }

/-! ## Admission to the Control Queue (R169) -/

/-- A queued frame is a NOTE. -/
def Queued.isNote (q : Queued) : Bool := q.cls = .note

/-- The queue without its youngest NOTE (R169). -/
def dropYoungestNote (q : List Queued) : List Queued := (q.reverse.eraseP Queued.isNote).reverse

/-- The Control Queue takes a TUNE, LAMP, PROBE or RSP frame: below 24, or by displacing the youngest NOTE; none when the
frame must wait (R169). -/
def Rif.admitted (r : Rif) (q : Queued) : Option Rif :=
  if r.ctlQ.length < Config.controlCapacity then some { r with ctlQ := r.ctlQ ++ [q] }
  else if r.ctlQ.any Queued.isNote then
    some { r with ctlQ := dropYoungestNote r.ctlQ ++ [q], notesLost := true }
  else none

/-- The Control Queue takes a NOTE other than a CELL report, or drops it and sets NOTES_LOST (R169). -/
def Rif.admitNote (r : Rif) (f : Frame) : Rif :=
  if r.ctlQ.length < Config.controlCapacity then { r with ctlQ := r.ctlQ ++ [{ cls := .note, frame := f }] }
  else { r with notesLost := true }

/-- The Control Queue takes a CELL report, or it must wait (R169). -/
def Rif.admitCell (r : Rif) (f : Frame) : Option Rif :=
  if r.ctlQ.length < Config.controlCapacity then some { r with ctlQ := r.ctlQ ++ [{ cls := .note, frame := f }] }
  else none

/-! ## Notes (R187) -/

/-- Notes are formed: a report node is set and the mode is NORMAL (R187). -/
def State.notesOn (s : State) : Bool := s.mgr.settings.reportNode ≠ 0 && s.normal

/-- A NOTE frame to the report node (R187). -/
def State.noteFrame (s : State) (kind : NoteKind) (fields : List Byte) : Frame :=
  { kind := Kind.note, dst := s.mgr.settings.reportNode, src := s.rif.node, payload := kind.code :: fields }

/-- A NOTE formed and offered, where notes are formed (R187). -/
def note (kind : NoteKind) (fields : List Byte) (s : State) : State :=
  s.onRif fun r => if s.notesOn then r.admitNote (s.noteFrame kind fields) else r

/-! ## Responses (R175, R176) -/

/-- An RSP frame: the CMD's source, code and id, a status and results (R175). -/
def State.rspFrame (s : State) (code : Byte) (a : Asker) (st : RspStatus) (results : List Byte) : Frame :=
  { kind := Kind.rsp, dst := a.src, src := s.rif.node, payload := code :: a.id :: st.code :: results }

/-- An RSP kept in the MGR's output hold, which holds six (R176). DESIGN CHOICE: one beyond the six, which the rule says never
comes, is lost (notes/assumptions/37). -/
def Mgr.keep (m : Mgr) (f : Frame) : Mgr :=
  if m.hold.length < Config.holdCapacity then { m with hold := m.hold ++ [f] } else m

/-- An RSP offered to the Control Queue, or kept in the MGR's output hold (R176). -/
def offerRsp (f : Frame) (s : State) : State :=
  match s.rif.admitted { cls := .rsp, frame := f } with
  | some r => s.onRif fun _ => r
  | none => s.onMgr fun m => m.keep f

/-- The RSP to a CMD taken now: kept apart while the bypass entry mark is set (R173), offered otherwise (R176). -/
def answerCmd (f : Frame) (resume : Bool) (s : State) : State :=
  match s.rif.entry with
  | some e => s.onRif fun r => { r with entry := some { e with kept := e.kept ++ [{ frame := f, resume := resume }] } }
  | none => offerRsp f s

/-- What a request comes to: its status, its results and the state it leaves (R175). -/
structure Reply where
  status  : RspStatus
  results : List Byte
  state   : State
  deriving DecidableEq, Repr

/-- A refused request changes nothing and carries no results (R175). -/
def refuse (st : RspStatus) (s : State) : Reply := { status := st, results := [], state := s }

/-- A request taken with status OK and no results. -/
def accept (s : State) : Reply := { status := .ok, results := [], state := s }

/-! ## Several in turn -/

/-- An operation for each element of a list, in order. -/
def forEach {α : Type} (l : List α) (f : α → State → State) (s : State) : State := l.foldl (fun s a => f a s) s

end Sys2Proof.Machine
end

