-- ==== Sys2Proof/Machine/Planner.lean ====
section
/-! DEFINITION. The Compatibility Planner (R38 to R58): snapshots, the arbiter, requests and refill flags, the progress of an
operation, Spare Lists, and abandonment. The completions that hand a result to the RTE stand in Completions.lean. -/

namespace Sys2Proof.Machine

/-! ## Beginning an operation (R20, R42, R43) -/

/-- Waiting work the arbiter may make active (R42). -/
inductive Work where
  | rte (r : RteRequest)
  | mgr (r : MgrRequest)
  | refill (b : BandId)
  deriving DecidableEq, Repr

/-- The snapshot an operation on a band takes when it begins (R20). -/
def State.snapshot (s : State) (band : Nat) : Snapshot :=
  { band := (finField 4 band).map s.band
    windows := s.plan.windows
    links := tab fun k => { carrier := (s.link k).carrier, band := (s.link k).cfg.band, width := (s.link k).cfg.width }
    order := s.rte.active.map fun o => { link := o.link, phase := (s.link o.link).carrier.phase, chosen := o.chosen }
    cells := match finField 4 band with | some b => rd s.swp.cells b | none => Vector.replicate 256 .cold
    gen := s.plan.gen }

/-- An operation with no progress yet (R38). -/
def freshOp (kind : OpKind) (origin : Origin) (band : Nat) (link channel width : Option Nat) (mode : CheckMode)
    (snap : Snapshot) (asker : Option Asker) : ActiveOp :=
  { kind := kind, origin := origin, band := band, link := link, channel := channel, width := width, mode := mode,
    snap := snap, logged := 0, lastExamined := none, found := none, clearFound := [], emptied := false, asker := asker }

/-- The operation that a piece of work becomes, with the inputs of R19. -/
def State.opOf (s : State) : Work → ActiveOp
  | .rte r =>
    let band := (s.link r.link).cfg.band.val
    freshOp r.kind .retune band (some r.link.val) r.channel (some (s.link r.link).cfg.width) r.mode (s.snapshot band) none
  | .mgr r =>
    match r.kind with
    | .check => freshOp .check .management r.band r.mover (some r.channel) (some r.width) .full (s.snapshot r.band) (some r.asker)
    | k => freshOp k .management r.band none none none .full (s.snapshot r.band) (some r.asker)
  | .refill b => freshOp .refill .flag b.val none none none .full (s.snapshot b.val) none

/-- CHECK, CONFIRM and AUDIT write the Conflict Log; SEARCH, REFILL and SIGNATURE leave it (R34). -/
def OpKind.logs : OpKind → Bool
  | .check | .confirm | .audit => true
  | .search | .refill | .signature => false

/-- The log at an operation's start: cleared, with a fresh header, for a logging operation (R34, R43). -/
def ActiveOp.startLog (op : ActiveOp) (l : ConflictLog) : ConflictLog :=
  if op.kind.logs then
    { ConflictLog.empty with
      header := some
        { operation := op.kind, requester := op.origin, link := op.link, band := op.band, channel := op.channel,
          width := op.width, mode := op.mode, gen := op.snap.gen } }
  else l

/-- The refill flags once an operation has begun: a REFILL clears its band's flag (R41, R43). -/
def ActiveOp.startFlags (op : ActiveOp) (flags : Vector Bool 4) : Vector Bool 4 :=
  match op.kind, finField 4 op.band with
  | .refill, some b => wr flags b false
  | _, _ => flags

/-- An operation begins (R43). -/
def beginOp (w : Work) (s : State) : State :=
  let op := s.opOf w
  s.onCpl fun c => { c with active := some op, log := op.startLog c.log, flags := op.startFlags c.flags }

/-- The RSP of an operation of management origin, at its completion (R44, R46, R48, R49). -/
def answerOp (op : ActiveOp) (st : RspStatus) (results : List Byte) (s : State) : State :=
  match op.asker with
  | some a => offerRsp (s.rspFrame op.kind.request a st results) s
  | none => s

/-- A REFILL of a band that is out of range or disabled in its snapshot completes at once (R47). -/
def ActiveOp.endsAtOnce (op : ActiveOp) : Bool := op.kind = .refill && op.snap.openBand.isNone

/-- The next waiting work, and the planner without it: the RTE place, the management place, the lowest refill flag (R42). -/
def Cpl.nextWork (c : Cpl) : Option (Work × Cpl) :=
  match c.rtePlace with
  | some r => some (.rte r, { c with rtePlace := none })
  | none =>
    match c.mgrPlace with
    | some r => some (.mgr r, { c with mgrPlace := none })
    | none => ((List.finRange 4).find? (rd c.flags)).map fun b => (.refill b, c)

/-- The planner becomes IDLE or takes the next waiting work (R42). Each REFILL that ends at once makes room for the next; the
fuel covers both places and the four flags. -/
def arbitrate : Nat → State → State
  | 0, s => s.onCpl fun c => { c with active := none }
  | n + 1, s =>
    match s.cpl.nextWork with
    | none => s.onCpl fun c => { c with active := none }
    | some (w, c) =>
      let s := beginOp w (s.onCpl fun _ => c)
      match s.cpl.active with
      | some op => if op.endsAtOnce then arbitrate n (answerOp op .range [] s) else s
      | none => s

/-- The arbiter at a completion (R42). -/
def arbiterNext (s : State) : State := arbitrate 8 s

/-- The planner is IDLE and may start work: no active operation, and not in BYPASS (R42). -/
def State.plannerFree (s : State) : Bool := s.cpl.active.isNone && s.normal

/-- A request of the RTE starts at once or waits in the RTE place (R39, R42). -/
def requestRte (r : RteRequest) (s : State) : State :=
  if s.plannerFree then beginOp (.rte r) s else s.onCpl fun c => { c with rtePlace := some r }

/-- A request of management starts at once, waits in the management place, or is refused BUSY: none (R40, R42). -/
def requestMgr (r : MgrRequest) (s : State) : Option State :=
  if s.plannerFree then
    let s := beginOp (.mgr r) s
    match s.cpl.active with
    | some op => some (if op.endsAtOnce then arbiterNext (answerOp op .range [] s) else s)
    | none => some s
  else if s.cpl.mgrPlace.isNone then some (s.onCpl fun c => { c with mgrPlace := some r })
  else none

/-- A band's refill flag is set, and starts a REFILL at once where the planner is IDLE (R41, R42). -/
def setRefillFlag (b : BandId) (s : State) : State :=
  let s := s.onCpl fun c => { c with flags := wr c.flags b true }
  if s.plannerFree then arbiterNext s else s

/-! ## Spare Lists (R51, R52, R53) -/

/-- A band's Spare List changed. -/
def onSpares (b : BandId) (f : List Spare → List Spare) (s : State) : State :=
  s.onCpl fun c => { c with spares := wr c.spares b (f (rd c.spares b)) }

/-- The CPL removes the spare entries that lie in cells reported BUSY or OWN (R51). -/
def spareRemoveCells (b : BandId) (hit : Nat → Bool) (s : State) : State :=
  onSpares b (fun l => l.filter fun e => !hit ((s.band b).cellOf e.channel)) s

/-- The CPL takes the report of a commit: the spare entry at the committed channel leaves, the band's flag is set (R52). -/
def planCommit (b : BandId) (n : Option Nat) (s : State) : State :=
  setRefillFlag b (match n with | some n => onSpares b (fun l => l.filter fun e => e.channel ≠ n) s | none => s)

/-- A band's Spare List is emptied by a band write; a REFILL of the band that is active is marked (R3, R38, R53). -/
def emptySpares (b : BandId) (s : State) : State :=
  (onSpares b (fun _ => []) s).onCpl fun c =>
    { c with active := c.active.map fun op => if op.kind = .refill && op.band = b.val then { op with emptied := true } else op }

/-! ## The progress of an operation -/

/-- What the active operation's check or standing evaluation finds (R44, R46). -/
def ActiveOp.findings (op : ActiveOp) : Findings :=
  match op.kind with
  | .check | .confirm => compatCheck op.snap op.band (op.channel.getD 0) (op.width.getD 0) op.link op.mode
  | .audit => standingEvaluation op.snap op.band
  | .search | .refill | .signature => .conflicts []

/-- The next conflict found is counted and logged (R36). -/
def logConflict (op : ActiveOp) (s : State) : State :=
  match op.findings.list[op.logged]? with
  | some f => s.onCpl fun c => { c with log := c.log.append f, active := some { op with logged := op.logged + 1 } }
  | none => s

/-- Every conflict not yet counted is, and the verdict is written (R34, R36). -/
def finishLog (op : ActiveOp) (fine : Verdict) (s : State) : State :=
  s.onCpl fun c =>
    { c with log := { (op.findings.list.drop op.logged).foldl ConflictLog.append c.log with
                      verdict := some (op.findings.verdict fine) } }

/-- The link's current channel in a SEARCH's snapshot (R45). -/
def ActiveOp.currentChannel (op : ActiveOp) : Option Nat :=
  match op.link.bind (finField 64) with
  | some k => (rd op.snap.links k).carrier.channel
  | none => none

/-- The next entry a SEARCH checks: the first still in the list that is not at the link's current channel. Every other entry
it has examined has left the list, and none joins while it runs, so this is the first after the last examined (R45). -/
def ActiveOp.nextEntry (op : ActiveOp) (l : List Spare) : Option Spare :=
  l.find? fun e => op.currentChannel ≠ some e.channel

/-- The verdict of a SEARCH on one entry: FULL mode, the link as mover, the link's width, against the snapshot (R45). -/
def ActiveOp.entryClear (op : ActiveOp) (e : Spare) : Bool :=
  (compatCheck op.snap op.band e.channel (op.width.getD 0) op.link .full).verdict .clear = .clear

/-- One entry of a SEARCH reaches its verdict: it leaves the live list, and a CLEAR one is the entry found (R45). -/
def searchEntry (s : State) : State :=
  match s.cpl.active with
  | some op =>
    match op.kind, op.found, finField 4 op.band with
    | .search, none, some b =>
      match op.nextEntry (rd s.cpl.spares b) with
      | some e =>
        (onSpares b (fun l => l.filter fun x => x.channel ≠ e.channel) s).onCpl fun c =>
          { c with active := some { op with lastExamined := some e.channel,
                                            found := if op.entryClear e then some e.channel else none } }
      | none => s
    | _, _, _ => s
  | none => s

/-- A SEARCH walks on to its end: so many entries at most. -/
def searchRun : Nat → State → State
  | 0, s => s
  | n + 1, s => searchRun n (searchEntry s)

/-! ## REFILL (R47, R48) -/

/-- A cell number put in its place by last level, lowest first, before it only those not above it (R47). -/
def insertCell (x : Nat × Int) : List (Nat × Int) → List (Nat × Int)
  | [] => [x]
  | y :: l => if x.2 < y.2 then x :: y :: l else y :: insertCell x l

/-- The QUIET cells of the snapshot with their last levels, in the order candidates are taken (R47). -/
def quietCells (snap : Snapshot) (e : BandEntry) : List (Nat × Int) :=
  ((List.finRange 256).filterMap fun j =>
      if j.val < e.cellCount && (rd snap.cells j).state = .quiet then some (j.val, (rd snap.cells j).last.getD 0)
      else none).foldl (fun acc x => insertCell x acc) []

/-- The CLEAR candidates, in the order found, until so many (R47). -/
def refillWalk (snap : Snapshot) (e : BandEntry) (b : Nat) : List (Nat × Int) → Nat → List Spare
  | [], _ => []
  | _ :: _, 0 => []
  | (j, level) :: rest, n + 1 =>
    if (compatCheck snap b (e.cellCentre j) e.spareWidth none .full).verdict .clear = .clear then
      { channel := e.cellCentre j, level := level } :: refillWalk snap e b rest n
    else refillWalk snap e b rest (n + 1)

/-- The candidates of a REFILL (R47). -/
def refillCandidates (op : ActiveOp) : List Spare :=
  match op.snap.openBand with
  | some e => refillWalk op.snap e op.band (quietCells op.snap e) Config.listCapacity
  | none => []

/-- A candidate still stands at completion: its cell is neither BUSY nor OWN, and no COMMITTED link of the band is at its
channel, in the live records (R48). -/
def State.stillSpare (s : State) (b : BandId) (e : Spare) : Bool :=
  (match finField 256 ((s.band b).cellOf e.channel) with
   | some j => (rd (rd s.swp.cells b) j).state ≠ .busy && (rd (rd s.swp.cells b) j).state ≠ .own
   | none => true)
  && (List.finRange 64).all fun k =>
    !((s.link k).cfg.band = b && (s.link k).carrier.state = .committed && (s.link k).carrier.channel = some e.channel)

/-- REFILL_COMPLETION (R48). -/
def completeRefill (op : ActiveOp) (s : State) : State :=
  let op := { op with clearFound := refillCandidates op }
  match finField 4 op.band with
  | some b =>
    let placed := if op.emptied then [] else op.clearFound.filter (s.stillSpare b)
    let s := onSpares b (fun l => if op.emptied then l else placed) (s.onCpl fun c => { c with active := some op })
    arbiterNext (answerOp op .ok ([byte placed.length] ++ halfBytes op.snap.gen) s)
  | none => arbiterNext (answerOp op .range [] s)

/-- AUDIT_COMPLETION (R46). -/
def completeAudit (op : ActiveOp) (s : State) : State :=
  let found := op.findings
  let st : RspStatus :=
    match found.verdict .clean with
    | .range => .range
    | .conflict => .conflict
    | .clear | .clean => .ok
  arbiterNext (answerOp op st (n16 found.total ++ halfBytes op.snap.gen) (finishLog op .clean s))

/-- SIGNATURE_COMPLETION (R49). -/
def completeSignature (op : ActiveOp) (s : State) : State :=
  let fed := signatureBytes op.snap
  arbiterNext (answerOp op .ok (halfBytes (crc16 fed) ++ [byte (fed.length / 6)] ++ halfBytes op.snap.gen) s)

/-! ## Abandonment and resets (R54 to R58) -/

/-- The management requests that an abandonment cuts short: the one running, then the one waiting (R54, R57). -/
def Cpl.cutShort (c : Cpl) : List HeldAnswer :=
  (match c.active with
   | some op => (match op.asker with | some a => [{ kind := op.kind, asker := a }] | none => [])
   | none => [])
  ++ (match c.mgrPlace with | some r => [{ kind := r.kind, asker := r.asker }] | none => [])

/-- The refill flags after the active operation is abandoned by BYPASS: an abandoned REFILL's flag is set again (R54). -/
def Cpl.flagsBack (c : Cpl) : Vector Bool 4 :=
  match c.active with
  | some op =>
    match op.kind, finField 4 op.band with
    | .refill, some b => wr c.flags b true
    | _, _ => c.flags
  | none => c.flags

/-- The CPL abandons its work on entry to BYPASS (R54). -/
def plannerBypass (s : State) : State :=
  s.onCpl fun c =>
    { c with active := none, rtePlace := none, mgrPlace := none, flags := c.flagsBack, answers := c.answers ++ c.cutShort }

/-- The CPL's records at warm restart (R57). -/
def plannerRestart (s : State) : State := s.onCpl fun _ => .cold

/-- RSP frames with status BYPASSED for abandoned requests (R55, R57). -/
def sendBypassed (l : List HeldAnswer) (s : State) : State :=
  forEach l (fun a s => offerRsp (s.rspFrame a.kind.request a.asker .bypassed []) s) s

/-- At RESUME the arbiter starts a REFILL of the lowest flagged band (R56). -/
def plannerResume (s : State) : State := if s.plannerFree then arbiterNext s else s

end Sys2Proof.Machine
end

