-- ==== Sys2Proof/Machine/Sweep.lean ====
section
/-! DEFINITION. The Spectrum Sweeper (R59 to R77): OWN marking, the pass and its cells, the probe exchange, triggers, stops. -/

namespace Sys2Proof.Machine

/-! ## Cells -/

/-- A cell of a band; cell numbers at or above 256 name no cell (R59). -/
def Swp.cell (w : Swp) (b : BandId) (j : Nat) : Cell :=
  match finField 256 j with
  | some j => rd (rd w.cells b) j
  | none => .cold

/-- A cell record replaced. -/
def Swp.setCell (w : Swp) (b : BandId) (j : Nat) (c : Cell) : Swp :=
  match finField 256 j with
  | some j => { w with cells := wr w.cells b (wr (rd w.cells b) j c) }
  | none => w

/-- A state that a report to the CPL answers by removing spares: BUSY or OWN (R51, R61). -/
def CellState.taken : CellState → Bool
  | .busy | .own => true
  | .unmeasured | .quiet => false

/-- A cell after OWN marking: OWN when a carrier overlaps it, and UNMEASURED with age 0 when none does any more (R60). -/
def Cell.marked (c : Cell) (own : Bool) : Cell :=
  if own then { c with state := .own }
  else if c.state = .own then { c with state := .unmeasured, age := 0 }
  else c

/-- The OWN marking of a band's cells recomputed over the cells that `touched` selects, with the reports to the CPL (R60, R61). -/
def remarkCells (b : BandId) (touched : Span → Bool) (s : State) : State :=
  let e := s.band b
  let carriers := bandCarriers s.plan s.rte b
  let old := rd s.swp.cells b
  let new : Vector Cell 256 := tab fun j =>
    if j.val < e.cellCount then
      match e.cellSpan j.val with
      | some sp => if touched sp then (rd old j).marked (carriers.any sp.overlaps) else rd old j
      | none => rd old j
    else rd old j
  spareRemoveCells b
    (fun n => match finField 256 n with
      | some j => (rd new j).state = .own && (rd old j).state ≠ .own
      | none => false)
    (s.onSwp fun w => { w with cells := wr w.cells b new })

/-! ## The pass (R65, R69, R75) -/

/-- The cells of a pass in cell order, from the start cell to the end cell, wrapping at the band's last cell (R65). -/
def passOrder (cfg : SweepCfg) (cellCount : Nat) : List Nat :=
  if cfg.start ≤ cfg.stop then (List.range (cfg.stop + 1 - cfg.start)).map (· + cfg.start)
  else (List.range (cellCount - cfg.start)).map (· + cfg.start) ++ List.range (cfg.stop + 1)

/-- The pass order of the stored configuration on its band as it stands. -/
def State.order (s : State) : List Nat := passOrder s.swp.cfg (s.band s.swp.cfg.band).cellCount

/-- The next cell and its position: the first at or after the cursor that is not OWN (R65). -/
def State.nextCell (s : State) : Option (Nat × Nat) :=
  (s.order.zipIdx.drop s.swp.cursor).find? fun x => (s.swp.cell s.swp.cfg.band x.1).state ≠ .own

/-- The cell at the cursor (R63). -/
def State.cursorCell (s : State) : Option Nat := s.order[s.swp.cursor]?

/-- A PROBE frame (R69, R162). -/
def State.probeFrame (s : State) (p : Probe) : Frame :=
  { kind := Kind.probe, dst := (s.band p.band).probeNode, src := s.rif.node,
    payload := [p.tag, byte p.band.val] ++ n16 p.channel ++ [byte s.swp.cfg.dwell] }

/-- The Control Queue has accepted a PROBE frame: the probe is outstanding and its timer runs for dwell + 20 ms (R69). -/
def probeAccepted (p : Probe) (s : State) : State :=
  s.onSwp fun w => { w with probe := some p, probeTimer := some (w.cfg.dwell + 20), probeHold := none }

/-- What becomes of a PROBE frame that a probed cell has given. -/
abbrev ProbeOffer := HeldProbe → State → State

/-- A PROBE frame kept in the SWP's output hold until a queue-space event (R69, R170). -/
def keepProbe : ProbeOffer := fun h s => s.onSwp fun w => { w with probeHold := some h }

/-- A PROBE frame offered to the Control Queue, or kept in the SWP's output hold (R69, R169). -/
def offerProbe : ProbeOffer := fun h s =>
  match s.rif.admitted { cls := .probe, frame := h.frame } with
  | some r => probeAccepted h.probe (s.onRif fun _ => r)
  | none => keepProbe h s

/-- A cell is probed: new tag, state PROBING, frame offered (R69). -/
def probeCell (offer : ProbeOffer) (j pos : Nat) (s : State) : State :=
  let s := s.onSwp fun w => { w with cursor := pos, probeTag := w.probeTag + 1, state := .probing }
  let p : Probe :=
    { tag := s.swp.probeTag, band := s.swp.cfg.band, cell := j, channel := (s.band s.swp.cfg.band).cellCentre j }
  offer { frame := s.probeFrame p, probe := p } s

/-- The start of a pass: cursor at the start cell, marks clear (R65). -/
def beginPass (s : State) : State :=
  s.onSwp fun w => { w with cursor := 0, marks := Vector.replicate 256 false, passTimeouts := 0 }

/-- The number of cells measured in the pass (R75). -/
def Swp.measured (w : Swp) : Nat := (w.marks.toList.filter id).length

/-- A cell at the end of a pass in which it was not measured (R75). -/
def Cell.aged (c : Cell) : Cell :=
  let age := min 255 (c.age + 1)
  if (c.state = .quiet || c.state = .busy) && age = 8 then { c with age := age, state := .unmeasured }
  else { c with age := age }

/-- The ages of a band's cells at the end of a pass (R75). -/
def ageCells (s : State) : State :=
  let b := s.swp.cfg.band
  s.onSwp fun w =>
    { w with cells := wr w.cells b (tab fun j =>
        let c := rd (rd w.cells b) j
        if j.val < (s.band b).cellCount && c.state ≠ .own && !rd w.marks j then c.aged else c) }

/-- The end of a pass: aging, SWEEP_DONE, the band's refill flag (R75). -/
def passEnd (s : State) : State :=
  setRefillFlag s.swp.cfg.band
    (note .sweepDone ([byte s.swp.cfg.band.val] ++ n16 s.swp.measured ++ n16 s.swp.passTimeouts) (ageCells s))

/-- No probe is outstanding or held (R68, R73, R76). -/
def clearProbe (s : State) : State := s.onSwp fun w => { w with probe := none, probeTimer := none, probeHold := none }

/-- A held CELL report is discarded; losing it sets NOTES_LOST (R74, R171). -/
def discardReport (s : State) : State :=
  if s.swp.reportHold.isSome then
    (s.onSwp fun w => { w with reportHold := none }).onRif fun r => { r with notesLost := true }
  else s

/-- The next cell is taken, or the pass ends and the sweep goes on by its mode (R65, R75). A CYCLE sweep begins a new pass
only after one in which a cell was measured, so a second round is the last. -/
def sweepTake (offer : ProbeOffer) : Nat → State → State
  | 0, s => s
  | n + 1, s =>
    match s.nextCell with
    | some (j, pos) => probeCell offer j pos s
    | none =>
      let measured := s.swp.measured
      let s := passEnd s
      match s.swp.cfg.mode with
      | .once | .onceR => s.onSwp fun w => { w with state := .idle }
      | .step => s.onSwp fun w => { w with state := .waiting, cursor := 0 }
      | .cycle => if measured = 0 then s.onSwp fun w => { w with state := .idle } else sweepTake offer n (beginPass s)

/-- The sweep goes on after a cell is done (R71): in STEP mode to WAITING while a cell remains, otherwise to the next cell. -/
def sweepOnBy (offer : ProbeOffer) (s : State) : State :=
  let s := s.onSwp fun w => { w with cursor := w.cursor + 1 }
  if s.swp.cfg.mode = .step && s.nextCell.isSome then s.onSwp fun w => { w with state := .waiting }
  else sweepTake offer 2 s

/-- The sweep goes on, and the next cell's PROBE frame is offered at once (R69, R71). -/
def sweepOn (s : State) : State := sweepOnBy offerProbe s

/-- The OWN marking recomputed over changed spans (R60), and the probe cleared when its cell became OWN (R73). DESIGN CHOICE: a
STEP sweep in WAITING whose remaining cells all become OWN here ends its pass at its next trigger (notes/assumptions/39). -/
def ownRecompute (b : BandId) (touched : Span → Bool) (s : State) : State :=
  let s := remarkCells b touched s
  if s.swp.state = .probing then
    match s.swp.probe, s.swp.probeHold with
    | some p, _ => if (s.swp.cell p.band p.cell).state = .own then sweepOn (clearProbe s) else s
    | none, some h => if (s.swp.cell h.probe.band h.probe.cell).state = .own then sweepOn (clearProbe s) else s
    | none, none => s
  else s

/-- The cells a changed span touches. -/
def touching (spans : List Span) : Span → Bool := fun c => spans.any c.overlaps

/-- The span of a channel for a link, as it stands, or none for OFF. -/
def State.spanOf (s : State) (k : LinkId) (n : Option Nat) : List Span :=
  match n with
  | some n => [(s.band (s.link k).cfg.band).channelSpan n (s.link k).cfg.width]
  | none => []

/-- OWN recomputed over the spans of a link's channels (R60). -/
def ownRecomputeLink (k : LinkId) (spans : List Span) (s : State) : State :=
  ownRecompute (s.link k).cfg.band (touching spans) s

/-- Every cell of a band set UNMEASURED with no levels and age 0 (R3, R62). -/
def resetCells (b : BandId) (s : State) : State :=
  s.onSwp fun w => { w with cells := wr w.cells b (Vector.replicate 256 .cold) }

/-! ## Triggers (R64, R67, R68) -/

/-- A sweep configuration as it stands is valid (R64 test 1): band enabled, probe node set, both cells below the count. -/
def State.sweepValid (s : State) (band : BandId) (start stop : Nat) : Bool :=
  let e := s.band band
  e.enabled && e.probeNode ≠ 0 && start < e.cellCount && stop < e.cellCount

/-- The configuration a SWEEP_GO carries, where it is valid (R64 test 1). -/
def State.sweepRequest (s : State) (params : List Byte) : Option SweepCfg := do
  let r ← readSweep params
  let band ← finField 4 r.band
  given (s.sweepValid band r.start r.stop)
    { band, start := r.start, stop := r.stop, mode := r.mode, dwell := r.dwell, report := r.report, timer := r.timer,
      degrade := r.degrade }

/-- The sweep starts (R67). -/
def sweepStart (s : State) : State := sweepTake offerProbe 2 (beginPass (s.onSwp fun w => { w with timeouts := 0 }))

/-- The pass is restarted, in ONCE_R mode (R68). -/
def sweepRestart (s : State) : State := sweepTake offerProbe 2 (beginPass (discardReport (clearProbe s)))

/-- An effective trigger, by mode and state (R67). -/
def sweepTrigger (s : State) : State :=
  match s.swp.state with
  | .idle => sweepStart s
  | .probing | .paused => if s.swp.cfg.mode = .onceR then sweepRestart s else s
  | .waiting =>
    if s.swp.cfg.mode = .step then sweepTake offerProbe 2 (if s.swp.cursor = 0 then beginPass s else s) else s

/-- A TIMER or DEGRADE trigger: ignored in BYPASS, and at an IDLE sweep whose configuration is not valid (R67, R77). -/
def sweepAutoTrigger (s : State) : State :=
  if s.normal then
    if s.swp.state = .idle && !s.sweepValid s.swp.cfg.band s.swp.cfg.start s.swp.cfg.stop then s else sweepTrigger s
  else s

/-- A DEGRADE report of the LMN: effective when enabled and the link's band is the configuration's (R67). -/
def degradeReport (k : LinkId) (s : State) : State :=
  if s.swp.cfg.degrade && (s.link k).cfg.band = s.swp.cfg.band then sweepAutoTrigger s else s

/-- An expiry of the sweep interval timer: a TIMER trigger (R68). -/
def intervalExpiry (s : State) : State :=
  if s.swp.interval.isSome && s.swp.cfg.timer then sweepAutoTrigger s else s

/-- The sweep interval timer starts its count, or stops for 0 (R68). -/
def intervalStart (s : State) : State :=
  s.onSwp fun w =>
    { w with interval := if s.mgr.settings.sweepInterval = 0 then none else some (1000 * s.mgr.settings.sweepInterval) }

/-- SWEEP_GO (R64); its parameter list is empty or a configuration. -/
def sweepGo (params : List Byte) (s : State) : Reply :=
  let cfg : Option SweepCfg :=
    if params.isEmpty then given (s.sweepValid s.swp.cfg.band s.swp.cfg.start s.swp.cfg.stop) s.swp.cfg
    else s.sweepRequest params
  match cfg with
  | none => refuse .range s
  | some cfg =>
    if s.swp.state = .idle then accept (sweepTrigger (s.onSwp fun w => { w with cfg := cfg }))
    else if s.swp.cfg.mode = .onceR || s.swp.cfg.mode = .step then accept (sweepTrigger s)
    else refuse .busy s

/-- The sweep returns to IDLE without pass-end actions (R76, R77). -/
def sweepHalt (s : State) : State := (discardReport (clearProbe s)).onSwp fun w => { w with state := .idle }

/-! ## Answers and timeouts (R70 to R74) -/

/-- A CELL note (R74). -/
def State.cellNote (s : State) (p : Probe) (c : Cell) (level : Int) : Frame :=
  s.noteFrame .cell [byte p.band.val, byte p.cell, c.state.code, signedByte level, p.tag]

/-- A CELL report offered: on acceptance the sweep goes on, and the next cell's PROBE frame goes the way given; otherwise the sweep
pauses on the held report (R74). DESIGN CHOICE (notes/assumptions/38): a report accepted at its forming is followed in the same
event by the next PROBE, admitted against the fill that the report left (R169), so a report that took the 24th place is displaced
by it; a report accepted at a queue-space event leaves the next PROBE in the SWP's output hold, one frame at each event (R170). -/
def offerReport (offer : ProbeOffer) (f : Frame) (s : State) : State :=
  match s.rif.admitCell f with
  | some r => sweepOnBy offer ((s.onRif fun _ => r).onSwp fun w => { w with reportHold := none })
  | none => s.onSwp fun w => { w with state := .paused, reportHold := some f }

/-- A cell record after an accepted level (R71). -/
def Cell.measured (c : Cell) (threshold level : Int) : Cell :=
  { state := gradeCell c.state threshold level, last := some level
    peak := some (match c.peak with | some p => max p level | none => level), age := 0 }

/-- An accepted probe answer: the cell is graded, reported to the CPL, and done (R70, R71). -/
def gradeProbe (p : Probe) (level : Int) (s : State) : State :=
  let before := s.swp.cell p.band p.cell
  let after := before.measured (s.band p.band).threshold level
  let s := (clearProbe s).onSwp fun w =>
    { w.setCell p.band p.cell after with
      timeouts := 0
      marks := match finField 256 p.cell with | some j => wr w.marks j true | none => w.marks }
  let s := spareRemoveCells p.band (fun n => n = p.cell && before.state ≠ after.state && after.state.taken) s
  if s.swp.cfg.report && s.notesOn then offerReport offerProbe (s.cellNote p after level) s else sweepOn s

/-- A consumed METER frame of probe form (R70): fields after the form byte. -/
def takeProbeMeter (src : Node) (fields : List Byte) (s : State) : State :=
  match fields, s.swp.probe with
  | [tag, band, c1, c0, level], some p =>
    if tag = p.tag && band.toNat = p.band.val && u16 c1 c0 = p.channel && src = (s.band p.band).probeNode then
      gradeProbe p (reportedLevel level) s
    else s
  | _, _ => s

/-- The probe timer expires (R72). -/
def probeTimeout (s : State) : State :=
  match s.swp.probe, s.swp.probeTimer with
  | some p, some _ =>
    let s := (clearProbe s).onSwp fun w => { w with timeouts := w.timeouts + 1, passTimeouts := w.passTimeouts + 1 }
    if 3 ≤ s.swp.timeouts then
      note .probeSilent [byte p.band.val, byte p.cell, (s.band p.band).probeNode]
        (s.onSwp fun w => { w with state := .idle })
    else sweepOn s
  | _, _ => s

/-- The sweeper at warm restart: cells and sweep at their values of R62 and R63, the interval count restarted (R68, R77). -/
def sweepReset (s : State) : State := intervalStart (s.onSwp fun _ => .cold)

/-- OWN recomputed over every cell of every band, after the RTE has abandoned its orders (R62). -/
def ownRecomputeAll (s : State) : State := forEach (List.finRange 4) (fun b s => remarkCells b (fun _ => true) s) s

end Sys2Proof.Machine
end

