-- ==== Sys2Proof/Machine/Lamps.lean ====
section
/-! DEFINITION. The Lamp Driver (R132 to R142): pending flags, dark debts, composition and the building of LAMP frames. -/

namespace Sys2Proof.Machine

/-- A link is eligible for a lamp (R132). -/
def State.eligible (s : State) (k : LinkId) : Bool := (s.link k).cfg.eligible

/-- A report about a link sets its pending flag, if the link is eligible (R137). -/
def lampPend (k : LinkId) (s : State) : State :=
  s.onLmp fun l => if s.eligible k then { l with pending := wr l.pending k true } else l

/-- Reports about several links at once set the pending flag of each that is eligible (R137). -/
def lampPendWhere (p : LinkId → Bool) (s : State) : State :=
  s.onLmp fun l => { l with pending := tab fun k => rd l.pending k || (p k && s.eligible k) }

/-- The pending flag of every eligible link is set (R137). -/
def lampPendAll (s : State) : State := lampPendWhere (fun _ => true) s

/-- The lamp conditions, highest rank first (R135). -/
inductive LampKind where
  | test | program | call | preview | iso | warning | off
  deriving DecidableEq, Repr

/-- The WARNING test (R135). -/
def Link.warns (l : Link) : Bool :=
  l.carrier.state = .uncertain || l.carrier.state = .lost || l.carrier.phase = .tuning || l.carrier.phase = .reverting
    || l.health.grade = .down

/-- The CALL flag that lights a link's lamp (R135). -/
def State.called (s : State) (k : LinkId) : Bool :=
  match (s.link k).cfg.talkback with
  | some d => rd s.tbm.call d
  | none => false

/-- The condition of an eligible link's lamp: the first that holds (R135). -/
def State.lampKind (s : State) (k : LinkId) : LampKind :=
  let l := s.link k
  if s.lmp.test then .test
  else if l.tally.program then .program
  else if s.called k then .call
  else if l.tally.preview then .preview
  else if l.tally.iso then .iso
  else if l.warns then .warning
  else .off

/-- The entry of a condition in the Lamp Condition table; OFF has none (R134, R136). -/
def LampKind.index : LampKind → Option (Fin 6)
  | .test => some 0 | .program => some 1 | .call => some 2 | .preview => some 3 | .iso => some 4 | .warning => some 5
  | .off => none

/-- The contents of a lamp (R136). -/
structure Lamp where
  cadence    : Cadence
  primary    : Colour
  secondary  : Colour
  brightness : Nat
  deriving DecidableEq, Repr

/-- A palette brightness with a link's trim, held in 0 to 15 (R136). -/
def trimmed (brightness : Nat) (trim : Int) : Nat := (max 0 (min 15 ((brightness : Int) + trim))).toNat

/-- The palette entry of a condition (R136). -/
def Lmp.entryOf (l : Lmp) (i : Fin 6) : PaletteEntry := rd l.palette (rd l.conditions i).palette

/-- The composed lamp of a link (R136). -/
def State.lamp (s : State) (k : LinkId) : Lamp :=
  let c := (s.link k).cfg
  let black := rd s.lmp.palette 0
  match s.lampKind k with
  | .off => { cadence := .steady, primary := black.colour, secondary := black.colour, brightness := trimmed black.brightness c.trim }
  | .program =>
    let e := s.lmp.entryOf 1
    if c.blendLamp && (s.link k).tally.preview then
      { cadence := .alternate, primary := e.colour, secondary := (s.lmp.entryOf 3).colour, brightness := trimmed e.brightness c.trim }
    else
      { cadence := (rd s.lmp.conditions 1).cadence, primary := e.colour, secondary := black.colour,
        brightness := trimmed e.brightness c.trim }
  | kind =>
    let i := kind.index.getD 0
    let e := s.lmp.entryOf i
    { cadence := (rd s.lmp.conditions i).cadence, primary := e.colour, secondary := black.colour,
      brightness := trimmed e.brightness c.trim }

/-- A LAMP frame (R140, R162). -/
def State.lampFrame (s : State) (k : LinkId) (dst : Node) (l : Lamp) : Frame :=
  { kind := Kind.lamp, dst := dst, src := s.rif.node,
    payload := [byte k.val, l.cadence.code] ++ l.primary.bytes ++ l.secondary.bytes ++ [byte l.brightness] }

/-- The unlit lamp of a dark frame (R140). -/
def darkLamp : Lamp :=
  { cadence := .steady, primary := { red := 0, green := 0, blue := 0 }, secondary := { red := 0, green := 0, blue := 0 },
    brightness := 0 }

/-- A link owes a dark frame or has its pending flag set (R140). -/
def Lmp.due (l : Lmp) (k : LinkId) : Bool := (rd l.debts k).isSome || rd l.pending k

/-- The link the next LAMP frame is built for: the first due at or after the next link, wrapping from 63 to 0 (R140). -/
def Lmp.nextDue (l : Lmp) : Option LinkId := ((List.finRange 64).map fun i => l.next + i).find? l.due

/-- The LAMP frame for a link and the Lamp Driver after building it: a dark frame for a debt, a lit frame otherwise (R140). -/
def State.buildLamp (s : State) (k : LinkId) : Frame × Lmp :=
  match rd s.lmp.debts k with
  | some n => (s.lampFrame k n darkLamp, { s.lmp with debts := wr s.lmp.debts k none, next := k })
  | none =>
    (s.lampFrame k (s.link k).cfg.lampNode (s.lamp k), { s.lmp with pending := wr s.lmp.pending k false, next := k + 1 })

/-- The LMP has a LAMP frame to offer (R140). -/
def State.lampDue (s : State) : Bool := s.normal && s.lmp.nextDue.isSome

/-- The Control Queue takes the LMP's offer, and the frame is built at that moment; the offer is not taken when the queue is
full and holds no NOTE (R140, R169). -/
def offerLamp (s : State) : State :=
  if s.normal then
    match s.lmp.nextDue with
    | none => s
    | some k =>
      let built := s.buildLamp k
      match s.rif.admitted { cls := .lamp, frame := built.1 } with
      | some r => (s.onRif fun _ => r).onLmp fun _ => built.2
      | none => s
  else s

/-- What a taken link write means for the link's lamp, from its eligibility before and after (R138); the state holds the new
record already. -/
def lampLinkWrite (k : LinkId) (old new : LinkCfg) (s : State) : State :=
  s.onLmp fun l =>
    if old.eligible then
      if new.eligible then
        if old.lampNode = new.lampNode then { l with pending := wr l.pending k true }
        else { l with debts := wr l.debts k (some old.lampNode), pending := wr l.pending k true }
      else { l with pending := wr l.pending k false, debts := wr l.debts k (some old.lampNode) }
    else if new.eligible then
      { l with pending := wr l.pending k true,
               debts := if rd l.debts k = some new.lampNode then wr l.debts k none else l.debts }
    else l

/-- The refresh timer starts with the Settings period (R139). -/
def lampRefreshStart (s : State) : State := s.onLmp fun l => { l with refresh := some (1000 * s.mgr.settings.lampRefresh) }

/-- WRITE to PALETTE (R133). -/
def writePalette (index : Nat) (record : List Byte) (s : State) : Reply :=
  match finField 8 index with
  | none => refuse .noSuch s
  | some i =>
    match readPalette record with
    | none => refuse .range s
    | some e => accept (lampPendAll (s.onLmp fun l => { l with palette := wr l.palette i e }))

/-- WRITE to CONDITION (R134). -/
def writeCondition (index : Nat) (record : List Byte) (s : State) : Reply :=
  match finField 6 index with
  | none => refuse .noSuch s
  | some i =>
    match readCondition record with
    | none => refuse .range s
    | some e => accept (lampPendAll (s.onLmp fun l => { l with conditions := wr l.conditions i e }))

/-- LAMP_TEST (R141); a value other than on or off is RANGE (R183). -/
def lampTest (params : List Byte) (s : State) : Reply :=
  match readOnOff (at0 params 0) with
  | none => refuse .range s
  | some v => accept (lampPendAll (s.onLmp fun l => { l with test := v }))

/-- The Lamp Driver on entry to BYPASS: the refresh timer stops (R142). -/
def lampBypass (s : State) : State := s.onLmp fun l => { l with refresh := none }

/-- The Lamp Driver at RESUME: every eligible lamp pending, the refresh timer restarted (R142). -/
def lampResume (s : State) : State := lampRefreshStart (lampPendAll s)

/-- The Lamp Driver at warm restart (R142). -/
def lampRestart (s : State) : State :=
  lampRefreshStart (lampPendAll (s.onLmp fun l => { l with test := false, next := 0 }))

end Sys2Proof.Machine
end

