-- ==== Sys2Proof/Machine/Talkback.lean ====
section
/-! DEFINITION. The Talkback Mixer (R143 to R160): tables, voice buffers, the close of an epoch, the mix arithmetic, holds. -/

namespace Sys2Proof.Machine

/-- The multipliers of the gain codes, in units of 1/32768 (R145). -/
def gainTable : Vector Nat 16 :=
  #v[32768, 27571, 23198, 19519, 16423, 13818, 11627, 9782, 8231, 6925, 5827, 4903, 4125, 3471, 2920, 2457]

/-- The multiplier of a gain code (R145). -/
def multiplier (g : Fin 16) : Int := ((rd gainTable g : Nat) : Int)

/-- A term of a mix: floor((x × m + 16384) / 32768) (R151). -/
def mixTerm (x m : Int) : Int := (x * m + 16384) / 32768

/-- The limit of an output sample, -32768 to 32767 (R152). -/
def limit16 (x : Int) : Int := max (-32768) (min 32767 x)

/-- The contributed block of a source at a close, and its buffer afterwards (R149). -/
def Buffer.settle (b : Buffer) : Block × Buffer :=
  match b.arrived with
  | some a => (a, { arrived := none, last := a, misses := 0 })
  | none =>
    if b.misses = 0 then (b.last, { b with misses := 1 })
    else (.silent, { arrived := none, last := .silent, misses := 2 })

/-- A source is a talker of a destination: not its feed, crosspoint on, TALK set (R150). -/
def Tbm.talks (t : Tbm) (blocks : Vector Block 16) (d : DestId) (i : TalkId) : Bool :=
  (rd t.dests d).feed ≠ some i && (rd (rd t.xpoints i) d).on && (rd blocks i).talk

/-- The talkers of a destination (R150). -/
def Tbm.talkers (t : Tbm) (blocks : Vector Block 16) (d : DestId) : List TalkId :=
  (List.finRange 16).filter (t.talks blocks d)

/-- The exact sum of a destination's terms at a sample position (R152); `ducked` chooses the feed's gain. -/
def Tbm.mixSum (t : Tbm) (blocks : Vector Block 16) (d : DestId) (ducked : Bool) (p : Fin 48) : Int :=
  let e := rd t.dests d
  let feed : Int :=
    match e.feed with
    | some f => mixTerm (rd (rd blocks f).samples p).toInt (multiplier (if ducked then e.duck else e.gain))
    | none => 0
  feed + ((t.talkers blocks d).map fun i =>
    mixTerm (rd (rd blocks i).samples p).toInt (multiplier (rd (rd t.xpoints i) d).gain)).sum

/-- The output sample at a position (R152). -/
def Tbm.mixSample (t : Tbm) (blocks : Vector Block 16) (d : DestId) (ducked : Bool) (p : Fin 48) : Half :=
  BitVec.ofInt 16 (limit16 (t.mixSum blocks d ducked p))

/-- A destination's link holds it (R153); a wired destination is never held. -/
def State.linkHolds (s : State) (d : DestId) : Bool :=
  match (rd s.tbm.dests d).link with
  | some k => (s.link k).carrier.holds
  | none => false

/-- Where a destination's MIX frames go: its link's transmitter node, or its wired node (R155). -/
def State.mixNode (s : State) (d : DestId) : Node :=
  match (rd s.tbm.dests d).link with
  | some k => (s.link k).cfg.tx
  | none => (rd s.tbm.dests d).wired

/-- The MIX frame of a destination at a close (R155, R162). -/
def State.mixFrame (s : State) (blocks : Vector Block 16) (d : DestId) (call : Bool) (epoch : Half) : Frame :=
  { kind := Kind.mix, dst := s.mixNode d, src := s.rif.node,
    payload := [byte d.val] ++ halfBytes epoch ++ [byte (call.toNat + 2 * call.toNat)]
      ++ (List.finRange 48).flatMap fun p => halfBytes (s.tbm.mixSample blocks d call p) }

/-- Reports of changed CALL flags set the pending flags of the links whose talkback destination they name (R137, R157). -/
def callReport (changed : DestId → Bool) (s : State) : State :=
  lampPendWhere (fun k => match (s.link k).cfg.talkback with | some d => changed d | none => false) s

/-- The close of an epoch (R148). -/
def closeEpoch (epoch : Half) (s : State) : State :=
  let blocks : Vector Block 16 := tab fun i => (rd s.tbm.buffers i).settle.1
  let on (d : DestId) : Bool := (rd s.tbm.dests d).enabled
  let talked (d : DestId) : Bool := !(s.tbm.talkers blocks d).isEmpty
  let mixed : Vector (Option Frame) 32 := tab fun d =>
    if on d && !s.linkHolds d then some (s.mixFrame blocks d (talked d) epoch) else rd s.rif.voiceQ d
  let s' := (s.onRif fun r => { r with voiceQ := mixed }).onTbm fun t =>
    { t with
      buffers := tab fun i => (rd t.buffers i).settle.2
      call := tab fun d => if on d then talked d else rd t.call d
      ducked := tab fun d => if on d then talked d else rd t.ducked d
      held := tab fun d => on d && s.linkHolds d }
  callReport (fun d => rd s'.tbm.call d ≠ rd s.tbm.call d) s'

/-- An observed CYCLE frame closes the epoch when its payload is an epoch number (R148, R162). -/
def takeCycle (payload : List Byte) (s : State) : State :=
  match payload with
  | [hi, lo] => closeEpoch (half hi lo) s
  | _ => s

/-- The enabled source whose node and key a VOICE frame carries (R147). -/
def Tbm.sourceOf (t : Tbm) (node : Node) (key : Byte) : Option TalkId :=
  (List.finRange 16).find? fun i =>
    (rd t.sources i).enabled && (rd t.sources i).node = node && (rd t.sources i).key = key.toNat

/-- A consumed VOICE frame becomes the arrived block of its source, or is discarded (R147). -/
def takeVoice (src : Node) (payload : List Byte) (s : State) : State :=
  if payload.length = 98 then
    match s.tbm.sourceOf src (at0 payload 0) with
    | none => s
    | some i =>
      if (rd s.tbm.buffers i).arrived.isSome then s
      else s.onTbm fun t =>
        { t with buffers := wr t.buffers i { rd t.buffers i with arrived := some (readBlock payload) } }
  else s

/-- A destination's unsent MIX frame is withdrawn (R156). -/
def withdrawMix (d : DestId) (s : State) : State := s.onRif fun r => { r with voiceQ := wr r.voiceQ d none }

/-- A report about a link withdraws the unsent frames of the destinations it now holds (R153). -/
def mixReport (k : LinkId) (s : State) : State :=
  if (s.link k).carrier.holds then
    s.onRif fun r =>
      { r with voiceQ := tab fun d => if (rd s.tbm.dests d).link = some k then none else rd r.voiceQ d }
  else s

/-- A change of a link's retune phase is reported to the Talkback Mixer and the Lamp Driver (R98). -/
def phaseReport (k : LinkId) (s : State) : State := lampPend k (mixReport k s)

/-- A link's retune phase changed, with its report (R98). -/
def setPhase (k : LinkId) (p : Phase) (s : State) : State :=
  phaseReport k (s.onCarrier k fun c => { c with phase := p })

/-- WRITE to TALKSRC (R143). -/
def writeTalkSource (index : Nat) (record : List Byte) (s : State) : Reply :=
  match finField 16 index with
  | none => refuse .noSuch s
  | some i =>
    match readTalkSource record with
    | none => refuse .range s
    | some e =>
      let old := rd s.tbm.sources i
      if e.node = s.rif.node || (e.enabled && e.node = 0) then refuse .range s
      else if e.enabled && (List.finRange 16).any fun j =>
          j ≠ i && (rd s.tbm.sources j).enabled && (rd s.tbm.sources j).node = e.node
            && (rd s.tbm.sources j).key = e.key then
        refuse .inUse s
      else
        let reset := old.enabled && (!e.enabled || old.node ≠ e.node || old.key ≠ e.key)
        accept (s.onTbm fun t =>
          { t with sources := wr t.sources i e, buffers := if reset then wr t.buffers i .silent else t.buffers })

/-- WRITE to DEST (R144). -/
def writeDest (index : Nat) (record : List Byte) (s : State) : Reply :=
  match finField 32 index with
  | none => refuse .noSuch s
  | some d =>
    match readDest record with
    | none => refuse .range s
    | some e =>
      let old := rd s.tbm.dests d
      if e.enabled && e.link.isNone && (e.wired = 0 || e.wired = s.rif.node) then refuse .range s
      else
        let off := old.enabled && !e.enabled
        let called := rd s.tbm.call d
        let s := s.onTbm fun t =>
          { t with
            dests := wr t.dests d e
            call := if off then wr t.call d false else t.call
            ducked := if off then wr t.ducked d false else t.ducked }
        let s := callReport (fun x => x = d && off && called) s
        accept (if !e.enabled || old.link ≠ e.link || old.wired ≠ e.wired then withdrawMix d s else s)

/-- WRITE to XPOINT (R145). -/
def writeXpoint (index : Nat) (record : List Byte) (s : State) : Reply :=
  match finField 16 index with
  | none => refuse .noSuch s
  | some i =>
    match readXpoints record with
    | none => refuse .range s
    | some row => accept (s.onTbm fun t => { t with xpoints := wr t.xpoints i row })

/-- Every buffer silent and every CALL and DUCKED flag clear, each CALL that was set reported (R158, R159). -/
def talkbackSilence (s : State) : State :=
  callReport (fun d => rd s.tbm.call d)
    (s.onTbm fun t =>
      { t with buffers := Vector.replicate 16 .silent, call := Vector.replicate 32 false,
               ducked := Vector.replicate 32 false })

end Sys2Proof.Machine
end

