-- ==== Sys2Proof/Machine/Health.lean ====
section
/-! DEFINITION. The Link Monitor's records and what a change of health hands on (R78, R86, R92, R93): the part that the Retune
Engine calls. Reports and silence stand in Monitor.lean. -/

namespace Sys2Proof.Machine

/-- A link's want. -/
def State.want (s : State) (k : LinkId) : Option Reason := rd s.lmn.wants k

/-- A link's entry in the Retune Wanted set changed (R88). -/
def setWant (k : LinkId) (w : Option Reason) (s : State) : State := s.onLmn fun l => { l with wants := wr l.wants k w }

/-- The silence timer of a link starts from its full time (R85). -/
def startSilence (k : LinkId) (s : State) : State :=
  s.onHealth k fun h => { h with silence := some s.mgr.settings.meterSilence }

/-- A DEGRADE report is due: the health enters POOR or DOWN from another value (R86). -/
def Health.degrades (old new : Health) : Bool := (new = .poor || new = .down) && old ≠ new

/-- A link's health set, without what it hands on. -/
def setGrade (k : LinkId) (g : Health) (s : State) : State := s.onHealth k fun h => { h with grade := g }

/-- A HEALTH note for a change to GOOD, MARGINAL or POOR (R86). -/
def healthNote (k : LinkId) (old new : Health) (s : State) : State :=
  if (new = .good || new = .marginal || new = .poor) && old ≠ new then
    note .health
      ([byte k.val, old.code, new.code] ++ (match (s.link k).health.level with | some f => i16 f | none => n16 0x8000)
        ++ [byte (s.link k).health.lastQuality]) s
  else s

/-- The DEGRADE report of a change of health (R86). -/
def healthDegrade (k : LinkId) (old new : Health) (s : State) : State :=
  if Health.degrades old new then degradeReport k s else s

/-- The report of a change of health to the Lamp Driver (R86). -/
def healthLamp (k : LinkId) (old new : Health) (s : State) : State := if old ≠ new then lampPend k s else s

/-- The LMN takes the report of a commit to a channel (R92). -/
def healthCommit (k : LinkId) (s : State) : State :=
  let old := (s.link k).health.grade
  healthLamp k old .unknown
    (startSilence k (s.onHealth k fun h => { h with grade := .unknown, level := none, persist := 0 }))

/-- The LMN takes the report of a carrier becoming NONE (R93). -/
def healthNone (k : LinkId) (s : State) : State :=
  let old := (s.link k).health.grade
  healthLamp k old .unknown
    (setWant k none (s.onHealth k fun h =>
      { h with grade := .unknown, level := none, persist := 0, silence := none, batteryLow := false, lastBattery := none }))

/-- The LMN takes the report of a carrier becoming LOST: health DOWN, with its DEGRADE and lamp reports (R93). -/
def healthLost (k : LinkId) (s : State) : State :=
  let old := (s.link k).health.grade
  healthLamp k old .down (healthDegrade k old .down (setGrade k .down s))

end Sys2Proof.Machine
end

