-- ==== Sys2Proof/Machine/Retune.lean ====
section
/-! DEFINITION. The Retune Engine (R96 to R116): places and promotion, planner results, the tuning exchange, commit, revert and
loss, operator orders, withdrawal and abandonment. -/

namespace Sys2Proof.Machine

/-! ## Records -/

/-- The RTE's orders: the Active slot, the Staged slot, the Deferred List (R96). -/
def Rte.orders (r : Rte) : List Order := r.active.toList ++ r.staged.toList ++ r.deferred

/-- A link has an order (R97). -/
def Rte.holds (r : Rte) (k : LinkId) : Bool := r.orders.any fun o => o.link = k

/-- A link's merged tally includes PROGRAM (R112). -/
def State.onAir (s : State) (k : LinkId) : Bool := (s.link k).tally.program

/-- The band of an order's link. -/
def State.bandOf (s : State) (k : LinkId) : BandId := (s.link k).cfg.band

/-! ## TUNE frames (R105, R109) -/

/-- A TUNE frame to a node (R105, R162). -/
def State.tuneFrame (s : State) (o : Order) (tag : Byte) (channel : Nat) (n : Node) : Frame :=
  { kind := Kind.tune, dst := n, src := s.rif.node,
    payload := [byte o.link.val, tag, byte (s.bandOf o.link).val] ++ n16 channel ++ n16 (s.link o.link).cfg.width }

/-- The Control Queue has accepted a frame of the awaited batch; the tune timer starts at its last (R105, R106). -/
def tuneAccepted (s : State) : State :=
  if s.rte.active.isSome && s.rte.hold.all fun h => !h.awaited then
    s.onRte fun r => { r with tuneTimer := some s.mgr.settings.tuneTimeout }
  else s

/-- The frames of a batch offered in order; those the queue cannot take wait in the output hold (R105, R169). -/
def offerTunes : List HeldTune → State → State
  | [], s => s
  | h :: rest, s =>
    match s.rif.admitted { cls := .tune, frame := h.frame } with
    | some r =>
      let s := s.onRif fun _ => r
      offerTunes rest (if rest.isEmpty && h.awaited then tuneAccepted s else s)
    | none => offerTunes rest (s.onRte fun r => { r with hold := r.hold ++ [h] })

/-- A batch for the Active order: a new tag, the order's marks cleared, one frame for each addressed node (R105, R109). -/
def tuneBatch (o : Order) (nodes : List Node) (channel : Nat) (awaited : Bool) (s : State) : State :=
  let tag := s.rte.tuneTag + 1
  let s := s.onRte fun r =>
    { r with tuneTag := tag,
             active := r.active.map fun _ => { o with tag := some tag, nodes := nodes.map fun n => { node := n, ok := false } } }
  offerTunes (nodes.map fun n => { frame := s.tuneFrame o tag channel n, awaited := awaited }) s

/-- The tune timer stops and the held frames of the awaited batch are withdrawn (R109, R110). -/
def endBatch (s : State) : State :=
  s.onRte fun r => { r with tuneTimer := none, hold := r.hold.filter fun h => !h.awaited }

/-- The tune timer stops and the batch is complete (R106): a frame of it still held is no longer awaited, and is still sent. -/
def closeBatch (s : State) : State :=
  s.onRte fun r => { r with tuneTimer := none, hold := r.hold.map fun h => { h with awaited := false } }

/-! ## Launch (R105) -/

/-- The nodes a batch addresses: transmitter, receiver, and second receiver when not 0 (R105). -/
def LinkCfg.radios (c : LinkCfg) : List Node := [c.tx, c.rx] ++ (if c.rx2 = 0 then [] else [c.rx2])

/-- The channel of a chosen target, or none for OFF. -/
def Chosen.channel? : Chosen → Option Nat
  | .channel n => some n
  | .off => none

/-- The Active order launches into TUNING at its chosen channel (R105). -/
def launch (o : Order) (c : Chosen) (s : State) : State :=
  let k := o.link
  let o := { o with chosen := some c, previous := (s.link k).carrier.channel }
  let s := setPhase k .tuning (s.onRte fun r => { r with active := some o })
  let s := ownRecomputeLink k (s.spanOf k c.channel?) s.advanceGen
  tuneBatch o (s.link k).cfg.radios c.wireChannel true s

/-! ## From want to Active slot (R99 to R102) -/

/-- The rank of a want's reason: VERIFY, RESCUE, HEALTH (R99). -/
def Reason.rank : Reason → Nat
  | .verify => 0 | .rescue => 1 | .health => 2 | .operator => 3

/-- A want goes before another: by reason, then higher priority; links are met in rising order, so the first stays (R99). -/
def State.wantBefore (s : State) (a b : LinkId × Reason) : Bool :=
  a.2.rank < b.2.rank || (a.2.rank = b.2.rank && (s.link b.1).cfg.priority < (s.link a.1).cfg.priority)

/-- The entries of the Retune Wanted set, in link order. -/
def State.wantList (s : State) : List (LinkId × Reason) :=
  (List.finRange 64).filterMap fun k => (s.want k).map fun r => (k, r)

/-- The want that ranks first (R99). -/
def State.bestWant (s : State) : Option (LinkId × Reason) :=
  s.wantList.foldl (fun best w => match best with
    | none => some w
    | some b => if s.wantBefore w b then some w else some b) none

/-- A new order made from a want (R99). -/
def State.orderOf (s : State) (k : LinkId) (r : Reason) : Order :=
  let c := (s.link k).carrier
  match r with
  | .verify => Order.fresh k (match c.channel with | some n => .channel n | none => .off) .verify c.forced
  | r => Order.fresh k .spare r false

/-- The oldest deferred order whose link is off PROGRAM (R99). -/
def State.eligibleDeferred (s : State) : Option Order := s.rte.deferred.find? fun o => !s.onAir o.link

/-- The empty Staged slot is filled, where there is a candidate: none when nothing is filled (R99). -/
def fillStaged (s : State) : Option State :=
  match s.eligibleDeferred with
  | some o =>
    some (s.onRte fun r => { r with staged := some o, deferred := r.deferred.filter fun d => d.link ≠ o.link })
  | none =>
    match s.bestWant with
    | some (k, r) => some (setPhase k .queued ((setWant k none s).onRte fun t => { t with staged := some (s.orderOf k r) }))
    | none => none

/-- The staged order may be promoted: off PROGRAM, reason RESCUE, or FORCE (R100). -/
def State.promotable (s : State) (o : Order) : Bool := !s.onAir o.link || o.reason = .rescue || o.force

/-- An order enters the Active slot and the RTE starts it (R102). -/
def startOrder (o : Order) (s : State) : State :=
  let o := { o with confirms := 0 }
  let s := s.onRte fun r => { r with staged := none, active := some o }
  match o.reason, o.target with
  | .verify, .channel n => launch o (.channel n) s
  | .verify, _ => launch o .off s
  | _, .off => launch o .off s
  | _, .spare =>
    requestRte { kind := .search, link := o.link, channel := none, mode := .full } (setPhase o.link .checking s)
  | _, .channel n =>
    requestRte { kind := .check, link := o.link, channel := some n, mode := if o.force then .exclusionOnly else .full }
      (setPhase o.link .checking s)

/-- The staged order is moved to the tail of the Deferred List, with a DEFERRED note (R100). -/
def deferOrder (o : Order) (s : State) : State :=
  note .deferred [byte o.link.val, o.reason.code]
    (s.onRte fun r => { r with staged := none, deferred := r.deferred ++ [o] })

/-- Fills of the Staged slot and promotion tests, one after the other until neither acts (R99, R100). Nothing is filled or
promoted in BYPASS. Each round fills the slot, promotes into the one Active slot, or defers into a list of eight. -/
def settle : Nat → State → State
  | 0, s => s
  | n + 1, s =>
    if s.normal then
      match s.rte.staged with
      | none =>
        match fillStaged s with
        | some s => settle n s
        | none => s
      | some o =>
        if s.rte.active.isSome then s
        else if s.promotable o then settle n (startOrder o s)
        else if s.rte.deferred.length < Config.deferredCapacity then settle n (deferOrder o s)
        else s
    else s

/-- Enough rounds for eight deferrals and one promotion with their fills. -/
def settleRounds : Nat := 24

/-- The fill of an empty Staged slot and the promotion test (R99, R100). -/
def rteSettle (s : State) : State := settle settleRounds s

/-! ## Ends of an order -/

/-- The Active slot empties and the link's phase becomes IDLE, in the records; the reports follow with `phaseReport`. -/
def leaveActive (k : LinkId) (s : State) : State :=
  (s.onCarrier k fun c => { c with phase := .idle }).onRte fun r => { r with active := none }

/-- A RETUNE_FAILED note (R104, R163): the total only for cause CONFLICT. -/
def failedNote (o : Order) (cause : Cause) (total : Nat) (s : State) : State :=
  note .retuneFailed
    ([byte o.link.val, o.reason.code] ++ o.target.wire ++ [cause.code] ++ n16 (if cause = .conflict then total else 0)) s

/-- An order ends FAILED (R104). -/
def failOrder (o : Order) (cause : Cause) (total : Nat) (s : State) : State :=
  rteSettle (failedNote o cause total (phaseReport o.link (leaveActive o.link s)))

/-- Every addressed node has answered OK in TUNING: the order commits (R108). -/
def commit (o : Order) (c : Chosen) (s : State) : State :=
  let k := o.link
  let old := s.spanOf k (s.link k).carrier.channel
  let s := (closeBatch s).onCarrier k fun l =>
    match c with
    | .channel n => { l with channel := some n, state := .committed, forced := o.force }
    | .off => { l with channel := none, state := .none, forced := false }
  let s := (leaveActive k s).advanceGen
  let s := ownRecomputeLink k (old ++ s.spanOf k c.channel?) s
  let s := planCommit (s.bandOf k) c.channel? s
  let s := match c with
    | .channel _ => healthCommit k s
    | .off => healthNone k s
  let s := note .retuned
    ([byte k.val] ++ channelOrNone o.previous ++ channelOrNone c.channel?
      ++ [o.reason.code, onOff (match c with | .channel _ => o.force | .off => false)] ++ halfBytes s.plan.gen) s
  rteSettle (phaseReport k s)

/-- The carrier becomes LOST and the order ends with a LINK_LOST note (R110, R111); the generation advances, and the SWP
recomputes over the given spans. -/
def loseCarrier (o : Order) (cause : Cause) (spans : List Span) (s : State) : State :=
  let k := o.link
  let s := (leaveActive k (s.onCarrier k fun c => { c with state := .lost })).advanceGen
  let s := healthLost k (if spans.isEmpty then s else ownRecomputeLink k spans s)
  let s := note .linkLost
    ([byte k.val, byte (s.bandOf k).val] ++ channelOrNone (s.link k).carrier.channel ++ [cause.code]) s
  rteSettle (phaseReport k s)

/-- A FAIL answer or the expiry of the tune timer in TUNING (R109): the target leaves, and the order is LOST for VERIFY, ends
FAILED where it has no previous channel, or enters REVERTING. -/
def failTuning (o : Order) (cause : Cause) (s : State) : State :=
  let k := o.link
  let s := (endBatch s).onCarrier k fun c => { c with phase := .reverting }
  let s := ownRecomputeLink k (s.spanOf k (o.chosen.bind Chosen.channel?)) s.advanceGen
  let nodes := o.nodes.map (·.node)
  if o.reason = .verify then loseCarrier o cause [] s
  else match o.previous with
    | none => failOrder o cause 0 (tuneBatch o nodes 0xFFFF false s)
    | some n => tuneBatch { o with cause := some cause } nodes n true (phaseReport k s)

/-- A revert ends with every answer OK (R110). -/
def endRevert (o : Order) (s : State) : State :=
  let k := o.link
  let s := (closeBatch s).onCarrier k fun c => { c with state := .committed }
  let s := (leaveActive k s).advanceGen
  let s := ownRecomputeLink k (s.spanOf k o.previous) s
  rteSettle (phaseReport k (failedNote o (o.cause.getD .tuneFail) 0 s))

/-- A revert fails (R110). DESIGN CHOICE (notes/assumptions/41): the LINK_LOST note carries the cause recorded on entry into
REVERTING, not that of the revert's own failure. -/
def failRevert (o : Order) (s : State) : State :=
  loseCarrier o (o.cause.getD .tuneFail) (s.spanOf o.link o.previous) (endBatch s)

/-! ## Answers (R106, R107) -/

/-- The channel of the outstanding batch: the chosen channel in TUNING, the previous channel in REVERTING (R107). -/
def Order.batchChannel (o : Order) (p : Phase) : Option Nat :=
  match p with
  | .tuning => o.chosen.map Chosen.wireChannel
  | .reverting => some (previousChannel o.previous)
  | _ => none

/-- The RTE accepts a TUNED answer (R107). -/
def Order.accepts (o : Order) (p : Phase) (src : Node) (link tag : Byte) (channel : Nat) : Bool :=
  link.toNat = o.link.val && o.tag = some tag && o.batchChannel p = some channel
    && o.nodes.any fun n => n.node = src && !n.ok

/-- A node's answer mark becomes OK (R107). -/
def Order.mark (o : Order) (src : Node) : Order :=
  { o with nodes := o.nodes.map fun n => if n.node = src then { n with ok := true } else n }

/-- An accepted OK answer (R107). -/
def tunedOk (o : Order) (p : Phase) (src : Node) (s : State) : State :=
  let o := o.mark src
  let s := s.onRte fun r => { r with active := some o }
  if o.nodes.all (·.ok) then
    match p, o.chosen with
    | .tuning, some c => commit o c s
    | .reverting, _ => endRevert o s
    | _, _ => s
  else s

/-- An accepted FAIL answer (R107). -/
def tunedFail (o : Order) (p : Phase) (s : State) : State :=
  match p with
  | .tuning => failTuning o .tuneFail s
  | .reverting => failRevert o s
  | _ => s

/-- A consumed TUNED frame (R107, R162). -/
def takeTuned (src : Node) (payload : List Byte) (s : State) : State :=
  match payload, s.rte.active with
  | [link, tag, c1, c0, result], some o =>
    let p := (s.link o.link).carrier.phase
    if o.accepts p src link tag (u16 c1 c0) then
      if result = 0 then tunedOk o p src s else if result = 1 then tunedFail o p s else s
    else s
  | _, _ => s

/-- The tune timer expires (R106). -/
def tuneExpiry (s : State) : State :=
  match s.rte.active, s.rte.tuneTimer with
  | some o, some _ =>
    match (s.link o.link).carrier.phase with
    | .tuning => failTuning o .tuneTimeout s
    | .reverting => failRevert o s
    | _ => s
  | _, _ => s

/-! ## Planner results (R103, R114) -/

/-- A result the CPL hands to the RTE. -/
inductive PlannerResult where
  | clear (channel : Nat) (gen : Half)
  | failed (cause : Cause) (total : Nat)
  deriving DecidableEq, Repr

/-- The mode of a CONFIRM: EXCLUSION_ONLY for a channel target with FORCE (R103). -/
def Order.confirmMode (o : Order) : CheckMode :=
  match o.target with
  | .channel _ => if o.force then .exclusionOnly else .full
  | _ => .full

/-- A result for the Active order is taken (R103). -/
def resultForOrder (o : Order) (res : PlannerResult) (s : State) : State :=
  match res with
  | .failed cause total => failOrder o cause total s
  | .clear n gen =>
    let o := { o with chosen := some (.channel n), snapGen := some gen }
    if gen = s.plan.gen then launch o (.channel n) s
    else if o.confirms < 2 then
      let o := { o with confirms := o.confirms + 1 }
      requestRte { kind := .confirm, link := o.link, channel := some n, mode := o.confirmMode }
        (s.onRte fun r => { r with active := some o })
    else failOrder o .planMoving 0 s

/-- A planner result of origin RETUNE arrives: discarded while the result-owed flag is set, which the discard clears (R114).
DESIGN CHOICE (notes/assumptions/42): one that no Active order in CHECKING awaits changes nothing. -/
def takeResult (res : PlannerResult) (s : State) : State :=
  if s.rte.owed then s.onRte fun r => { r with owed := false }
  else match s.rte.active with
    | some o => if (s.link o.link).carrier.phase = .checking then resultForOrder o res s else s
    | none => s

/-! ## Operator orders and withdrawal (R112 to R115) -/

/-- An operator order is staged: it supersedes the link's want, and the promotion test follows (R112). -/
def stageOrder (o : Order) (s : State) : State :=
  rteSettle (setPhase o.link .queued ((setWant o.link none s).onRte fun r => { r with staged := some o }))

/-- The tests that MOVE_LINK and RELEASE_LINK share after their third (R112). -/
def operatorTests (k : LinkId) (force : Bool) (s : State) : Option RspStatus :=
  if s.rte.holds k then some .busy
  else if s.onAir k && !force then some .onAir
  else if s.rte.staged.isSome then some .full
  else none

/-- The target a MOVE_LINK carries: FFFEh for SPARE, otherwise a channel (R163). -/
def moveTarget (n : Nat) : Target := if n = 0xFFFE then .spare else .channel n

/-- A channel target lies in the link's band, and the band is enabled (R112 test 3). -/
def State.targetInBand (s : State) (k : LinkId) : Target → Bool
  | .channel n => n < (s.band (s.bandOf k)).count && (s.band (s.bandOf k)).enabled
  | _ => true

/-- MOVE_LINK (R112). -/
def moveLink (params : List Byte) (s : State) : Reply :=
  match finField 64 (at0 params 0).toNat with
  | none => refuse .noSuch s
  | some k =>
    let target := moveTarget (at16 params 1)
    let force := at0 params 3 ≠ 0
    if !(s.link k).cfg.inUse then refuse .noSuch s
    else if s.mgr.locked then refuse .locked s
    else if !s.targetInBand k target then refuse .range s
    else match operatorTests k force s with
      | some st => refuse st s
      | none => accept (stageOrder (Order.fresh k target .operator force) s)

/-- RELEASE_LINK (R113). -/
def releaseLink (params : List Byte) (s : State) : Reply :=
  match finField 64 (at0 params 0).toNat with
  | none => refuse .noSuch s
  | some k =>
    let force := at0 params 1 ≠ 0
    if !(s.link k).cfg.inUse then refuse .noSuch s
    else if s.mgr.locked then refuse .locked s
    else if (s.link k).carrier.state = .none then refuse .noSuch s
    else match operatorTests k force s with
      | some st => refuse st s
      | none => accept (stageOrder (Order.fresh k .off .operator force) s)

/-- A staged or deferred order of a link is removed and its phase returns to IDLE (R114, R115). -/
def removeWaiting (k : LinkId) (s : State) : State :=
  setPhase k .idle (s.onRte fun r =>
    { r with staged := r.staged.filter fun o => o.link ≠ k, deferred := r.deferred.filter fun o => o.link ≠ k })

/-- The CPL's part in withdrawing an Active order in CHECKING: its waiting request never runs, or its result is owed (R39, R114). -/
def withdrawRequest (s : State) : State :=
  if s.cpl.rtePlace.isSome then s.onCpl fun c => { c with rtePlace := none }
  else match s.cpl.active with
    | some op => if op.origin = .retune then s.onRte fun r => { r with owed := true } else s
    | none => s

/-- CANCEL_MOVE (R114). -/
def cancelMove (params : List Byte) (s : State) : Reply :=
  match finField 64 (at0 params 0).toNat with
  | none => refuse .noSuch s
  | some k =>
    if s.rte.active.any fun o => o.link = k then
      if (s.link k).carrier.phase = .checking then
        accept (rteSettle (withdrawRequest (phaseReport k (leaveActive k s))))
      else refuse .busy s
    else if s.rte.holds k then accept (rteSettle (removeWaiting k s))
    else refuse .noSuch s

/-- The waiting HEALTH order of a recovered link is withdrawn (R91, R115). -/
def withdrawRecovered (k : LinkId) (s : State) : State :=
  match (s.rte.staged.toList ++ s.rte.deferred).find? fun o => o.link = k with
  | some o =>
    if o.reason = .health then
      rteSettle (note .retuneWithdrawn [byte k.val, o.reason.code] (removeWaiting k s))
    else s
  | none => s

/-- A link's changed tally reaches the RTE (R128): a promotion test for a staged order, a fill when a deferred one has lost
PROGRAM. `lost` says so for each link. -/
def rteTally (changed lost : LinkId → Bool) (s : State) : State :=
  if (s.rte.staged.any fun o => changed o.link) || (s.rte.staged.isNone && s.rte.deferred.any fun o => lost o.link) then
    rteSettle s
  else s

/-! ## Abandonment (R116) -/

/-- Every phase returns to IDLE, and the changes are reported (R116). -/
def idlePhases (s : State) : State :=
  forEach ((List.finRange 64).filter fun k => (s.link k).carrier.phase ≠ .idle) (fun k s => setPhase k .idle s) s

/-- The RTE abandons its orders (R116). -/
def abandonOrders (s : State) : State :=
  let active := s.rte.active
  let s := s.onRte fun r =>
    { r with active := none, staged := none, deferred := [], tuneTimer := none, hold := [], owed := false }
  let s := match active with
    | some o =>
      let p := (s.link o.link).carrier.phase
      if p = .tuning || p = .reverting then
        let s := (s.onCarrier o.link fun c => { c with state := .uncertain }).advanceGen
        ownRecomputeLink o.link (s.spanOf o.link (o.chosen.bind Chosen.channel?)) s
      else s
    | none => s
  idlePhases s

end Sys2Proof.Machine
end

