-- ==== Sys2Proof/Machine/Completions.lean ====
section
/-! DEFINITION. The completions of CHECK, CONFIRM and SEARCH (R44, R45): the result is formed and handed to its origin while
the planner is still RUNNING, and the arbiter then takes the next work (R42). That order is a DESIGN CHOICE for a result of
origin RETUNE (notes/assumptions/40). -/

namespace Sys2Proof.Machine

/-- The result of a CHECK or CONFIRM as the RTE takes it (R44, R103). -/
def ActiveOp.checkResult (op : ActiveOp) : PlannerResult :=
  match op.findings.verdict .clear with
  | .clear | .clean => .clear (op.channel.getD 0) op.snap.gen
  | .conflict => .failed .conflict op.findings.total
  | .range => .failed .range 0

/-- The RSP status of a management CHECK (R44). -/
def ActiveOp.checkStatus (op : ActiveOp) : RspStatus :=
  match op.findings.verdict .clear with
  | .clear | .clean => .ok
  | .conflict => .conflict
  | .range => .range

/-- CHECK_COMPLETION (R44). DESIGN CHOICE (notes/assumptions/40): the RTE takes a result of origin RETUNE before the arbiter
picks, so the request the RTE then makes goes ahead of a waiting management request. -/
def completeCheck (op : ActiveOp) (s : State) : State :=
  let s := finishLog op .clear s
  let s := match op.origin with
    | .retune => takeResult op.checkResult s
    | .management | .flag => answerOp op op.checkStatus (n16 op.findings.total ++ halfBytes op.snap.gen) s
  arbiterNext s

/-- The result of a SEARCH that has reached its end (R45). -/
def ActiveOp.searchResult (op : ActiveOp) : PlannerResult :=
  match op.found with
  | some n => .clear n op.snap.gen
  | none => .failed .noSpare 0

/-- SEARCH_COMPLETION (R45): the walk reaches its end, and the result goes to the RTE. DESIGN CHOICE (notes/assumptions/40): the
RTE takes it before the arbiter picks, so the request the RTE then makes goes ahead of a waiting management request. -/
def completeSearch (s : State) : State :=
  let s := searchRun Config.listCapacity s
  match s.cpl.active with
  | some op => arbiterNext (takeResult op.searchResult s)
  | none => s

end Sys2Proof.Machine
end

