-- ==== Sys2Proof/Machine/Monitor.lean ====
section
/-! DEFINITION. The Link Monitor (R79 to R95): accepting and digesting reports, silence, the Retune Wanted set, restart. -/

namespace Sys2Proof.Machine

/-- A link-form METER frame is accepted for a link (R79). -/
def Link.hears (l : Link) (src : Node) : Bool :=
  l.cfg.inUse && l.carrier.state ≠ .none && (src = l.cfg.rx || (src = l.cfg.rx2 && l.cfg.rx2 ≠ 0))

/-- The report level: the greater of A and B, or A alone (R80). -/
def Report.level (r : Report) : Int :=
  match r.levelB with
  | some b => max r.levelA b
  | none => r.levelA

/-- A link may enter the Retune Wanted set for HEALTH or RESCUE (R89). -/
def State.mayWant (s : State) (k : LinkId) : Bool :=
  (s.link k).cfg.autoRetune && (s.link k).carrier.phase = .idle && (s.want k).isNone

/-- A link enters the Retune Wanted set, and the RTE fills its Staged slot (R89, R99). -/
def enterWant (k : LinkId) (r : Reason) (s : State) : State := rteSettle (setWant k (some r) s)

/-- The BATTERY note of a report, where the flag goes from off to on (R87). -/
def batteryNote (k : LinkId) (before : Bool) (battery : Option Nat) (s : State) : State :=
  match battery with
  | some b => if !before && (s.link k).health.batteryLow then note .battery [byte k.val, byte b] s else s
  | none => s

/-- The wanted-set changes of a graded report: a HEALTH want at the persistence setting, the withdrawal at GOOD (R89, R91). -/
def reportWants (k : LinkId) (before : LinkHealth) (grade : Health) (s : State) : State :=
  if grade = .good then
    if before.grade ≠ .good then withdrawRecovered k (setWant k none s) else s
  else if grade = .poor && before.persist < 15 && before.persist + 1 = (s.link k).cfg.persistence && s.mayWant k then
    enterWant k .health s
  else s

/-- A report in range digested (R80): F, quality, battery, grade, silence timer; then what it hands on, in the order of R86. -/
def digest (k : LinkId) (rep : Report) (s : State) : State :=
  let l := s.link k
  let f := filterLevel l.health.level rep.level
  let graded := l.carrier.state = .committed
  let grade := if graded then classify l.cfg l.health.grade f rep.quality else l.health.grade
  let s := startSilence k (s.onHealth k fun h =>
    { h with
      level := some f
      lastQuality := rep.quality
      lastBattery := match rep.battery with | some b => some b | none => h.lastBattery
      batteryLow := match rep.battery with
        | some b => batteryFlag h.batteryLow l.cfg.batteryWarning b
        | none => h.batteryLow
      grade := grade
      persist := if graded then persistCount h.persist grade else h.persist })
  let s := healthNote k l.health.grade grade s
  let s := batteryNote k l.health.batteryLow rep.battery s
  let s := healthDegrade k l.health.grade grade s
  let s := if graded then reportWants k l.health grade s else s
  healthLamp k l.health.grade grade s

/-- A link-form METER frame reaches the LMN (R79, R162): fields after the form byte. -/
def takeLinkMeter (src : Node) (fields : List Byte) (s : State) : State :=
  match fields with
  | [link, presence, a, b, q, batt] =>
    match finField 64 link.toNat with
    | some k => if (s.link k).hears src then digest k (readReport presence a b q batt) s else s
    | none => s
  | _ => s

/-- The wanted-set changes of a DOWN by silence (R89, R90). -/
def silenceWants (k : LinkId) (s : State) : State :=
  let rescue := (s.link k).cfg.rescueOnAir
  if s.mayWant k then enterWant k (if rescue then .rescue else .health) s
  else if s.want k = some .health && rescue then setWant k (some .rescue) s
  else s

/-- A link's silence timer expires (R85). DEDUCED (notes/assumptions/29): an expiry of a COMMITTED link whose health is DOWN already
sends the LINK_DOWN note and makes the wanted-set changes of R89 and R90 as any other does. -/
def silenceExpiry (k : LinkId) (s : State) : State :=
  let l := s.link k
  match l.health.silence with
  | none => s
  | some _ =>
    let s := s.onHealth k fun h => { h with silence := none }
    if l.carrier.state = .committed then
      let s := setGrade k .down s
      let s := note .linkDown ([byte k.val, byte l.cfg.band.val] ++ channelOrNone l.carrier.channel) s
      let s := healthDegrade k l.health.grade .down s
      healthLamp k l.health.grade .down (silenceWants k s)
    else s

/-- A VERIFY entry for every link whose carrier is UNCERTAIN and which is not in the set (R94, R95). -/
def verifyWants (s : State) : State :=
  s.onLmn fun l => { l with wants := tab fun k =>
    if (rd l.wants k).isNone && (s.link k).carrier.state = .uncertain then some .verify else rd l.wants k }

/-- The LMN at warm restart, after the RTE has abandoned its orders (R95): health fields of R7, the set emptied, timers of
COMMITTED links started, VERIFY entries. -/
def monitorRestart (s : State) : State :=
  let s := (s.onPlan fun p => { p with links := tab fun k =>
      let l := rd p.links k
      { l with health := { LinkHealth.cold with
          silence := if l.carrier.state = .committed then some s.mgr.settings.meterSilence else none } } }).onLmn
    fun _ => .cold
  verifyWants s

end Sys2Proof.Machine
end

