-- ==== Sys2Proof/Machine/PlanWrites.lean ====
section
/-! DEFINITION. The writes that the Plan Store and the MGR test and take: BAND (R2, R3), LINK (R8, R9, R10), WINDOW (R14, R15)
and SETTINGS (R181). -/

namespace Sys2Proof.Machine

/-! ## BAND -/

/-- A link stands in a band's way: a carrier state other than NONE or a phase other than IDLE (R2 test 5). -/
def Link.engages (l : Link) (b : BandId) : Bool :=
  l.cfg.band = b && (l.carrier.state ≠ .none || l.carrier.phase ≠ .idle)

/-- A geometry field differs: base, step, count or span (R1, R3). -/
def BandEntry.geometryDiffers (a b : BandEntry) : Bool :=
  a.base ≠ b.base || a.step ≠ b.step || a.count ≠ b.count || a.span ≠ b.span

/-- What R2 test 4 asks of an entry beyond its fields' ranges. -/
def State.bandFits (s : State) (b : BandId) (e : BandEntry) : Bool :=
  e.base + (e.count - 1) * e.step ≤ 16777215 && e.cellCount ≤ 256
    && (List.finRange 8).all fun w =>
      !((rd s.plan.windows w).enabled && (rd s.plan.windows w).band = b && e.count < (rd s.plan.windows w).size)

/-- A taken band write (R3). -/
def takeBand (b : BandId) (e : BandEntry) (s : State) : State :=
  let old := s.band b
  let s := (s.onPlan fun p => { p with bands := wr p.bands b e }).advanceGen
  let s := if old.geometryDiffers e then remarkCells b (fun _ => true) (resetCells b s) else s
  if old.geometryDiffers e || (old.enabled && !e.enabled) then emptySpares b s else s

/-- WRITE to BAND (R2). -/
def writeBand (index : Nat) (record : List Byte) (s : State) : Reply :=
  match finField 4 index with
  | none => refuse .noSuch s
  | some b =>
    if s.mgr.locked then refuse .locked s
    else if s.swp.state ≠ .idle && s.swp.cfg.band = b then refuse .busy s
    else match readBand record with
      | none => refuse .range s
      | some e =>
        if !s.bandFits b e then refuse .range s
        else if ((s.band b).geometryDiffers e || (s.band b).enabled ≠ e.enabled)
            && (List.finRange 64).any fun k => (s.link k).engages b then
          refuse .inUse s
        else accept (takeBand b e s)

/-! ## LINK -/

/-- What R8 test 4 asks of a configuration beyond its fields' ranges. -/
def LinkCfg.sound (c : LinkCfg) (own : Node) : Bool :=
  c.poorQuality ≤ c.goodQuality
    && (!c.inUse || (c.tx ≠ 0 && c.rx ≠ 0))
    && (c.tx ≠ own && c.rx ≠ own && c.rx2 ≠ own)
    && (c.tx = 0 || (c.tx ≠ c.rx && c.tx ≠ c.rx2))
    && (c.rx = 0 || c.rx ≠ c.rx2)

/-- A link's carrier stands (R8). -/
def Link.stands (l : Link) : Bool := l.carrier.state ≠ .none

/-- A link's carrier at a width overlaps an enabled window of its band (R8 test 6). -/
def State.widthBarred (s : State) (k : LinkId) (width : Nat) : Bool :=
  let b := s.bandOf k
  match (s.link k).carrier.channel with
  | some n => (List.finRange 8).any fun w =>
      (rd s.plan.windows w).band = b && (rd s.plan.windows w).covers (s.band b) ((s.band b).channelSpan n width)
  | none => false

/-- The carrier leaves the plan at a retirement (R10): state NONE, no channel, forced off; the phase stays. -/
def LinkCarrier.retired (c : LinkCarrier) : LinkCarrier := { c with channel := none, state := .none, forced := false }

/-- What AUTO_RETUNE going off does to a link's want: HEALTH and RESCUE leave, VERIFY stays (R9). -/
def dropWant (k : LinkId) (s : State) : State :=
  if s.want k = some .health || s.want k = some .rescue then setWant k none s else s

/-- A taken link write (R9, R10). The generation advances at most once (R16). DEDUCED (notes/assumptions/43): the table
of R138 stands for every taken write, though R9 and R137 name only the writes that change a lamp field. -/
def takeLink (k : LinkId) (c : LinkCfg) (s : State) : State :=
  let l := s.link k
  let retire := l.stands && l.cfg.inUse && !c.inUse
  let s' := s.onLink k fun l => { l with cfg := c, carrier := if retire then l.carrier.retired else l.carrier }
  let s' := if l.stands && (l.cfg.band ≠ c.band || l.cfg.width ≠ c.width || l.cfg.inUse ≠ c.inUse) then s'.advanceGen else s'
  let s' := if l.stands && (l.cfg.width ≠ c.width || retire) then
      ownRecomputeLink k (s.spanOf k l.carrier.channel ++ s'.spanOf k (s'.link k).carrier.channel) s'
    else s'
  let s' := if l.cfg.autoRetune && !c.autoRetune then dropWant k s' else s'
  let s' := if retire then mixReport k (healthNone k s') else s'
  lampLinkWrite k l.cfg c s'

/-- WRITE to LINK (R8). -/
def writeLink (index : Nat) (record : List Byte) (s : State) : Reply :=
  match finField 64 index with
  | none => refuse .noSuch s
  | some k =>
    let l := s.link k
    if s.mgr.locked then refuse .locked s
    else if l.carrier.phase ≠ .idle then refuse .busy s
    else match readLinkCfg record with
      | none => refuse .range s
      | some c =>
        if !c.sound s.rif.node then refuse .range s
        else if l.stands && l.cfg.band ≠ c.band then refuse .inUse s
        else if l.stands && l.cfg.width ≠ c.width && s.widthBarred k c.width then refuse .inWindow s
        else accept (takeLink k c s)

/-! ## WINDOW -/

/-- WRITE to WINDOW (R14, R15). -/
def writeWindow (index : Nat) (record : List Byte) (s : State) : Reply :=
  match finField 8 index with
  | none => refuse .noSuch s
  | some w =>
    if s.mgr.locked then refuse .locked s
    else match readWindow record with
      | none => refuse .range s
      | some e =>
        if e.enabled && (s.band e.band).count < e.size then refuse .range s
        else if e.enabled && (bandCarriers s.plan s.rte e.band).any (e.covers (s.band e.band)) then refuse .inWindow s
        else accept (s.onPlan fun p => { p with windows := wr p.windows w e }).advanceGen

/-! ## SETTINGS -/

/-- A taken Settings write: the timers whose period changed start their count again where their rules say so (R68, R139, R181). -/
def takeSettings (x : Settings) (s : State) : State :=
  let old := s.mgr.settings
  let s := s.onMgr fun m => { m with settings := x }
  let s := if old.lampRefresh ≠ x.lampRefresh then lampRefreshStart s else s
  if old.sweepInterval ≠ x.sweepInterval then intervalStart s else s

/-- WRITE to SETTINGS (R181). -/
def writeSettings (index : Nat) (record : List Byte) (s : State) : Reply :=
  if index ≠ 0 then refuse .noSuch s
  else if s.mgr.locked then refuse .locked s
  else match readSettings record with
    | none => refuse .range s
    | some x =>
      if x.reportNode = s.rif.node then refuse .range s
      else if x.clamped = x then accept (takeSettings x s)
      else { status := .clamped, results := x.clamped.bytes, state := takeSettings x.clamped s }

end Sys2Proof.Machine
end

