-- ==== Sys2Proof/Machine/Tally.lean ====
section
/-! DEFINITION. The Tally Merger (R117 to R131): slots, TALLY frames, silence and hold, the merge and what it hands on. -/

namespace Sys2Proof.Machine

/-- The union of two bus sets. -/
def Buses.union (a b : Buses) : Buses :=
  { program := a.program || b.program, preview := a.preview || b.preview, iso := a.iso || b.iso }

/-- What a slot lets a source contribute to a link: the buses stated, with the bus enabled and the link unsuppressed (R127). -/
def SlotCfg.passes (c : SlotCfg) (k : LinkId) (u : Buses) : Buses :=
  { program := u.program && c.enables.program && !rd c.suppress.program k
    preview := u.preview && c.enables.preview && !rd c.suppress.preview k
    iso := u.iso && c.enables.iso && !rd c.suppress.iso k }

/-- One slot's sources merged into the tallies so far; an OFFLINE slot contributes nothing (R127). -/
@[irreducible] def Slot.mergeInto (t : Slot) (acc : Vector Buses 64) : Vector Buses 64 :=
  if t.state = .offline then acc
  else (List.finRange 256).foldl (fun acc x =>
    match rd t.map x with
    | some k =>
      let u := t.cfg.passes k (rd t.contrib x)
      if u = .empty then acc else wr acc k ((rd acc k).union u)
    | none => acc) acc

/-- The merged tally of every link (R127). -/
def mergedTallies (slots : Vector Slot 4) : Vector Buses 64 :=
  slots.toList.foldl (fun acc t => t.mergeInto acc) (Vector.replicate 64 .empty)

/-- All 64 merged tallies formed and stored together, and each changed link reported to the LMP and the RTE (R128). -/
def remerge (s : State) : State :=
  let new := mergedTallies s.tly.slots
  let changed (k : LinkId) : Bool := rd new k ≠ (s.link k).tally
  let lost (k : LinkId) : Bool := (s.link k).tally.program && !(rd new k).program
  let s := s.onPlan fun p => { p with links := tab fun k => { rd p.links k with tally := rd new k } }
  rteTally changed lost (lampPendWhere changed s)

/-- A slot record. -/
def State.slot (s : State) (i : SlotId) : Slot := rd s.tly.slots i

/-- A slot record changed. -/
def onSlot (i : SlotId) (f : Slot → Slot) (s : State) : State :=
  s.onTly fun t => { t with slots := wr t.slots i (f (rd t.slots i)) }

/-- The SWITCHER note of a change of a slot's state (R129). -/
def switcherNote (i : SlotId) (node : Node) (before after : SlotState) (s : State) : State :=
  if before ≠ after then note .switcher [byte i.val, node, before.code, after.code] s else s

/-- A slot that is OFFLINE: contribution emptied, both timers stopped (R117). -/
def Slot.offline (t : Slot) : Slot :=
  { t with state := .offline, contrib := emptyContribution, silence := none, hold := none }

/-- The enabled slot whose node a TALLY frame comes from (R121). -/
def Tly.slotOf (t : Tly) (src : Node) : Option SlotId :=
  (List.finRange 4).find? fun i => (rd t.slots i).cfg.enabled && (rd t.slots i).cfg.node = src

/-- The contribution a TALLY frame states: each listed source the union of its entries' buses (R122). -/
def contribution (entries : List (Fin 256 × Buses)) : Vector Buses 256 :=
  entries.foldl (fun acc e => wr acc e.1 ((rd acc e.1).union e.2)) emptyContribution

/-- A copy of a TALLY frame reaches the TLY (R121, R122, R123). -/
def takeTally (src : Node) (payload : List Byte) (s : State) : State :=
  match s.tly.slotOf src, readTally payload with
  | some i, some entries =>
    let before := (s.slot i).state
    let s := onSlot i (fun t =>
      { t with contrib := contribution entries, state := .online,
               silence := some s.mgr.settings.switcherSilence, hold := none }) s
    remerge (switcherNote i src before .online s)
  | _, _ => s

/-- The silence timer of an ONLINE slot expires (R124). -/
def slotSilence (i : SlotId) (s : State) : State :=
  let t := s.slot i
  match t.silence with
  | none => s
  | some _ =>
    if s.mgr.settings.switcherHold = 0 then
      remerge (switcherNote i t.cfg.node t.state .offline (onSlot i Slot.offline s))
    else
      switcherNote i t.cfg.node t.state .holding
        (onSlot i (fun t => { t with state := .holding, silence := none, hold := some s.mgr.settings.switcherHold }) s)

/-- The hold timer of a HOLDING slot expires (R125). -/
def slotHold (i : SlotId) (s : State) : State :=
  let t := s.slot i
  match t.hold with
  | none => s
  | some _ => remerge (switcherNote i t.cfg.node t.state .offline (onSlot i Slot.offline s))

/-- WRITE to SWITCHER (R118, R120). -/
def writeSwitcher (index : Nat) (record : List Byte) (s : State) : Reply :=
  match finField 4 index with
  | none => refuse .noSuch s
  | some i =>
    if s.mgr.locked then refuse .locked s
    else match readSlotCfg record with
      | none => refuse .range s
      | some c =>
        let t := s.slot i
        if c.node = s.rif.node || (c.enabled && c.node = 0) then refuse .range s
        else if c.enabled && (List.finRange 4).any fun j =>
            j ≠ i && (s.slot j).cfg.enabled && (s.slot j).cfg.node = c.node then
          refuse .inUse s
        else
          let drops := t.cfg.enabled && (!c.enabled || c.node ≠ t.cfg.node)
          let s := onSlot i (fun t => let t := { t with cfg := c }; if drops then t.offline else t) s
          accept (remerge (if drops then switcherNote i c.node t.state .offline s else s))

/-- WRITE to SOURCEMAP (R119, R120). -/
def writeSourcemap (index : Nat) (record : List Byte) (s : State) : Reply :=
  match finField 16 index with
  | none => refuse .noSuch s
  | some r =>
    if s.mgr.locked then refuse .locked s
    else match readMapRecord record with
      | none => refuse .range s
      | some entries =>
        accept (remerge (onSlot (mapSlot r) (fun t =>
          { t with map := tab fun x =>
              if x.val / 64 = r.val % 4 then (entries[x.val % 64]?).getD none else rd t.map x }) s))

/-- The TLY at warm restart: every slot OFFLINE, every merged tally empty; configuration and maps kept (R131). -/
def tallyRestart (s : State) : State :=
  (s.onTly fun t => { t with slots := tab fun i => (rd t.slots i).offline }).onPlan fun p =>
    { p with links := tab fun k => { rd p.links k with tally := .empty } }

end Sys2Proof.Machine
end

