-- ==== Sys2Proof/Machine/Management.lean ====
section
/-! DEFINITION. The Management Responder (R175 to R184): taking a request, forming its RSP, IDENTIFY, STATUS, READ, WRITE, the
planner requests, the log and the show lock. BYPASS, RESUME and RESTART stand in Reset.lean. -/

namespace Sys2Proof.Machine

/-! ## Taking and answering (R175) -/

/-- A request as a block's rule takes it: parameters and state to a reply. -/
abbrev Request := List Byte → State → Reply

/-- A parameter list of a length the request does not carry is refused RANGE (R175). -/
def ofLength (n : Nat) (f : Request) : Request := fun params s =>
  if params.length = n then f params s else refuse .range s

/-- A request answered at its taking: the changes first, then the RSP formed from the state they leave (R175). -/
def answered (code : Byte) (f : Request) (a : Asker) (params : List Byte) (s : State) : State :=
  let r := f params s
  answerCmd (r.state.rspFrame code a r.status r.results) false r.state

/-! ## IDENTIFY and STATUS (R178) -/

/-- IDENTIFY (R178). -/
def identifyRequest : Request := fun _ s =>
  { status := .ok, results := [Config.vendorCode] ++ n16 Config.partCode ++ [Config.revision, s.rif.node], state := s }

/-- The mode byte of STATUS: NORMAL, ENTERING while the bypass entry mark is set, BYPASS (R178). -/
def Rif.modeCode (r : Rif) : Byte :=
  match r.mode with
  | .bypass => 2
  | .normal => if r.entry.isSome then 1 else 0

/-- The refill flags as STATUS carries them: bit b for band b (R163). -/
def flagBits (flags : Vector Bool 4) : Byte :=
  byte ((rd flags 0).toNat + 2 * (rd flags 1).toNat + 4 * (rd flags 2).toNat + 8 * (rd flags 3).toNat)

/-- The current cell of STATUS: none in IDLE; otherwise the cell at the cursor, which in PROBING and PAUSED is that of the
probe or the held report (R63). -/
def State.currentCell (s : State) : Option Nat :=
  if s.swp.state = .idle then none else s.cursorCell

/-- The planner's part of a STATUS reading (R163, R178). -/
def Cpl.statusBytes (c : Cpl) : List Byte :=
  [onOff c.active.isSome, (match c.active with | some op => op.kind.code | none => 0xFF),
   (match c.active with | some op => op.origin.code | none => 0xFF),
   byte (c.rtePlace.isSome.toNat + 2 * c.mgrPlace.isSome.toNat), flagBits c.flags]

/-- The phase byte of STATUS; with no Active order the manual gives it no value: a free value (notes/assumptions/16). -/
def State.activePhaseByte (s : State) : Byte :=
  match s.rte.active with
  | some o => (s.link o.link).carrier.phase.code
  | none => Config.freeByte s.freeCtr

/-- The retune part of a STATUS reading (R163, R178). -/
def State.retuneStatus (s : State) : List Byte :=
  [finOrNoneByte (s.rte.active.map (·.link)), s.activePhaseByte, finOrNoneByte (s.rte.staged.map (·.link)),
   byte s.rte.deferred.length]

/-- A STATUS reading, 20 bytes (R163, R178). -/
def State.statusBytes (s : State) : List Byte :=
  [s.rif.modeCode, onOff s.mgr.locked] ++ halfBytes s.plan.gen ++ s.cpl.statusBytes ++ s.retuneStatus
    ++ [s.swp.state.code, byte s.swp.cfg.band.val] ++ natOrNone s.currentCell
    ++ [onOff s.rif.notesLost] ++ n16 s.rif.errors

/-- STATUS: the reading, and NOTES_LOST cleared at the taking (R178). -/
def statusRequest : Request := fun _ s =>
  { status := .ok, results := s.statusBytes, state := (s.onRif fun r => { r with notesLost := false }).useFree 1 }

/-! ## READ (R179) -/

/-- An entry of a table at an index, as read; none where the table or the entry does not exist (R163, R179). -/
def State.entry (s : State) (table : Byte) (i : Nat) : Option (List Byte) :=
  if table = Table.band then (finField 4 i).map fun b => (s.band b).bytes
  else if table = Table.link then (finField 64 i).map fun k => (s.link k).bytes
  else if table = Table.window then (finField 8 i).map fun w => (rd s.plan.windows w).bytes
  else if table = Table.switcher then (finField 4 i).map fun t => (s.slot t).bytes
  else if table = Table.sourcemap then (finField 16 i).map fun r => sourceMapBytes s.tly.slots r
  else if table = Table.palette then (finField 8 i).map fun p => (rd s.lmp.palette p).bytes
  else if table = Table.condition then (finField 6 i).map fun c => (rd s.lmp.conditions c).bytes
  else if table = Table.talksrc then (finField 16 i).map fun t => (rd s.tbm.sources t).bytes
  else if table = Table.dest then (finField 32 i).map fun d => s.tbm.destBytes d
  else if table = Table.xpoint then (finField 16 i).map fun t => xpointBytes (rd s.tbm.xpoints t)
  else if table = Table.settings then given (i = 0) s.mgr.settings.bytes
  else if table = Table.cells then
    (finField 4 (i / 256)).bind fun b => given (i % 256 < (s.band b).cellCount) (s.swp.cell b (i % 256)).bytes
  else if table = Table.spare then (finField 4 i).map fun b => spareBytes (rd s.cpl.spares b)
  else if table = Table.health then (finField 64 i).map fun k => healthBytes (s.link k).health (s.want k)
  else if table = Table.orders then
    s.rte.orders[i]?.map fun o => o.bytes (s.link o.link).carrier.phase (s.freeCtr + 3 * i)
  else none

/-- A reading that began at `first` may go on to index `i`: a CELLS reading stops at the last cell of its band (R179). -/
def readsOn (table : Byte) (first i : Nat) : Bool := table ≠ Table.cells || i / 256 = first / 256

/-- The entries of a READ from an index: until the count, the last present entry, or an entry that does not fit whole in the
room left (R179). -/
def readWalk (entry : Nat → Option (List Byte)) : Nat → Nat → Nat → List (List Byte)
  | 0, _, _ => []
  | n + 1, i, room =>
    match entry i with
    | some e => if e.length ≤ room then e :: readWalk entry n (i + 1) (room - e.length) else []
    | none => []

/-- The room for entries in a READ's RSP: 240 bytes less the three of the RSP and the four before the entries (R163). -/
def readRoom : Nat := 233

/-- The entries a READ returns (R179). -/
def State.entries (s : State) (table : Byte) (first count : Nat) : List (List Byte) :=
  readWalk (fun i => if readsOn table first i then s.entry table i else none) count first readRoom

/-- READ (R179). Ten orders of free values at most are read. -/
def readRequest : Request := fun params s =>
  let table := at0 params 0
  let first := at16 params 1
  let count := (at0 params 3).toNat
  if (s.entry table first).isNone then refuse .noSuch s
  else if count = 0 then refuse .range s
  else
    let l := s.entries table first count
    { status := .ok, results := [table] ++ n16 first ++ [byte l.length] ++ l.flatten, state := s.useFree 30 }

/-! ## WRITE (R180) -/

/-- A write to one table: index and record to a reply. -/
abbrev Write := Nat → List Byte → State → Reply

/-- A write whose record is not as long as the table's written record is refused RANGE (R180). -/
def ofRecord (n : Nat) (f : Write) : Write := fun index record s =>
  if record.length = n then f index record s else refuse .range s

/-- The write of a table, with the length of its written record (R163, R180). -/
def tableWrite (table : Byte) : Option Write :=
  if table = Table.band then some (ofRecord 18 writeBand)
  else if table = Table.link then some (ofRecord 22 writeLink)
  else if table = Table.window then some (ofRecord 6 writeWindow)
  else if table = Table.switcher then some (ofRecord 27 writeSwitcher)
  else if table = Table.sourcemap then some (ofRecord 64 writeSourcemap)
  else if table = Table.palette then some (ofRecord 4 writePalette)
  else if table = Table.condition then some (ofRecord 2 writeCondition)
  else if table = Table.talksrc then some (ofRecord 3 writeTalkSource)
  else if table = Table.dest then some (ofRecord 6 writeDest)
  else if table = Table.xpoint then some (ofRecord 64 writeXpoint)
  else if table = Table.settings then some (ofRecord 12 writeSettings)
  else none

/-- WRITE, whatever its table: three bytes at least, then a writable table (R175, R180). -/
def writeRequest : Request := fun params s =>
  match params with
  | table :: hi :: lo :: record =>
    match tableWrite table with
    | some f => f (u16 hi lo) record s
    | none => refuse .noSuch s
  | _ => refuse .range s

/-! ## Requests handed to the planner (R182) -/

/-- A planner request with its parameters read: CHECK carries band, channel, width and mover; AUDIT and REFILL a band;
SIGNATURE none (R163, R182). -/
def plannerRequest (kind : OpKind) (params : List Byte) (a : Asker) : MgrRequest :=
  match kind with
  | .check =>
    { kind := kind, band := (at0 params 0).toNat, channel := at16 params 1, width := at16 params 3,
      mover := if at0 params 5 = 0xFF then none else some (at0 params 5).toNat, asker := a }
  | _ => { kind := kind, band := (at0 params 0).toNat, channel := 0, width := 0, mover := none, asker := a }

/-- A planner request started, placed, or refused BUSY; only the refusals are answered at the taking (R40, R182). -/
def askPlanner (kind : OpKind) (n : Nat) (a : Asker) (params : List Byte) (s : State) : State :=
  if params.length = n then
    match requestMgr (plannerRequest kind params a) s with
    | some s => s
    | none => answerCmd (s.rspFrame kind.request a .busy []) false s
  else answerCmd (s.rspFrame kind.request a .range []) false s

/-- READ_LOG (R37, R182). -/
def readLogRequest : Request := fun _ s => { status := .ok, results := s.cpl.log.bytes, state := s }

/-! ## Other requests (R76, R183, R184) -/

/-- SWEEP_GO: no parameters or a configuration of eight bytes; any other length is RANGE (R183). -/
def sweepGoRequest : Request := fun params s =>
  if params.length = 0 || params.length = 8 then sweepGo params s else refuse .range s

/-- SWEEP_STOP (R76). -/
def sweepStopRequest : Request := fun _ s => accept (sweepHalt s)

/-- The four key words of SHOW_LOCK and SHOW_UNLOCK (R184). -/
def readKey (params : List Byte) : LockKey :=
  { w0 := half (at0 params 0) (at0 params 1), w1 := half (at0 params 2) (at0 params 3),
    w2 := half (at0 params 4) (at0 params 5), w3 := half (at0 params 6) (at0 params 7) }

/-- SHOW_LOCK (R184). -/
def showLockRequest : Request := fun params s =>
  if s.mgr.locked then refuse .locked s
  else accept (s.onMgr fun m => { m with locked := true, key := readKey params })

/-- SHOW_UNLOCK (R184). -/
def showUnlockRequest : Request := fun params s =>
  if s.mgr.locked then
    if s.mgr.key = readKey params then accept (s.onMgr fun m => { m with locked := false }) else refuse .keyMismatch s
  else accept s

end Sys2Proof.Machine
end

