-- ==== Sys2Proof/Machine/Reset.lean ====
section
/-! DEFINITION. BYPASS, RESUME and RESTART (R173, R174, R185, R186), the entry to BYPASS, and the cold reset with its pins
(R165). -/

namespace Sys2Proof.Machine

/-! ## Emptying the queues (R164, R171, R173) -/

/-- The Voice Queue and the Control Queue emptied; a NOTE lost with them sets NOTES_LOST (R171, R173). No event stays owed: the
producers' holds are cleared with the queues. -/
def Rif.emptied (r : Rif) : Rif :=
  { r with
    voiceQ := Vector.replicate 32 none, ctlQ := [], notesLost := r.notesLost || r.ctlQ.any Queued.isNote, spaceOwed := false }

/-- The MGR's output hold cleared (R176). -/
def clearHold (s : State) : State := s.onMgr fun m => { m with hold := [] }

/-! ## RESUME (R174, R185) -/

/-- What the blocks do when the part returns to NORMAL: the arbiter (R56), the VERIFY wants (R94), the lamp refresh (R142), the
RTE's fills (R116). -/
def resumeBlocks (s : State) : State :=
  rteSettle (lampResume (verifyWants (plannerResume (s.onRif fun r => { r with mode := .normal }))))

/-- The answers held for return to NORMAL, sent with status BYPASSED (R55). -/
def sendHeldAnswers (s : State) : State := sendBypassed s.cpl.answers (s.onCpl fun c => { c with answers := [] })

/-- The return to NORMAL: the blocks' changes, then the BYPASSED answers (R55, R174); the RSP to the RESUME follows. -/
def resumeNormal (s : State) : State := sendHeldAnswers (resumeBlocks s)

/-- RESUME (R173, R174, R185): recorded while the entry mark is set, taking effect in BYPASS, without effect in NORMAL. -/
def takeResume (a : Asker) (params : List Byte) (s : State) : State :=
  if params.length ≠ 0 then answerCmd (s.rspFrame Req.resume a .range []) false s
  else if s.rif.entry.isSome then answerCmd (s.rspFrame Req.resume a .ok []) true s
  else
    let s := if s.rif.mode = .bypass then resumeNormal s else s
    answerCmd (s.rspFrame Req.resume a .ok []) false s

/-! ## BYPASS (R173, R185) -/

/-- BYPASS taken in NORMAL mode: the entry mark is set, and its RSP waits for the first FILL slot (R173). -/
def takeBypass (a : Asker) (params : List Byte) (s : State) : State :=
  if params.length = 0 then s.onRif fun r => { r with entry := some { rsp := s.rspFrame Req.bypass a .ok [], kept := [] } }
  else answerCmd (s.rspFrame Req.bypass a .range []) false s

/-- Steps 1 to 3 of the entry: mode, queues, holds, and each block's own part (R173). -/
def bypassBlocks (s : State) : State :=
  let s := s.onRif fun r => { r.emptied with mode := .bypass, entry := none }
  lampBypass (talkbackSilence (abandonOrders (plannerBypass (sweepHalt (clearHold s)))))

/-- The RSP frames kept apart while the mark was set, in the order their CMDs were taken; the first recorded RESUME takes
effect before its RSP (R173). -/
def releaseKept : List KeptRsp → State → State
  | [], s => s
  | k :: rest, s =>
    let s := if k.resume && s.rif.mode = .bypass then resumeNormal s else s
    releaseKept rest (offerRsp k.frame s)

/-- The entry to BYPASS: the RSP to the BYPASS request leaves at Ring Out (R173). Without the entry mark there is no entry. -/
def enterBypass (s : State) : State :=
  match s.rif.entry with
  | some e => releaseKept e.kept (bypassBlocks (s.setOut (.sent e.rsp.bytes)))
  | none => s

/-! ## RESTART (R186) -/

/-- The Ring Interface at warm restart (R164, R174). -/
def Rif.restarted (r : Rif) : Rif := { r.emptied with voicePtr := 0, mode := .normal, entry := none }

/-- The warm restart of every block (R186), without the RSPs. -/
def restartBlocks (s : State) : State :=
  let s := clearHold (s.onRif Rif.restarted)
  let s := plannerRestart (abandonOrders (sweepHalt s))
  let s := ownRecomputeAll (sweepReset s)
  let s := lampRestart (talkbackSilence (tallyRestart (monitorRestart s)))
  rteSettle s

/-- RESTART (R184, R186): refused under the show lock; otherwise the restart, the BYPASSED answers, the RSP. -/
def takeRestart (a : Asker) (params : List Byte) (s : State) : State :=
  if params.length ≠ 0 then answerCmd (s.rspFrame Req.restart a .range []) false s
  else if s.mgr.locked then answerCmd (s.rspFrame Req.restart a .locked []) false s
  else
    let s' := sendBypassed s.cpl.cutShort (restartBlocks s)
    answerCmd (s'.rspFrame Req.restart a .ok []) false s'

/-! ## Cold reset and power (R165) -/

/-- RESET_N goes low: BYP_DRV is released (R165). The records wait for the cold reset (notes/assumptions/9). -/
def resetLow (s : State) : State := (s.onPins fun p => { p with resetN := false, bypDrv := false }).setOut .quiet

/-- Power is removed: the relay is released (R165). -/
def losePower (s : State) : State := (s.onPins fun p => { p with powered := false, bypDrv := false }).setOut .quiet

/-- RESET_N goes high, or power comes up: every record takes its cold reset value, with the straps as read (R165). The counter
of free values is the model's own and goes on. -/
def coldStart (straps : Byte) (s : State) : State := { State.cold straps s.pending with freeCtr := s.freeCtr }

end Sys2Proof.Machine
end

