-- ==== Sys2Proof/Machine/Ring.lean ====
section
/-! DEFINITION. The Ring Interface (R161 to R174): what becomes of an arriving frame, to whom it is handed, the Ring Out arbiter
and the queue-space event. -/

namespace Sys2Proof.Machine

/-! ## Requests (R162, R175) -/

/-- How a request is taken: who asks, its parameters. -/
abbrev Handler := Asker → List Byte → State → State

/-- The requests of R162 by their codes, each with the parameter length of R163; a code of none of them is UNKNOWN_REQUEST
(R175). -/
def handler (code : Byte) : Handler :=
  if code = Req.identify then answered code (ofLength 0 identifyRequest)
  else if code = Req.status then answered code (ofLength 0 statusRequest)
  else if code = Req.read then answered code (ofLength 4 readRequest)
  else if code = Req.write then answered code writeRequest
  else if code = Req.check then askPlanner .check 6
  else if code = Req.audit then askPlanner .audit 1
  else if code = Req.refill then askPlanner .refill 1
  else if code = Req.signature then askPlanner .signature 0
  else if code = Req.readLog then answered code (ofLength 0 readLogRequest)
  else if code = Req.moveLink then answered code (ofLength 4 moveLink)
  else if code = Req.releaseLink then answered code (ofLength 2 releaseLink)
  else if code = Req.cancelMove then answered code (ofLength 1 cancelMove)
  else if code = Req.sweepGo then answered code sweepGoRequest
  else if code = Req.sweepStop then answered code (ofLength 0 sweepStopRequest)
  else if code = Req.lampTest then answered code (ofLength 1 lampTest)
  else if code = Req.showLock then answered code (ofLength 8 showLockRequest)
  else if code = Req.showUnlock then answered code (ofLength 8 showUnlockRequest)
  else if code = Req.bypass then takeBypass
  else if code = Req.resume then takeResume
  else if code = Req.restart then takeRestart
  else answered code fun _ s => refuse .unknownRequest s

/-- A CMD handed to the MGR: discarded untaken while the output hold holds four or more RSP frames (R175, R176). -/
def manage (f : Handler) (a : Asker) (params : List Byte) (s : State) : State :=
  if Config.holdLimit ≤ s.mgr.hold.length then s else f a params s

/-- A CMD payload handed to the MGR; one shorter than two bytes is discarded (R162, R175). -/
def takeCmd (src : Node) (payload : List Byte) (s : State) : State :=
  match payload with
  | code :: id :: params => manage (handler code) { id := id, src := src } params s
  | _ => s

/-- A METER payload handed to the LMN or the SWP by its form byte (R162, R166). -/
def takeMeter (src : Node) (payload : List Byte) (s : State) : State :=
  match payload with
  | form :: fields => if form = 0 then takeLinkMeter src fields s else if form = 1 then takeProbeMeter src fields s else s
  | [] => s

/-- The block that a consumed or observed frame is handed to (R166). -/
def deliver (f : Frame) (s : State) : State :=
  if f.kind = Kind.cmd then takeCmd f.src f.payload s
  else if f.kind = Kind.voice then takeVoice f.src f.payload s
  else if f.kind = Kind.meter then takeMeter f.src f.payload s
  else if f.kind = Kind.tuned then takeTuned f.src f.payload s
  else if f.kind = Kind.tally then takeTally f.src f.payload s
  else if f.kind = Kind.cycle then takeCycle f.payload s
  else s

/-! ## Arrivals (R166, R172) -/

/-- What the arrival tables say of a frame: whether it leaves unchanged or leaves a FILL slot, and whether it is handed on. -/
structure Handling where
  slot : Bool
  hand : Bool
  deriving DecidableEq, Repr

/-- The arriving FILL frame, in BYPASS, is a FILL slot where the part has a frame to send in it (R172, R173). -/
def Rif.wantsSlot (r : Rif) : Bool := r.entry.isSome || !r.ctlQ.isEmpty

/-- The requests taken in BYPASS (R172). -/
def bypassRequest (code : Byte) : Bool := code = Req.status || code = Req.identify || code = Req.resume

/-- The table of R166 from row 2, for a frame that has passed its check. -/
def Rif.normalHandling (r : Rif) (f : Frame) : Handling :=
  if f.src = r.node then { slot := true, hand := false }
  else if f.dst = r.node && (f.kind = Kind.cmd || f.kind = Kind.voice || f.kind = Kind.meter || f.kind = Kind.tuned) then
    { slot := true, hand := true }
  else if f.kind = Kind.tally || f.kind = Kind.cycle then { slot := false, hand := true }
  else if f.kind = Kind.fill then { slot := true, hand := false }
  else { slot := false, hand := false }

/-- The table of R172 from its second row. -/
def Rif.bypassHandling (r : Rif) (f : Frame) : Handling :=
  if f.dst = r.node && f.kind = Kind.cmd && f.payload.head?.any bypassRequest then { slot := true, hand := true }
  else if f.dst = r.node && f.kind = Kind.meter && f.payload.head? = some 0 then { slot := false, hand := true }
  else if f.kind = Kind.tally then { slot := false, hand := true }
  else { slot := f.kind = Kind.fill && r.wantsSlot, hand := false }

/-- The handling of a frame that has passed its check: permanent BYPASS forwards everything (R165), R166 holds in NORMAL mode
with the entry mark clear, R172 otherwise (R173). -/
def Rif.handling (r : Rif) (f : Frame) : Handling :=
  if r.permanent then { slot := false, hand := false }
  else if r.mode = .normal && r.entry.isNone then r.normalHandling f
  else r.bypassHandling f

/-- What stands at Ring Out in an arriving frame's place. -/
def Handling.out (h : Handling) (raw : List Byte) : RingOut := if h.slot then .slot else .forwarded raw

/-- A frame check error (R166 row 1, R172). -/
def checkError (s : State) : State := s.onRif fun r => { r with errors := min 65535 (r.errors + 1) }

/-- Bytes arrive at Ring In. `parsed` is the frame they hold when it passes its check, and `hand` what its block does with it. -/
def receive (raw : List Byte) (parsed : Option Frame) (hand : State → State) (s : State) : State :=
  if s.live then
    match parsed with
    | none => checkError (s.setOut (.forwarded raw))
    | some f =>
      let h := s.rif.handling f
      let s := s.setOut (h.out raw)
      if h.hand then hand s else s
  else s.setOut (.around raw)

/-- Any bytes arrive at Ring In. -/
def receiveBytes (raw : List Byte) (s : State) : State :=
  receive raw (parseFrame raw) (match parseFrame raw with | some f => deliver f | none => id) s

/-- A frame of a known kind arrives, spelled by its parts (R161): it passes when its payload fits a frame and the check is
right. -/
def receiveFrame (kind : Byte) (h : FrameHead) (payload : List Byte) (hand : State → State) (s : State) : State :=
  receive (wire kind h.dst h.src payload h.check)
    (given (payload.length ≤ 240 && h.check = crc16 (body kind h.dst h.src payload))
      { kind := kind, dst := h.dst, src := h.src, payload := payload })
    hand s

/-- A CMD of a known request arrives, spelled by its parts (R162). -/
def receiveCmd (h : CmdHead) (code : Byte) (params : List Byte) (f : Handler) (s : State) : State :=
  receiveFrame Kind.cmd { dst := h.dst, src := h.src, check := h.check } (code :: h.id :: params)
    (manage f { id := h.id, src := h.src } params) s

/-- The parameters of a WRITE: table id, index and record (R163). -/
def writeParams (table : Byte) (index : Half) (record : List Byte) : List Byte := table :: halfBytes index ++ record

/-- A WRITE of a known table arrives. -/
def receiveWrite (h : CmdHead) (table : Byte) (n : Nat) (f : Write) (index : Half) (record : List Byte) (s : State) : State :=
  receiveCmd h Req.write (writeParams table index record)
    (answered Req.write fun _ s => ofRecord n f index.toNat record s) s

/-! ## The queue-space event (R170) -/

/-- The freed place goes to one waiting producer: RTE, LMP, SWP PROBE, MGR, SWP CELL report (R170). One frame is admitted: the
sweep that an admitted CELL report sets going keeps its next PROBE frame in the SWP's output hold. -/
def queueSpace (s : State) : State :=
  if s.rif.ctlQ.length < Config.controlCapacity then
    match s.rte.hold with
    | h :: rest => offerTunes [h] (s.onRte fun r => { r with hold := rest })
    | [] =>
      if s.lampDue then offerLamp s
      else match s.swp.probeHold with
        | some h => offerProbe h s
        | none =>
          match s.mgr.hold with
          | f :: rest => offerRsp f (s.onMgr fun m => { m with hold := rest })
          | [] =>
            match s.swp.reportHold with
            | some f => offerReport keepProbe f s
            | none => s
  else s

/-- The event of the last departure, where it is still owed (R170; notes/assumptions/7). A producer that finds the place gone to
a NOTE offered first waits for the next event. -/
def queueSpaceEvent (s : State) : State :=
  if s.rif.spaceOwed then queueSpace (s.onRif fun r => { r with spaceOwed := false }) else s

/-! ## The Ring Out arbiter (R167, R168) -/

/-- The first occupied Voice Queue place at or after the voice pointer, wrapping from 31 to 0 (R168). -/
def Rif.voiceTurn (r : Rif) : Option (DestId × Frame) :=
  ((List.finRange 32).map fun i => r.voicePtr + i).findSome? fun d => (rd r.voiceQ d).map fun f => (d, f)

/-- The classes in the arbiter's order (R168). -/
def classOrder : List CtlClass := [.tune, .lamp, .probe, .rsp, .note]

/-- The next frame of the Control Queue: the oldest of the first class that holds one (R168). -/
def nextControl (q : List Queued) : Option Queued := classOrder.findSome? fun c => q.find? fun x => x.cls = c

/-- A frame sent in a FILL slot, with the part's source address and a fresh check (R167). -/
def State.send (s : State) (f : Frame) : State := s.setOut (.sent { f with src := s.rif.node }.bytes)

/-- The control turn (R168): the oldest frame of the first occupied class leaves, which is a queue-space event; its service is a
step of its own (spec/95, QUEUE_SPACE_EVENT), so that a NOTE offered first may take the place (R170). With no frame waiting a FILL
frame is sent (R167). -/
def controlTurn (s : State) : State :=
  match nextControl s.rif.ctlQ with
  | some q => (s.send q.frame).onRif fun r =>
      { r with ctlQ := r.ctlQ.eraseP fun x => x.cls = q.cls, spaceOwed := true }
  | none => s.setOut (.sent fillFrame.bytes)

/-- The arbiter at a FILL slot: voice turn or control turn (R167, R168). An event still owed is served before the next departure
(notes/assumptions/7). -/
def arbiterTurn (s : State) : State :=
  match s.rif.voiceTurn with
  | some (d, f) => (s.send f).onRif fun r => { r with voiceQ := wr r.voiceQ d none, voicePtr := d + 1 }
  | none => controlTurn (queueSpaceEvent s)

/-- A FILL slot at Ring Out (R167, R168, R173); a part permanently in BYPASS inserts nothing (R165). -/
def fillSlot (s : State) : State :=
  if s.rif.permanent then s
  else if s.rif.entry.isSome then enterBypass s
  else arbiterTurn s

end Sys2Proof.Machine
end

