-- ==== Sys2Proof/Machine/FrameCommands.lean ====
section
/-! DEFINITION. The meanings of the frames that are consumed or observed: TALLY, CYCLE, VOICE, METER in both forms, TUNED. -/

namespace Sys2Proof.Machine

/-- TALLY (R121, R166, R172). -/
def execTally (h : FrameHead) (payload : List Byte) (s : State) : Host.Outcome State Fault Refusal :=
  .next (receiveFrame Kind.tally h payload (takeTally h.src payload) s)

/-- CYCLE (R148, R166). -/
def execCycle (h : FrameHead) (payload : List Byte) (s : State) : Host.Outcome State Fault Refusal :=
  .next (receiveFrame Kind.cycle h payload (takeCycle payload) s)

/-- VOICE (R147, R166). -/
def execVoice (h : FrameHead) (payload : List Byte) (s : State) : Host.Outcome State Fault Refusal :=
  .next (receiveFrame Kind.voice h payload (takeVoice h.src payload) s)

/-- METER_LINK_FORM (R79, R166, R172). -/
def execMeterLinkForm (h : FrameHead) (fields : List Byte) (s : State) : Host.Outcome State Fault Refusal :=
  .next (receiveFrame Kind.meter h (0 :: fields) (takeLinkMeter h.src fields) s)

/-- METER_PROBE_FORM (R70, R166). -/
def execMeterProbeForm (h : FrameHead) (fields : List Byte) (s : State) : Host.Outcome State Fault Refusal :=
  .next (receiveFrame Kind.meter h (1 :: fields) (takeProbeMeter h.src fields) s)

/-- TUNED (R107, R166). -/
def execTuned (h : FrameHead) (payload : List Byte) (s : State) : Host.Outcome State Fault Refusal :=
  .next (receiveFrame Kind.tuned h payload (takeTuned h.src payload) s)

end Sys2Proof.Machine
end

