-- ==== Sys2Proof/Machine/Event.lean ====
section
/-! DEFINITION. Events that come from the part itself: they act only while the part runs, and an event that its condition rules
out changes nothing (notes/assumptions/4). -/

namespace Sys2Proof.Machine

/-- An event of the part itself; nothing reaches Ring Out unless the event says so. -/
def event (f : State → State) (s : State) : State := if s.live then f (s.setOut .quiet) else s.setOut .quiet

/-- An event of the planner's active operation, when it is of the right kind. -/
def whileRunning (kind : OpKind → Bool) (f : ActiveOp → State → State) (s : State) : State :=
  match s.cpl.active with
  | some op => if kind op.kind then f op s else s
  | none => s

/-- The refresh timer expires: every eligible link's lamp is pending, and the next period is counted from here (R139). -/
def refreshExpiry (s : State) : State := if s.lmp.refresh.isSome then lampRefreshStart (lampPendAll s) else s

end Sys2Proof.Machine
end

