-- ==== Sys2Proof/Machine/PlannerCommands.lean ====
section
/-! DEFINITION. The meanings of the progress and the completions of planner operations. -/

namespace Sys2Proof.Machine

/-- CHECK_COMPLETION (R44): of a CHECK or a CONFIRM. -/
def execCheckCompletion (s : State) : Host.Outcome State Fault Refusal :=
  .next (event (whileRunning (fun k => k = .check || k = .confirm) completeCheck) s)

/-- SEARCH_COMPLETION (R45). -/
def execSearchCompletion (s : State) : Host.Outcome State Fault Refusal :=
  .next (event (whileRunning (fun k => k = .search) (fun _ => completeSearch)) s)

/-- AUDIT_COMPLETION (R46). -/
def execAuditCompletion (s : State) : Host.Outcome State Fault Refusal :=
  .next (event (whileRunning (fun k => k = .audit) completeAudit) s)

/-- REFILL_COMPLETION (R48). -/
def execRefillCompletion (s : State) : Host.Outcome State Fault Refusal :=
  .next (event (whileRunning (fun k => k = .refill) completeRefill) s)

/-- SIGNATURE_COMPLETION (R49). -/
def execSignatureCompletion (s : State) : Host.Outcome State Fault Refusal :=
  .next (event (whileRunning (fun k => k = .signature) completeSignature) s)

/-- SEARCH_ENTRY_VERDICT (R45). -/
def execSearchEntryVerdict (s : State) : Host.Outcome State Fault Refusal :=
  .next (event (whileRunning (fun k => k = .search) fun _ => searchEntry) s)

/-- CONFLICT_LOGGED (R36). -/
def execConflictLogged (s : State) : Host.Outcome State Fault Refusal :=
  .next (event (whileRunning OpKind.logs logConflict) s)

end Sys2Proof.Machine
end

