-- ==== Sys2Proof/Machine/RequestCommands.lean ====
section
/-! DEFINITION. The meanings of the CMD frames other than WRITE. -/

namespace Sys2Proof.Machine

/-- IDENTIFY (R178). -/
def execIdentify (h : CmdHead) (params : List Byte) (s : State) : Host.Outcome State Fault Refusal :=
  .next (receiveCmd h Req.identify params (answered Req.identify (ofLength 0 identifyRequest)) s)

/-- STATUS (R178). -/
def execStatus (h : CmdHead) (params : List Byte) (s : State) : Host.Outcome State Fault Refusal :=
  .next (receiveCmd h Req.status params (answered Req.status (ofLength 0 statusRequest)) s)

/-- READ (R179). -/
def execRead (h : CmdHead) (params : List Byte) (s : State) : Host.Outcome State Fault Refusal :=
  .next (receiveCmd h Req.read params (answered Req.read (ofLength 4 readRequest)) s)

/-- CHECK (R40, R182). -/
def execCheck (h : CmdHead) (params : List Byte) (s : State) : Host.Outcome State Fault Refusal :=
  .next (receiveCmd h Req.check params (askPlanner .check 6) s)

/-- AUDIT (R40, R182). -/
def execAudit (h : CmdHead) (params : List Byte) (s : State) : Host.Outcome State Fault Refusal :=
  .next (receiveCmd h Req.audit params (askPlanner .audit 1) s)

/-- REFILL (R40, R182). -/
def execRefill (h : CmdHead) (params : List Byte) (s : State) : Host.Outcome State Fault Refusal :=
  .next (receiveCmd h Req.refill params (askPlanner .refill 1) s)

/-- SIGNATURE (R40, R182). -/
def execSignature (h : CmdHead) (params : List Byte) (s : State) : Host.Outcome State Fault Refusal :=
  .next (receiveCmd h Req.signature params (askPlanner .signature 0) s)

/-- READ_LOG (R37, R182). -/
def execReadLog (h : CmdHead) (params : List Byte) (s : State) : Host.Outcome State Fault Refusal :=
  .next (receiveCmd h Req.readLog params (answered Req.readLog (ofLength 0 readLogRequest)) s)

/-- MOVE_LINK (R112). -/
def execMoveLink (h : CmdHead) (params : List Byte) (s : State) : Host.Outcome State Fault Refusal :=
  .next (receiveCmd h Req.moveLink params (answered Req.moveLink (ofLength 4 moveLink)) s)

/-- RELEASE_LINK (R113). -/
def execReleaseLink (h : CmdHead) (params : List Byte) (s : State) : Host.Outcome State Fault Refusal :=
  .next (receiveCmd h Req.releaseLink params (answered Req.releaseLink (ofLength 2 releaseLink)) s)

/-- CANCEL_MOVE (R114). -/
def execCancelMove (h : CmdHead) (params : List Byte) (s : State) : Host.Outcome State Fault Refusal :=
  .next (receiveCmd h Req.cancelMove params (answered Req.cancelMove (ofLength 1 cancelMove)) s)

/-- SWEEP_GO (R64, R183). -/
def execSweepGo (h : CmdHead) (params : List Byte) (s : State) : Host.Outcome State Fault Refusal :=
  .next (receiveCmd h Req.sweepGo params (answered Req.sweepGo sweepGoRequest) s)

/-- SWEEP_STOP (R76). -/
def execSweepStop (h : CmdHead) (params : List Byte) (s : State) : Host.Outcome State Fault Refusal :=
  .next (receiveCmd h Req.sweepStop params (answered Req.sweepStop (ofLength 0 sweepStopRequest)) s)

/-- LAMP_TEST (R141). -/
def execLampTest (h : CmdHead) (params : List Byte) (s : State) : Host.Outcome State Fault Refusal :=
  .next (receiveCmd h Req.lampTest params (answered Req.lampTest (ofLength 1 lampTest)) s)

/-- SHOW_LOCK (R184). -/
def execShowLock (h : CmdHead) (params : List Byte) (s : State) : Host.Outcome State Fault Refusal :=
  .next (receiveCmd h Req.showLock params (answered Req.showLock (ofLength 8 showLockRequest)) s)

/-- SHOW_UNLOCK (R184). -/
def execShowUnlock (h : CmdHead) (params : List Byte) (s : State) : Host.Outcome State Fault Refusal :=
  .next (receiveCmd h Req.showUnlock params (answered Req.showUnlock (ofLength 8 showUnlockRequest)) s)

/-- BYPASS (R185). -/
def execBypass (h : CmdHead) (params : List Byte) (s : State) : Host.Outcome State Fault Refusal :=
  .next (receiveCmd h Req.bypass params (takeBypass) s)

/-- RESUME (R173, R174, R185). -/
def execResume (h : CmdHead) (params : List Byte) (s : State) : Host.Outcome State Fault Refusal :=
  .next (receiveCmd h Req.resume params (takeResume) s)

/-- RESTART (R186). -/
def execRestart (h : CmdHead) (params : List Byte) (s : State) : Host.Outcome State Fault Refusal :=
  .next (receiveCmd h Req.restart params (takeRestart) s)

/-- UNKNOWN_REQUEST (R175): the request code is none of the part's. -/
def execUnknownRequest (h : CmdHead) (code : Byte) (params : List Byte) (s : State) : Host.Outcome State Fault Refusal :=
  .next (receiveCmd h code params (answered code fun _ s => refuse .unknownRequest s) s)

end Sys2Proof.Machine
end

