-- ==== Sys2Proof/Machine/RingCommands.lean ====
section
/-! DEFINITION. The meanings of the pins, arriving bytes that no other row covers, FILL slots, the queue-space event, the building of a LAMP frame and the entry to BYPASS. -/

namespace Sys2Proof.Machine

/-- RESET_N_LOW (R165): BYP_DRV released; the part sees no frame until the cold reset. -/
def execResetNLow (s : State) : Host.Outcome State Fault Refusal :=
  .next (resetLow s)

/-- COLD_RESET (R165). -/
def execColdReset (straps : Byte) (s : State) : Host.Outcome State Fault Refusal :=
  .next (coldStart straps s)

/-- RING_IN_FRAME (R161, R166, R172). -/
def execRingInFrame (raw : List Byte) (s : State) : Host.Outcome State Fault Refusal :=
  .next (receiveBytes raw s)

/-- FILL_SLOT (R167, R168, R173). -/
def execFillSlot (s : State) : Host.Outcome State Fault Refusal :=
  .next (event fillSlot s)

/-- QUEUE_SPACE_EVENT (R170). -/
def execQueueSpaceEvent (s : State) : Host.Outcome State Fault Refusal :=
  .next (event queueSpaceEvent s)

/-- LAMP_FRAME_BUILD (R140). -/
def execLampFrameBuild (s : State) : Host.Outcome State Fault Refusal :=
  .next (event offerLamp s)

/-- BYPASS_ENTRY (R173). -/
def execBypassEntry (s : State) : Host.Outcome State Fault Refusal :=
  .next (event enterBypass s)

/-- POWER_LOSS (R165). -/
def execPowerLoss (s : State) : Host.Outcome State Fault Refusal :=
  .next (losePower s)

end Sys2Proof.Machine
end

