-- ==== Sys2Proof/Machine/TimerCommands.lean ====
section
/-! DEFINITION. The meanings of the expiries of the timers. -/

namespace Sys2Proof.Machine

/-- TUNE_TIMER_EXPIRY (R106). -/
def execTuneTimerExpiry (s : State) : Host.Outcome State Fault Refusal :=
  .next (event tuneExpiry s)

/-- METER_SILENCE_EXPIRY (R85). -/
def execMeterSilenceExpiry (link : LinkId) (s : State) : Host.Outcome State Fault Refusal :=
  .next (event (silenceExpiry link) s)

/-- SWITCHER_SILENCE_EXPIRY (R124). -/
def execSwitcherSilenceExpiry (slot : SlotId) (s : State) : Host.Outcome State Fault Refusal :=
  .next (event (slotSilence slot) s)

/-- SWITCHER_HOLD_EXPIRY (R125). -/
def execSwitcherHoldExpiry (slot : SlotId) (s : State) : Host.Outcome State Fault Refusal :=
  .next (event (slotHold slot) s)

/-- PROBE_TIMEOUT (R72). -/
def execProbeTimeout (s : State) : Host.Outcome State Fault Refusal :=
  .next (event probeTimeout s)

/-- LAMP_REFRESH_EXPIRY (R139). -/
def execLampRefreshExpiry (s : State) : Host.Outcome State Fault Refusal :=
  .next (event refreshExpiry s)

/-- SWEEP_INTERVAL_EXPIRY (R68). -/
def execSweepIntervalExpiry (s : State) : Host.Outcome State Fault Refusal :=
  .next (event intervalExpiry s)

end Sys2Proof.Machine
end

