-- ==== Sys2Proof/Machine/WriteCommands.lean ====
section
/-! DEFINITION. The meanings of the CMD frames that carry a WRITE, one for each writable table. -/

namespace Sys2Proof.Machine

/-- WRITE_BAND (R2, R3). -/
def execWriteBand (h : CmdHead) (index : Half) (record : List Byte) (s : State) : Host.Outcome State Fault Refusal :=
  .next (receiveWrite h Table.band 18 writeBand index record s)

/-- WRITE_LINK (R8, R9, R10). -/
def execWriteLink (h : CmdHead) (index : Half) (record : List Byte) (s : State) : Host.Outcome State Fault Refusal :=
  .next (receiveWrite h Table.link 22 writeLink index record s)

/-- WRITE_WINDOW (R14, R15). -/
def execWriteWindow (h : CmdHead) (index : Half) (record : List Byte) (s : State) : Host.Outcome State Fault Refusal :=
  .next (receiveWrite h Table.window 6 writeWindow index record s)

/-- WRITE_SWITCHER (R118, R120). -/
def execWriteSwitcher (h : CmdHead) (index : Half) (record : List Byte) (s : State) : Host.Outcome State Fault Refusal :=
  .next (receiveWrite h Table.switcher 27 writeSwitcher index record s)

/-- WRITE_SOURCEMAP (R119, R120). -/
def execWriteSourcemap (h : CmdHead) (index : Half) (record : List Byte) (s : State) : Host.Outcome State Fault Refusal :=
  .next (receiveWrite h Table.sourcemap 64 writeSourcemap index record s)

/-- WRITE_PALETTE (R133). -/
def execWritePalette (h : CmdHead) (index : Half) (record : List Byte) (s : State) : Host.Outcome State Fault Refusal :=
  .next (receiveWrite h Table.palette 4 writePalette index record s)

/-- WRITE_CONDITION (R134). -/
def execWriteCondition (h : CmdHead) (index : Half) (record : List Byte) (s : State) : Host.Outcome State Fault Refusal :=
  .next (receiveWrite h Table.condition 2 writeCondition index record s)

/-- WRITE_TALKSRC (R143). -/
def execWriteTalksrc (h : CmdHead) (index : Half) (record : List Byte) (s : State) : Host.Outcome State Fault Refusal :=
  .next (receiveWrite h Table.talksrc 3 writeTalkSource index record s)

/-- WRITE_DEST (R144). -/
def execWriteDest (h : CmdHead) (index : Half) (record : List Byte) (s : State) : Host.Outcome State Fault Refusal :=
  .next (receiveWrite h Table.dest 6 writeDest index record s)

/-- WRITE_XPOINT (R145). -/
def execWriteXpoint (h : CmdHead) (index : Half) (record : List Byte) (s : State) : Host.Outcome State Fault Refusal :=
  .next (receiveWrite h Table.xpoint 64 writeXpoint index record s)

/-- WRITE_SETTINGS (R181). -/
def execWriteSettings (h : CmdHead) (index : Half) (record : List Byte) (s : State) : Host.Outcome State Fault Refusal :=
  .next (receiveWrite h Table.settings 12 writeSettings index record s)

end Sys2Proof.Machine
end

