-- ==== Sys2Proof/Machine/Dispatch.lean ====
section
/-! DEFINITION. One arm per command: a direct call of its meaning. -/

namespace Sys2Proof.Machine

def exec (i : Instr) (s : State) : Host.Outcome State Fault Refusal :=
  match i with
  | .resetNLow => Sys2Proof.Machine.execResetNLow s
  | .coldReset straps => Sys2Proof.Machine.execColdReset straps s
  | .ringInFrame raw => Sys2Proof.Machine.execRingInFrame raw s
  | .fillSlot => Sys2Proof.Machine.execFillSlot s
  | .queueSpaceEvent => Sys2Proof.Machine.execQueueSpaceEvent s
  | .lampFrameBuild => Sys2Proof.Machine.execLampFrameBuild s
  | .bypassEntry => Sys2Proof.Machine.execBypassEntry s
  | .tally h payload => Sys2Proof.Machine.execTally h payload s
  | .cycle h payload => Sys2Proof.Machine.execCycle h payload s
  | .voice h payload => Sys2Proof.Machine.execVoice h payload s
  | .meterLinkForm h fields => Sys2Proof.Machine.execMeterLinkForm h fields s
  | .meterProbeForm h fields => Sys2Proof.Machine.execMeterProbeForm h fields s
  | .tuned h payload => Sys2Proof.Machine.execTuned h payload s
  | .tuneTimerExpiry => Sys2Proof.Machine.execTuneTimerExpiry s
  | .meterSilenceExpiry link => Sys2Proof.Machine.execMeterSilenceExpiry link s
  | .switcherSilenceExpiry slot => Sys2Proof.Machine.execSwitcherSilenceExpiry slot s
  | .switcherHoldExpiry slot => Sys2Proof.Machine.execSwitcherHoldExpiry slot s
  | .probeTimeout => Sys2Proof.Machine.execProbeTimeout s
  | .lampRefreshExpiry => Sys2Proof.Machine.execLampRefreshExpiry s
  | .sweepIntervalExpiry => Sys2Proof.Machine.execSweepIntervalExpiry s
  | .checkCompletion => Sys2Proof.Machine.execCheckCompletion s
  | .searchCompletion => Sys2Proof.Machine.execSearchCompletion s
  | .auditCompletion => Sys2Proof.Machine.execAuditCompletion s
  | .refillCompletion => Sys2Proof.Machine.execRefillCompletion s
  | .signatureCompletion => Sys2Proof.Machine.execSignatureCompletion s
  | .identify h params => Sys2Proof.Machine.execIdentify h params s
  | .status h params => Sys2Proof.Machine.execStatus h params s
  | .read h params => Sys2Proof.Machine.execRead h params s
  | .writeBand h index record => Sys2Proof.Machine.execWriteBand h index record s
  | .writeLink h index record => Sys2Proof.Machine.execWriteLink h index record s
  | .writeWindow h index record => Sys2Proof.Machine.execWriteWindow h index record s
  | .writeSwitcher h index record => Sys2Proof.Machine.execWriteSwitcher h index record s
  | .writeSourcemap h index record => Sys2Proof.Machine.execWriteSourcemap h index record s
  | .writePalette h index record => Sys2Proof.Machine.execWritePalette h index record s
  | .writeCondition h index record => Sys2Proof.Machine.execWriteCondition h index record s
  | .writeTalksrc h index record => Sys2Proof.Machine.execWriteTalksrc h index record s
  | .writeDest h index record => Sys2Proof.Machine.execWriteDest h index record s
  | .writeXpoint h index record => Sys2Proof.Machine.execWriteXpoint h index record s
  | .writeSettings h index record => Sys2Proof.Machine.execWriteSettings h index record s
  | .check h params => Sys2Proof.Machine.execCheck h params s
  | .audit h params => Sys2Proof.Machine.execAudit h params s
  | .refill h params => Sys2Proof.Machine.execRefill h params s
  | .signature h params => Sys2Proof.Machine.execSignature h params s
  | .readLog h params => Sys2Proof.Machine.execReadLog h params s
  | .moveLink h params => Sys2Proof.Machine.execMoveLink h params s
  | .releaseLink h params => Sys2Proof.Machine.execReleaseLink h params s
  | .cancelMove h params => Sys2Proof.Machine.execCancelMove h params s
  | .sweepGo h params => Sys2Proof.Machine.execSweepGo h params s
  | .sweepStop h params => Sys2Proof.Machine.execSweepStop h params s
  | .lampTest h params => Sys2Proof.Machine.execLampTest h params s
  | .showLock h params => Sys2Proof.Machine.execShowLock h params s
  | .showUnlock h params => Sys2Proof.Machine.execShowUnlock h params s
  | .bypass h params => Sys2Proof.Machine.execBypass h params s
  | .resume h params => Sys2Proof.Machine.execResume h params s
  | .restart h params => Sys2Proof.Machine.execRestart h params s
  | .unknownRequest h code params => Sys2Proof.Machine.execUnknownRequest h code params s
  | .powerLoss => Sys2Proof.Machine.execPowerLoss s
  | .searchEntryVerdict => Sys2Proof.Machine.execSearchEntryVerdict s
  | .conflictLogged => Sys2Proof.Machine.execConflictLogged s

end Sys2Proof.Machine
end

