-- ==== Sys2Proof/Machine/Step.lean ====
section
/-! DEFINITION. One step: the command at the front of the queue is taken and its meaning runs on the state with the queue's
rest. -/

namespace Sys2Proof.Machine

/-- One step. On an empty queue the part idles: no command has reached it (DESIGN CHOICE, notes/assumptions/2). -/
def step (s : State) : Host.Outcome State Fault Refusal :=
  match s.pending with
  | [] => .next s
  | c :: rest => exec c { s with pending := rest }

/-- The state with the command that a table word spells at the front of its queue. The table gives no row any bits, so no word
spells a command and the state stays (notes/assumptions/1). -/
def State.withFetchWord (s : State) (nbits w : Nat) : State :=
  match decodeTableWord nbits w with
  | some c => { s with pending := c :: s.pending }
  | none => s

end Sys2Proof.Machine
end

