-- ==== Sys2Proof/Safety.lean ====
section
/-! DEFINITION. The words that statements about the part are made in: when it takes a frame or a request, the reply to a
request, the bytes a command stands for, the steps of a sweep, OWN marking, the tests of the compatibility arithmetic, and the
invariants of its records. -/

namespace Sys2Proof

/-- A frame of a kind passes its check (R161). -/
def FrameHead.passes (h : FrameHead) (kind : Byte) (payload : List Byte) : Bool :=
  payload.length ≤ maxPayload && h.check = Machine.crc16 (Machine.body kind h.dst h.src payload)

/-- The head of the frame that carries a CMD (R161, R162). -/
def CmdHead.frame (h : CmdHead) : FrameHead := { dst := h.dst, src := h.src, check := h.check }

/-- Who a CMD is answered to (R175). -/
def CmdHead.asker (h : CmdHead) : Machine.Asker := { id := h.id, src := h.src }

/-- The bytes of a CMD on the ring (R161, R162). -/
def CmdHead.wire (h : CmdHead) (code : Byte) (params : List Byte) : List Byte :=
  Machine.wire Machine.Kind.cmd h.dst h.src (code :: h.id :: params) h.check

/-- The bytes of a WRITE on the ring (R163). -/
def CmdHead.wireWrite (h : CmdHead) (table : Byte) (index : Half) (record : List Byte) : List Byte :=
  h.wire Machine.Req.write (Machine.writeParams table index record)

/-- The bytes at Ring In that a frame command stands for; the other commands stand for none. -/
def Instr.wireBytes : Instr → Option (List Byte)
  | .ringInFrame raw => some raw
  | .tally h p => some (Machine.wire Machine.Kind.tally h.dst h.src p h.check)
  | .cycle h p => some (Machine.wire Machine.Kind.cycle h.dst h.src p h.check)
  | .voice h p => some (Machine.wire Machine.Kind.voice h.dst h.src p h.check)
  | .meterLinkForm h p => some (Machine.wire Machine.Kind.meter h.dst h.src (0 :: p) h.check)
  | .meterProbeForm h p => some (Machine.wire Machine.Kind.meter h.dst h.src (1 :: p) h.check)
  | .tuned h p => some (Machine.wire Machine.Kind.tuned h.dst h.src p h.check)
  | .identify h p => some (h.wire Machine.Req.identify p)
  | .status h p => some (h.wire Machine.Req.status p)
  | .read h p => some (h.wire Machine.Req.read p)
  | .writeBand h i r => some (h.wireWrite Machine.Table.band i r)
  | .writeLink h i r => some (h.wireWrite Machine.Table.link i r)
  | .writeWindow h i r => some (h.wireWrite Machine.Table.window i r)
  | .writeSwitcher h i r => some (h.wireWrite Machine.Table.switcher i r)
  | .writeSourcemap h i r => some (h.wireWrite Machine.Table.sourcemap i r)
  | .writePalette h i r => some (h.wireWrite Machine.Table.palette i r)
  | .writeCondition h i r => some (h.wireWrite Machine.Table.condition i r)
  | .writeTalksrc h i r => some (h.wireWrite Machine.Table.talksrc i r)
  | .writeDest h i r => some (h.wireWrite Machine.Table.dest i r)
  | .writeXpoint h i r => some (h.wireWrite Machine.Table.xpoint i r)
  | .writeSettings h i r => some (h.wireWrite Machine.Table.settings i r)
  | .check h p => some (h.wire Machine.Req.check p)
  | .audit h p => some (h.wire Machine.Req.audit p)
  | .refill h p => some (h.wire Machine.Req.refill p)
  | .signature h p => some (h.wire Machine.Req.signature p)
  | .readLog h p => some (h.wire Machine.Req.readLog p)
  | .moveLink h p => some (h.wire Machine.Req.moveLink p)
  | .releaseLink h p => some (h.wire Machine.Req.releaseLink p)
  | .cancelMove h p => some (h.wire Machine.Req.cancelMove p)
  | .sweepGo h p => some (h.wire Machine.Req.sweepGo p)
  | .sweepStop h p => some (h.wire Machine.Req.sweepStop p)
  | .lampTest h p => some (h.wire Machine.Req.lampTest p)
  | .showLock h p => some (h.wire Machine.Req.showLock p)
  | .showUnlock h p => some (h.wire Machine.Req.showUnlock p)
  | .bypass h p => some (h.wire Machine.Req.bypass p)
  | .resume h p => some (h.wire Machine.Req.resume p)
  | .restart h p => some (h.wire Machine.Req.restart p)
  | .unknownRequest h c p => some (h.wire c p)
  | .resetNLow | .coldReset _ | .fillSlot | .queueSpaceEvent | .lampFrameBuild | .bypassEntry | .tuneTimerExpiry
  | .meterSilenceExpiry _ | .switcherSilenceExpiry _ | .switcherHoldExpiry _ | .probeTimeout | .lampRefreshExpiry
  | .sweepIntervalExpiry | .checkCompletion | .searchCompletion | .auditCompletion | .refillCompletion
  | .signatureCompletion | .powerLoss | .searchEntryVerdict | .conflictLogged => none

end Sys2Proof

namespace Sys2Proof.Machine

/-! ## When a frame or a request is taken -/

/-- The part runs and is not permanently in BYPASS (R165). -/
def State.onRing (s : State) : Bool := s.live && !s.rif.permanent

/-- Arrivals are handled by the table of R166: NORMAL mode, the bypass entry mark clear. -/
def State.working (s : State) : Bool := s.onRing && s.rif.mode = .normal && s.rif.entry.isNone

/-- A frame of a consumed kind is consumed by R166: it passes its check, is addressed to the part and is not the part's own. -/
def State.consumes (s : State) (kind : Byte) (h : FrameHead) (payload : List Byte) : Bool :=
  s.working && h.passes kind payload && h.dst = s.rif.node && h.src ≠ s.rif.node

/-- A frame of an observed kind is observed by R166: it passes its check and is not the part's own. -/
def State.observes (s : State) (kind : Byte) (h : FrameHead) (payload : List Byte) : Bool :=
  s.working && h.passes kind payload && h.src ≠ s.rif.node

/-- A CMD is consumed by R166 and taken by the MGR (R175): fewer than four RSP frames stand in the output hold. -/
def State.takes (s : State) (h : CmdHead) (code : Byte) (params : List Byte) : Bool :=
  s.consumes Kind.cmd h.frame (code :: h.id :: params) && s.mgr.hold.length < 4

/-- In BYPASS a CMD addressed to the part is consumed by R172 and taken by the MGR, for the three requests taken there; the
part's own frames are not stripped in BYPASS. -/
def State.takesInBypass (s : State) (h : CmdHead) (code : Byte) (params : List Byte) : Bool :=
  s.onRing && s.rif.mode = .bypass && s.rif.entry.isNone && h.frame.passes Kind.cmd (code :: h.id :: params)
    && h.dst = s.rif.node && s.mgr.hold.length < 4

/-- The same while the bypass entry mark is set (R173). -/
def State.takesMarked (s : State) (h : CmdHead) (code : Byte) (params : List Byte) : Bool :=
  s.onRing && s.rif.entry.isSome && h.frame.passes Kind.cmd (code :: h.id :: params)
    && h.dst = s.rif.node && s.mgr.hold.length < 4

/-- In BYPASS, or while the bypass entry mark is set, a link-form METER frame to the part is forwarded and heard (R94, R172). -/
def State.hearsInBypass (s : State) (h : FrameHead) (fields : List Byte) : Bool :=
  s.onRing && (s.rif.mode = .bypass || s.rif.entry.isSome) && h.passes Kind.meter (0 :: fields) && h.dst = s.rif.node

/-- In BYPASS, or while the bypass entry mark is set, a TALLY frame is forwarded and heard, whatever its destination and its
source (R131, R172). -/
def State.hearsTally (s : State) (h : FrameHead) (payload : List Byte) : Bool :=
  s.onRing && (s.rif.mode = .bypass || s.rif.entry.isSome) && h.passes Kind.tally payload

/-- A WRITE to a table is consumed and taken. -/
def State.takesWrite (s : State) (h : CmdHead) (table : Byte) (index : Half) (record : List Byte) : Bool :=
  s.takes h Req.write (writeParams table index record)

/-- The state in which a consumed frame is handed to its block: its place at Ring Out is a FILL slot (R167). -/
def State.handed (s : State) : State := s.setOut .slot

/-- The reply to a CMD from the state its request leaves: the RSP formed and offered (R175, R176). -/
def reply (h : CmdHead) (code : Byte) (st : RspStatus) (results : List Byte) (s : State) : State :=
  offerRsp (s.rspFrame code h.asker st results) s

/-- The payload of an RSP (R162, R175). -/
def rspPayload (code : Byte) (h : CmdHead) (st : RspStatus) (results : List Byte) : List Byte :=
  code :: h.id :: st.code :: results

/-- The RSP frame to a CMD (R175). -/
def State.rspTo (s : State) (h : CmdHead) (code : Byte) (st : RspStatus) (results : List Byte) : Frame :=
  { kind := Kind.rsp, dst := h.src, src := s.rif.node, payload := rspPayload code h st results }

/-- The order in which the classes of the Control Queue are served: TUNE, LAMP, PROBE, RSP, NOTE (R168). -/
def CtlClass.rank : CtlClass → Nat
  | .tune => 0 | .lamp => 1 | .probe => 2 | .rsp => 3 | .note => 4

/-- An index is the first, counted upward from a start and wrapping, at which a test holds. -/
def firstFrom {n : Nat} (start k : Fin n) (p : Fin n → Bool) : Prop :=
  p k = true ∧ ∀ j : Fin n, (j - start).val < (k - start).val → p j = false

/-- The state an event of the part itself starts from: nothing at Ring Out. -/
def State.quieted (s : State) : State := s.setOut .quiet

/-! ## A sweep -/

/-- A sweep configuration that may be used (R64 test 1). -/
def State.sweepable (s : State) (c : SweepCfg) : Prop :=
  (s.band c.band).enabled = true ∧ (s.band c.band).probeNode ≠ 0 ∧ c.start < (s.band c.band).cellCount
    ∧ c.stop < (s.band c.band).cellCount

/-- The cell at a position of a pass over a band of so many cells (R65): cell numbers rise from the start cell, and wrap to 0
after the last cell where the start cell is above the end cell. -/
def SweepCfg.cellAt (c : SweepCfg) (cells pos : Nat) : Option Nat :=
  if c.start ≤ c.stop then given (pos ≤ c.stop - c.start) (c.start + pos)
  else if c.start + pos < cells then some (c.start + pos)
  else given (c.start + pos - cells ≤ c.stop) (c.start + pos - cells)

/-- The next cell of the pass, and its position: the first from the cursor on that is not OWN (R65). -/
def State.nextIs (s : State) (j pos : Nat) : Prop :=
  let at' (q : Nat) : Option Nat := s.swp.cfg.cellAt (s.band s.swp.cfg.band).cellCount q
  s.swp.cfg.start < (s.band s.swp.cfg.band).cellCount ∧ s.swp.cursor ≤ pos ∧ at' pos = some j
    ∧ (s.swp.cell s.swp.cfg.band j).state ≠ .own
    ∧ ∀ q x, s.swp.cursor ≤ q → q < pos → at' q = some x → (s.swp.cell s.swp.cfg.band x).state = .own

/-- No cell of the pass that is not OWN remains from the cursor on (R65). -/
def State.passOver (s : State) : Prop :=
  ∀ q x, s.swp.cursor ≤ q → s.swp.cfg.cellAt (s.band s.swp.cfg.band).cellCount q = some x →
    (s.swp.cell s.swp.cfg.band x).state = .own

/-- A pass begins: cursor at the start cell, marks clear (R65). -/
def State.passBegun (s : State) : State :=
  { s with swp := { s.swp with cursor := 0, marks := Vector.replicate 256 false, passTimeouts := 0 } }

/-- The PROBE frame and the probe of a cell, with the tag counter's next value (R69). -/
def State.probeOf (s : State) (j : Nat) : HeldProbe :=
  let b := s.swp.cfg.band
  let tag := s.swp.probeTag + 1
  let channel := (s.band b).cellCentre j
  { frame :=
      { kind := Kind.probe, dst := (s.band b).probeNode, src := s.rif.node
        payload := [tag, byte b.val] ++ n16 channel ++ [byte s.swp.cfg.dwell] }
    probe := { tag := tag, band := b, cell := j, channel := channel } }

/-- A cell is probed and the Control Queue, which has room, takes the PROBE frame (R69). -/
def State.probedAt (s : State) (j pos : Nat) : State :=
  { s with
    rif := { s.rif with ctlQ := s.rif.ctlQ ++ [{ cls := .probe, frame := (s.probeOf j).frame }] }
    swp := { s.swp with
      cursor := pos, state := .probing, probeTag := s.swp.probeTag + 1, probe := some (s.probeOf j).probe
      probeTimer := some (s.swp.cfg.dwell + 20), probeHold := none } }

/-- A cell is probed, and its PROBE frame waits in the SWP's output hold (R69, R170). -/
def State.probeKeptAt (s : State) (j pos : Nat) : State :=
  { s with swp := { s.swp with
      cursor := pos, state := .probing, probeTag := s.swp.probeTag + 1, probeHold := some (s.probeOf j) } }

/-- From `u` the cell at a position is probed, and `t` is the state after: the PROBE frame waits in the output hold at a
queue-space event, and otherwise it is admitted below 24 frames, admitted in a NOTE's place, or held (R69, R169, R170). -/
def State.probesTo (u t : State) (waits : Bool) (j pos : Nat) : Prop :=
  if waits then t = u.probeKeptAt j pos
  else (u.rif.ctlQ.length < 24 ∧ t = u.probedAt j pos)
    ∨ (24 ≤ u.rif.ctlQ.length ∧ (∀ x ∈ u.rif.ctlQ, x.cls ≠ .note) ∧ t = u.probeKeptAt j pos)
    ∨ (24 ≤ u.rif.ctlQ.length ∧ ∃ r, u.rif.admitted { cls := .probe, frame := (u.probeOf j).frame } = some r
        ∧ t = { u.probedAt j pos with rif := r })

/-- The end of a pass (R75): the cells not measured age, SWEEP_DONE, the band's refill flag. -/
def State.passClosed (s : State) : State :=
  setRefillFlag s.swp.cfg.band (note .sweepDone
    ([byte s.swp.cfg.band.val] ++ n16 (s.swp.marks.toList.filter id).length ++ n16 s.swp.passTimeouts)
    { s with
      swp := { s.swp with
        cells := wr s.swp.cells s.swp.cfg.band (tab fun j =>
          if j.val < (s.band s.swp.cfg.band).cellCount ∧ (rd (rd s.swp.cells s.swp.cfg.band) j).state ≠ .own
              ∧ rd s.swp.marks j = false then
            (rd (rd s.swp.cells s.swp.cfg.band) j).aged
          else rd (rd s.swp.cells s.swp.cfg.band) j) } })

/-- From `u` the sweep takes the next cell, and `t` is the state after (R65, R75): the cell is probed; or the pass is over, and
the sweep becomes IDLE, waits at the start cell in STEP mode, or in CYCLE mode after a measured pass begins the next. -/
def State.takesNext (u t : State) (waits : Bool) : Prop :=
  (∃ j pos, u.nextIs j pos ∧ u.probesTo t waits j pos)
  ∨ (u.swp.cfg.start < (u.band u.swp.cfg.band).cellCount ∧ u.passOver ∧
    (((u.swp.cfg.mode = .once ∨ u.swp.cfg.mode = .onceR ∨ (u.swp.cfg.mode = .cycle ∧ ∀ j, rd u.swp.marks j = false))
        ∧ t = { u.passClosed with swp := { u.passClosed.swp with state := .idle } })
      ∨ (u.swp.cfg.mode = .step ∧ t = { u.passClosed with swp := { u.passClosed.swp with state := .waiting, cursor := 0 } })
      ∨ (u.swp.cfg.mode = .cycle ∧ (∃ j, rd u.swp.marks j = true)
        ∧ ∃ j pos, u.passClosed.passBegun.nextIs j pos ∧ u.passClosed.passBegun.probesTo t waits j pos)))

/-- An effective trigger reaches the sweep, and `u` is the state from which the next cell is taken (R67, R68): a pass starts, an
ONCE_R pass is restarted, or a STEP sweep makes its next step, which at the start cell begins a pass. -/
def State.triggered (s u : State) : Prop :=
  (s.swp.state = .idle ∧ u = ({ s with swp := { s.swp with timeouts := 0 } } : State).passBegun)
  ∨ ((s.swp.state = .probing ∨ s.swp.state = .paused) ∧ s.swp.cfg.mode = .onceR ∧ u = ({ s with
      rif := { s.rif with notesLost := s.rif.notesLost || s.swp.reportHold.isSome }
      swp := { s.swp with probe := none, probeTimer := none, probeHold := none, reportHold := none } } : State).passBegun)
  ∨ (s.swp.state = .waiting ∧ s.swp.cfg.mode = .step
    ∧ (s.swp.cursor ≠ 0 ∧ u = s ∨ s.swp.cursor = 0 ∧ u = s.passBegun))

/-- A cell as OWN marking leaves it (R60): `touched` cells are marked by whether a carrier overlaps them, the others stay. -/
def Cell.remarked (c : Cell) (touched overlapped : Bool) : Cell :=
  if touched && overlapped then { c with state := .own }
  else if touched && c.state = .own then { c with state := .unmeasured, age := 0 }
  else c

/-- From `s` to `t` the OWN marks of a band were recomputed over some spans (R60): a cell that one of them overlaps is OWN when a
carrier of the band as it stands in `t` overlaps it, every other cell when it was OWN before. -/
def State.ownMarked (s t : State) (b : BandId) (spans : List Span) : Prop :=
  ∀ j : Fin 256, (rd (rd t.swp.cells b) j).state = .own ↔
    if ∃ c, (s.band b).cellSpan j.val = some c ∧ j.val < (s.band b).cellCount ∧ ∃ x ∈ spans, c.overlaps x = true then
      ∃ c, (s.band b).cellSpan j.val = some c ∧ ∃ y ∈ bandCarriers t.plan t.rte b, c.overlaps y = true
    else (rd (rd s.swp.cells b) j).state = .own

/-! ## The compatibility arithmetic -/

/-- A carrier or the candidate as a test meets it: item, frequency, width. -/
abbrev Tone := Item × Int × Int

/-- The positions of a list of so many other than those given, in order. -/
def positions (n : Nat) (skip : List Nat) : List Nat := (List.range n).filter fun i => i ∉ skip

/-- The test of R25 and its record: the two stand closer than half their widths and the carrier guard. -/
def spacingHit (gcc : Int) (a v : Tone) : Option Conflict :=
  let t := a.2.2 + v.2.2 + 2 * gcc
  let d := |a.2.1 - v.2.1|
  if 2 * d < t then
    some { kind := .spacing, aggressors := [a.1], victim := .item v.1, product := none, shortfall := some ((t - 2 * d + 1) / 2) }
  else none

/-- The test of a product of frequency `p` and width `w` on a victim and its record (R26, R28, R30, R31). -/
def productHit (gim : Int) (kind : ConflictKind) (formers : List Item) (p w : Int) (v : Tone) : Option Conflict :=
  let t := w + v.2.2 + 2 * gim
  let d := |p - v.2.1|
  if 0 ≤ p ∧ 2 * d < t then
    some { kind := kind, aggressors := formers, victim := .item v.1, product := some p, shortfall := some ((t - 2 * d + 1) / 2) }
  else none

/-- The two-tone product of an ordered pair on a victim (R26); tests are written (a, b, victim). -/
def twoToneHit (gim : Int) (x : Tone × Tone × Tone) : Option Conflict :=
  productHit gim .im2 [x.1.1, x.2.1.1] (2 * x.1.2.1 - x.2.1.2.1) (2 * x.1.2.2 + x.2.1.2.2) x.2.2

/-- The three-tone product of x, y and z on a victim (R28); tests are written (x, y, z, victim). -/
def threeToneHit (gim : Int) (q : Tone × Tone × Tone × Tone) : Option Conflict :=
  productHit gim .im3 [q.1.1, q.2.1.1, q.2.2.1.1] (q.1.2.1 + q.2.1.2.1 - q.2.2.1.2.1)
    (q.1.2.2 + q.2.1.2.2 + q.2.2.1.2.2) q.2.2.2

/-- The two-tone tests of a candidate among so many entries, in the order of R27. -/
def twoToneTests (n : Nat) (entry : Nat → Tone) (c : Tone) : List (Tone × Tone × Tone) :=
  ((List.range n).flatMap fun i =>
    (positions n [i]).map (fun k => (c, entry i, entry k)) ++ (positions n [i]).map fun k => (entry i, c, entry k))
  ++ (List.range n).flatMap fun i => (positions n [i]).map fun j => (entry i, entry j, c)

/-- The pairs of positions x before y, with x in order and then y in order (R29). -/
def positionPairs (n : Nat) : List (Nat × Nat) :=
  (List.range n).flatMap fun x => ((List.range n).filter fun y => x < y).map fun y => (x, y)

/-- The three-tone tests of a candidate among so many entries, in the order of R29. -/
def threeToneTests (n : Nat) (entry : Nat → Tone) (c : Tone) : List (Tone × Tone × Tone × Tone) :=
  ((List.range n).flatMap fun y => (positions n [y]).flatMap fun z =>
    (positions n [y, z]).map fun k => (c, entry y, entry z, entry k))
  ++ ((positionPairs n).flatMap fun x => (positions n [x.1, x.2]).map fun k => (entry x.1, entry x.2, c, entry k))
  ++ (positionPairs n).flatMap fun x => (positions n [x.1, x.2]).map fun z => (entry x.1, entry x.2, entry z, c)

/-- The two-tone tests of a standing evaluation among so many entries, in the order of R33. -/
def standingTwoTone (n : Nat) (entry : Nat → Tone) : List (Tone × Tone × Tone) :=
  (List.range n).flatMap fun a => (positions n [a]).flatMap fun b =>
    (positions n [a, b]).map fun k => (entry a, entry b, entry k)

/-- The three-tone tests of a standing evaluation among so many entries, in the order of R33. -/
def standingThreeTone (n : Nat) (entry : Nat → Tone) : List (Tone × Tone × Tone × Tone) :=
  (positionPairs n).flatMap fun x => (positions n [x.1, x.2]).flatMap fun z =>
    (positions n [x.1, x.2, z]).map fun k => (entry x.1, entry x.2, entry z, entry k)

/-- A window of a band covers a channel range that overlaps the span of a tone (R12, R13, R23). -/
def Window.reaches (w : Window) (e : BandEntry) (b : Nat) (a : Tone) : Prop :=
  w.enabled = true ∧ w.band.val = b ∧ ∃ first last base : Int,
    base = (match w.anchor with | .bottom => 0 | .top => (e.count : Int) - w.size)
    ∧ (w.complement = false ∧ first = base ∧ last = base + w.size - 1
      ∨ w.complement = true ∧ (first = 0 ∧ last = base - 1 ∨ first = base + w.size ∧ last = e.count - 1))
    ∧ first ≤ last
    ∧ 2 * (e.base + first * e.step) - e.step < 2 * a.2.1 + a.2.2
    ∧ 2 * a.2.1 - a.2.2 < 2 * (e.base + last * e.step) + e.step

/-- The EXCLUDED records of a tone: one for each window of the band that it reaches, in window order (R23). -/
def Snapshot.excludes (snap : Snapshot) (e : BandEntry) (b : Nat) (a : Tone) (found : List Conflict) : Prop :=
  ∃ ws : List (Fin 8), ws.Pairwise (fun x y => x < y) ∧ (∀ w, w ∈ ws ↔ (rd snap.windows w).reaches e b a)
    ∧ found = ws.map fun w =>
        { kind := .excluded, aggressors := [a.1], victim := .window w.val, product := none, shortfall := none }

/-- The checked set of R21: the COMMITTED entries of the band's links other than the mover, and the TARGET entry of an Active
order in TUNING, in link order with a link's TARGET entry after its COMMITTED one. -/
def Snapshot.checks (snap : Snapshot) (e : BandEntry) (b : Nat) (mover : Option Nat) (p : List Carrier) : Prop :=
  p.Pairwise (fun x y => x.link < y.link ∨ (x.link = y.link ∧ x.target = false ∧ y.target = true))
  ∧ ∀ x : Carrier, x ∈ p ↔ ∃ (k : LinkId) (n : Nat), x.link = k.val ∧ mover ≠ some k.val ∧ (rd snap.links k).band.val = b
      ∧ x.freq = e.base + n * e.step ∧ x.width = (rd snap.links k).width
      ∧ (x.target = false ∧ (rd snap.links k).carrier.state ≠ .none ∧ (rd snap.links k).carrier.channel = some n
        ∨ x.target = true ∧ ∃ o, snap.order = some o ∧ o.link = k ∧ o.phase = .tuning ∧ o.chosen = some (.channel n))

/-! ## Several FILL slots in turn -/

/-- So many FILL slots, one after the other; a run that stops stays where it stops. -/
def fillTurns : Nat → State → State
  | 0, s => s
  | n + 1, s => match exec .fillSlot s with
    | .next t => fillTurns n t
    | _ => s

/-! ## Invariants -/

/-- The collections hold no more than their capacities (00 Capacities and limits): the Control Queue 24 frames (R169), the
Deferred List 8 orders (R97), the Conflict Log 16 records (R36), each Spare List 16 entries (R50), the frame check error
count at most 65,535 (R164), and the MGR's output hold 6 frames (R176). -/
def State.withinCapacity (s : State) : Prop :=
  s.rif.ctlQ.length ≤ 24 ∧ s.rte.deferred.length ≤ 8 ∧ s.cpl.log.records.length ≤ 16
    ∧ (∀ b : BandId, (rd s.cpl.spares b).length ≤ 16) ∧ s.rif.errors ≤ 65535 ∧ s.mgr.hold.length ≤ 6

/-- The pending flag of a link that is not eligible is clear (R132). -/
def State.pendingEligible (s : State) : Prop :=
  ∀ k : LinkId, rd s.lmp.pending k = true → s.eligible k = true

/-- Every link's merged tally is the one R127 forms from the slots, a disabled slot is OFFLINE (R120), and a slot that is
OFFLINE has an empty contribution and both timers stopped (R117). -/
def State.tallyMerged (s : State) : Prop :=
  (∀ k : LinkId, (s.link k).tally = rd (mergedTallies s.tly.slots) k)
    ∧ (∀ i : SlotId, (s.slot i).cfg.enabled = false → (s.slot i).state = .offline)
    ∧ ∀ i : SlotId, (s.slot i).state = .offline →
        (s.slot i).contrib = emptyContribution ∧ (s.slot i).silence = none ∧ (s.slot i).hold = none

/-- No MIX frame waits for a destination whose link holds it (R153, R156). -/
def State.noHeldMix (s : State) : Prop :=
  ∀ (d : DestId) (k : LinkId), (rd s.tbm.dests d).link = some k → (s.link k).carrier.holds = true → rd s.rif.voiceQ d = none

/-- A Spare List holds no channel twice, and none that lies in a cell that is BUSY or OWN (R50). -/
def State.sparesDistinct (s : State) : Prop :=
  ∀ b : BandId, ((rd s.cpl.spares b).map (·.channel)).Nodup
    ∧ ∀ e ∈ rd s.cpl.spares b, ∀ j : Fin 256, j.val = (s.band b).cellOf e.channel →
        (rd (rd s.swp.cells b) j).state ≠ .busy ∧ (rd (rd s.swp.cells b) j).state ≠ .own

/-- A disabled destination has CALL and DUCKED clear (R150). -/
def State.callsClear (s : State) : Prop :=
  ∀ d : DestId, (rd s.tbm.dests d).enabled = false → rd s.tbm.call d = false ∧ rd s.tbm.ducked d = false

/-- No link has two orders, and none with an order is wanted (R97); a link's phase follows the place of its order (R98); in
BYPASS there are no orders (R116). -/
def State.ordersPlaced (s : State) : Prop :=
  (s.rte.orders.map (·.link)).Nodup
    ∧ (∀ k : LinkId, s.rte.holds k = true → s.want k = none)
    ∧ (∀ k : LinkId, (s.link k).carrier.phase = .idle ↔ s.rte.holds k = false)
    ∧ (∀ o : Order, s.rte.staged = some o ∨ o ∈ s.rte.deferred → (s.link o.link).carrier.phase = .queued)
    ∧ (∀ o : Order, s.rte.active = some o → (s.link o.link).carrier.phase ∈ [.checking, .tuning, .reverting])
    ∧ (s.rif.mode = .bypass → s.rte.orders = [])

/-- What the planner has of the RTE is for the Active order in CHECKING: the request that waits (R39); the operation of origin
RETUNE whose result is not owed to a withdrawn order (R114), with the link's band and width and a found channel that its
snapshot gave CLEAR (R19, R45). A request waits beside such an operation only where that one's result is owed. -/
def State.requestsKept (s : State) : Prop :=
  (∀ r : RteRequest, s.cpl.rtePlace = some r →
      (∃ o : Order, s.rte.active = some o ∧ o.link = r.link ∧ (s.link o.link).carrier.phase = .checking)
      ∧ ∀ op : ActiveOp, s.cpl.active = some op → op.origin = .retune → s.rte.owed = true)
    ∧ (∀ op : ActiveOp, s.cpl.active = some op → op.origin = .retune → s.rte.owed = false →
      ∃ o : Order, s.rte.active = some o ∧ (s.link o.link).carrier.phase = .checking ∧ op.link = some o.link.val
        ∧ op.band = (s.link o.link).cfg.band.val ∧ op.width = some (s.link o.link).cfg.width
        ∧ ∀ n : Nat, op.found = some n →
            (compatCheck op.snap op.band n (s.link o.link).cfg.width op.link .full).verdict .clear = .clear)
    ∧ (s.rte.owed = true → ∃ op : ActiveOp, s.cpl.active = some op ∧ op.origin = .retune)

/-- A carrier in state NONE has no channel, as cold reset, retirement and a commit to OFF leave it (R6, R10, R108), and a waiting
VERIFY order with a channel is for its link's own (R99). -/
def State.carriersRegular (s : State) : Prop :=
  (∀ k : LinkId, (s.link k).carrier.state = .none → (s.link k).carrier.channel = none)
    ∧ ∀ (o : Order) (n : Nat), s.rte.staged = some o ∨ o ∈ s.rte.deferred → o.reason = .verify → o.target = .channel n →
        (s.link o.link).carrier.channel = some n

/-- The snapshot of an operation for the RTE that carries the plan's generation has the plan's windows and band entry: what R17
says of results that carry one generation. A wrap of the counter within one operation, which R17 rules out, breaks it. -/
def State.snapshotCurrent (s : State) : Prop :=
  ∀ (op : ActiveOp) (b : BandId), s.cpl.active = some op → op.origin = .retune → op.snap.gen = s.plan.gen → b.val = op.band →
    op.snap.windows = s.plan.windows ∧ op.snap.band = some (s.band b)

/-- No carrier of a band overlaps an enabled exclusion window of that band (R14). -/
def State.windowsClear (s : State) : Prop :=
  ∀ (w : Fin 8), ∀ y ∈ bandCarriers s.plan s.rte (rd s.plan.windows w).band,
    (rd s.plan.windows w).covers (s.band (rd s.plan.windows w).band) y = false

end Sys2Proof.Machine
end

