-- ==== Sys2Proof/Certificates/Slice0/Obligations.lean ====
section
/-! DEFINITION. The statements about the part: one `def Obligations.<Name> : Prop` for each entry of OBLIGATIONS.json. -/

open Sys2Proof Sys2Proof.Machine

/-! ## The machine and its resets -/

/-- spec/95: each command is one whole step. A step takes the command at the front of the queue and runs it with the queue's
rest. On an empty queue the part idles: the model's choice (notes/assumptions/2). -/
def Obligations.StepRunsFrontCommand : Prop :=
  (∀ (c : Instr) (rest : List Instr) (s : State), s.pending = c :: rest → step s = exec c { s with pending := rest })
    ∧ ∀ s : State, s.pending = [] → step s = .next s

/-- spec/95: every operation of the list is whole and indivisible. Every command answers a next state from every state, and
none touches the queue of waiting commands. -/
def Obligations.EveryCommandCompletes : Prop :=
  ∀ (c : Instr) (s : State), ∃ t : State, exec c s = .next t ∧ t.pending = s.pending

/-- R165 and the cold reset values of R4, R6, R7, R11, R15, R16, R37, R58, R62, R63, R97, R117, R131, R133, R134, R142, R143,
R144, R145, R146, R160, R164, R176, R181, R184: what a COLD_RESET leaves. The SWP's PROBE hold and its count of the pass's timeouts
are empty, as the other holds and counts are; that the held mark of each destination is off is read from the rules by inference
(notes/assumptions/22), and the mark of a queue-space event still owed is the model's own (7). -/
def Obligations.ColdResetRecords : Prop :=
  ∀ (straps : Byte) (s : State), ∃ t : State, exec (.coldReset straps) s = .next t
    ∧ (1 ≤ straps.toNat ∧ straps.toNat ≤ 239 → t.rif.mode = .normal ∧ t.rif.permanent = false)
    ∧ (straps.toNat = 0 ∨ 240 ≤ straps.toNat → t.rif.mode = .bypass ∧ t.rif.permanent = true)
    ∧ t.rif = { node := straps, mode := t.rif.mode, permanent := t.rif.permanent, entry := none,
                voiceQ := Vector.replicate 32 none, voicePtr := 0, ctlQ := [], errors := 0, notesLost := false
                spaceOwed := false }
    ∧ t.pins.bypDrv = true
    ∧ (∀ b, rd t.plan.bands b =
        { enabled := false, base := 0, step := 25, count := 1, gcc := 0, gim := 0, threeTone := false, span := 1,
          threshold := -80, spareWidth := 200, probeNode := 0 })
    ∧ (∀ k, t.link k =
        { cfg := { inUse := false, kind := .camera, band := 0, width := 200, tx := 0, rx := 0, rx2 := 0, priority := 0,
                   autoRetune := false, rescueOnAir := false, blendLamp := false, minLevel := -90, goodMargin := 10,
                   goodQuality := 70, poorQuality := 30, persistence := 4, batteryWarning := 20, lampNode := 0,
                   lampEnable := false, trim := 0, talkback := none }
          carrier := { channel := none, state := .none, forced := false, phase := .idle }
          health := { grade := .unknown, level := none, lastQuality := 0, lastBattery := none, persist := 0,
                      batteryLow := false, silence := none }
          tally := { program := false, preview := false, iso := false } })
    ∧ (∀ w, rd t.plan.windows w = { enabled := false, band := 0, anchor := .bottom, size := 1, complement := false })
    ∧ t.plan.gen = 0
    ∧ t.cpl.active = none ∧ t.cpl.rtePlace = none ∧ t.cpl.mgrPlace = none ∧ t.cpl.answers = []
    ∧ (∀ b, rd t.cpl.flags b = false ∧ rd t.cpl.spares b = [])
    ∧ t.cpl.log = { header := none, verdict := none, total := 0, overflow := 0, records := [] }
    ∧ (∀ b j, rd (rd t.swp.cells b) j = { state := .unmeasured, last := none, peak := none, age := 0 })
    ∧ t.swp.cfg = { band := 0, start := 0, stop := 0, mode := .once, dwell := 2, report := false, timer := false,
                    degrade := false }
    ∧ t.swp.state = .idle ∧ t.swp.cursor = 0 ∧ t.swp.probe = none ∧ t.swp.probeTimer = none ∧ t.swp.probeTag = 0
    ∧ t.swp.timeouts = 0 ∧ t.swp.reportHold = none ∧ (∀ j, rd t.swp.marks j = false) ∧ t.swp.interval = none
    ∧ t.swp.probeHold = none ∧ t.swp.passTimeouts = 0
    ∧ (∀ k, t.want k = none)
    ∧ t.rte = { active := none, staged := none, deferred := [], tuneTag := 0, tuneTimer := none, hold := [], owed := false }
    ∧ (∀ i, (t.slot i).cfg.node = 0 ∧ (t.slot i).cfg.enabled = false
        ∧ (t.slot i).cfg.enables = { program := true, preview := true, iso := true }
        ∧ (∀ k, rd (t.slot i).cfg.suppress.program k = false ∧ rd (t.slot i).cfg.suppress.preview k = false
            ∧ rd (t.slot i).cfg.suppress.iso k = false)
        ∧ (∀ x, rd (t.slot i).map x = none ∧ rd (t.slot i).contrib x = .empty)
        ∧ (t.slot i).state = .offline ∧ (t.slot i).silence = none ∧ (t.slot i).hold = none)
    ∧ t.lmp.palette = coldPalette ∧ t.lmp.conditions = coldConditions
    ∧ (∀ k, rd t.lmp.pending k = false ∧ rd t.lmp.debts k = none)
    ∧ t.lmp.next = 0 ∧ t.lmp.refresh = some 2000 ∧ t.lmp.test = false
    ∧ (∀ i, rd t.tbm.sources i = { node := 0, key := 0, enabled := false } ∧ rd t.tbm.buffers i = .silent
        ∧ ∀ d, rd (rd t.tbm.xpoints i) d = { on := false, gain := 0 })
    ∧ (∀ d, rd t.tbm.dests d = { enabled := false, link := none, wired := 0, feed := none, gain := 0, duck := 8 }
        ∧ rd t.tbm.call d = false ∧ rd t.tbm.ducked d = false ∧ rd t.tbm.held d = false)
    ∧ t.mgr = { settings := { reportNode := 0, tuneTimeout := 300, meterSilence := 500, switcherSilence := 200,
                              switcherHold := 2000, lampRefresh := 2, sweepInterval := 0 }
                locked := false, key := { w0 := 0, w1 := 0, w2 := 0, w3 := 0 }, hold := [] }
    ∧ t.pending = s.pending

/-- R4: the Band Table at a cold reset, and kept by a warm restart, which a RESTART performs when the show lock is released. -/
def Obligations.BandTableAtResets : Prop :=
  (∀ (straps : Byte) (s : State), ∃ t : State, exec (.coldReset straps) s = .next t
    ∧ ∀ b, rd t.plan.bands b =
        { enabled := false, base := 0, step := 25, count := 1, gcc := 0, gim := 0, threeTone := false, span := 1,
          threshold := -80, spareWidth := 200, probeNode := 0 })
  ∧ ∀ (h : CmdHead) (s : State), s.takes h Req.restart [] = true → s.mgr.locked = false →
      ∃ t : State, exec (.restart h []) s = .next t ∧ ∀ b, rd t.plan.bands b = rd s.plan.bands b

/-- R165: RESET_N low and absent power release BYP_DRV, and what arrives goes round the part; a part permanently in BYPASS
forwards every arriving frame, acts on none and inserts nothing. That the records wait unchanged for the cold reset, and that
failed checks are counted in permanent BYPASS, are the model's choices (notes/assumptions/9 and 11). -/
def Obligations.PartOutOfTheRing : Prop :=
  (∀ s : State, exec .resetNLow s =
      .next { s with pins := { s.pins with resetN := false, bypDrv := false }, ringOut := .quiet })
  ∧ (∀ s : State, exec .powerLoss s =
      .next { s with pins := { s.pins with powered := false, bypDrv := false }, ringOut := .quiet })
  ∧ (∀ (c : Instr) (raw : List Byte) (s : State), s.live = false → c.wireBytes = some raw →
      exec c s = .next { s with ringOut := .around raw })
  ∧ (∀ s : State, s.live = false → exec .fillSlot s = .next { s with ringOut := .quiet })
  ∧ ∀ s : State, s.live = true → s.rif.permanent = true →
    (∀ (c : Instr) (raw : List Byte), c.WellFormed = true → c.wireBytes = some raw →
      exec c s = .next { s with ringOut := .forwarded raw,
                                rif := { s.rif with errors := if parseFrame raw = none then min 65535 (s.rif.errors + 1)
                                                              else s.rif.errors } })
    ∧ exec .fillSlot s = .next { s with ringOut := .quiet }

/-! ## Frames -/

/-- R161: the bytes of a frame with a payload of 240 bytes or less are read back as that frame, and bytes that are read as a
frame begin with that frame's own bytes, check included. Bytes beyond a frame's 6 + n are ignored: the model's choice
(notes/assumptions/8). -/
def Obligations.FrameBytesAgree : Prop :=
  (∀ f : Frame, f.payload.length ≤ 240 → parseFrame f.bytes = some f)
  ∧ ∀ (raw : List Byte) (f : Frame), parseFrame raw = some f →
      ∃ extra : List Byte, raw = f.bytes ++ extra ∧ f.payload.length ≤ 240

/-- R161, R162, R163, R166, R172, R175: a well-formed frame command of the table means what the arrival of its bytes at Ring In
means. That a typed row stands for the bytes it spells is read from the table by inference (notes/assumptions/8). -/
def Obligations.FrameCommandsAreTheirBytes : Prop :=
  ∀ (c : Instr) (raw : List Byte) (s : State), c.WellFormed = true → c.wireBytes = some raw →
    exec c s = exec (.ringInFrame raw) s

/-- R163: a record written to a table reads back as it was written. -/
def Obligations.RecordsReadAsWritten : Prop :=
  (∀ r e, readBand r = some e → e.bytes = r) ∧ (∀ r e, readLinkCfg r = some e → e.bytes = r)
  ∧ (∀ r e, readWindow r = some e → e.bytes = r) ∧ (∀ r e, readPalette r = some e → e.bytes = r)
  ∧ (∀ r e, readCondition r = some e → e.bytes = r) ∧ (∀ r e, readTalkSource r = some e → e.bytes = r)
  ∧ (∀ r e, r.length = 64 → readXpoints r = some e → xpointBytes e = r)
  ∧ (∀ r e, readSettings r = some e → e.bytes = r)
  ∧ (∀ r l, readMapRecord r = some l → l.map finOrNoneByte = r)
  ∧ (∀ r e (t : Tbm) d, readDest r = some e → rd t.dests d = e → (t.destBytes d).take 6 = r)
  ∧ ∀ r c (t : Slot), r.length = 27 → (at0 r 2).toNat < 8 → readSlotCfg r = some c → t.cfg = c →
      t.bytes = r ++ [t.state.code]

/-! ## Arrivals and the Ring Out arbiter -/

/-- R166: what becomes of bytes that arrive in NORMAL mode with the bypass entry mark clear, row by row. -/
def Obligations.ArrivalTable : Prop :=
  ∀ (raw : List Byte) (s : State), s.working = true →
    (parseFrame raw = none → exec (.ringInFrame raw) s =
        .next { s with ringOut := .forwarded raw, rif := { s.rif with errors := min 65535 (s.rif.errors + 1) } })
    ∧ ∀ f : Frame, parseFrame raw = some f →
        (f.src = s.rif.node → exec (.ringInFrame raw) s = .next { s with ringOut := .slot })
        ∧ (f.src ≠ s.rif.node →
            (f.dst = s.rif.node → f.kind ∈ [Kind.cmd, Kind.voice, Kind.meter, Kind.tuned] →
              exec (.ringInFrame raw) s = .next (deliver f { s with ringOut := .slot }))
            ∧ (f.kind ∈ [Kind.tally, Kind.cycle] →
              exec (.ringInFrame raw) s = .next (deliver f { s with ringOut := .forwarded raw }))
            ∧ (f.kind = Kind.fill → exec (.ringInFrame raw) s = .next { s with ringOut := .slot })
            ∧ ((f.dst = s.rif.node → f.kind ∉ [Kind.cmd, Kind.voice, Kind.meter, Kind.tuned]) →
              f.kind ∉ [Kind.tally, Kind.cycle, Kind.fill] →
              exec (.ringInFrame raw) s = .next { s with ringOut := .forwarded raw }))

/-- R172, R173: what becomes of bytes that arrive in BYPASS, or while the bypass entry mark is set. That a FILL frame leaves a
FILL slot only where the part has a frame to send in it is the model's choice (notes/assumptions/10), and that a CMD payload of
the request code alone is consumed as well is its reading (notes/assumptions/34). -/
def Obligations.BypassArrivalTable : Prop :=
  ∀ (raw : List Byte) (s : State), s.onRing = true → (s.rif.mode = .bypass ∨ s.rif.entry ≠ none) →
    (parseFrame raw = none → exec (.ringInFrame raw) s =
        .next { s with ringOut := .forwarded raw, rif := { s.rif with errors := min 65535 (s.rif.errors + 1) } })
    ∧ ∀ f : Frame, parseFrame raw = some f →
        (f.dst = s.rif.node → f.kind = Kind.cmd →
            (∃ c ∈ [Req.status, Req.identify, Req.resume], f.payload.head? = some c) →
            exec (.ringInFrame raw) s = .next (deliver f { s with ringOut := .slot }))
        ∧ (f.dst = s.rif.node → f.kind = Kind.meter → f.payload.head? = some 0 →
            exec (.ringInFrame raw) s = .next (deliver f { s with ringOut := .forwarded raw }))
        ∧ (f.kind = Kind.tally → exec (.ringInFrame raw) s = .next (deliver f { s with ringOut := .forwarded raw }))
        ∧ (f.kind = Kind.fill → exec (.ringInFrame raw) s =
            .next { s with ringOut := if s.rif.entry ≠ none ∨ s.rif.ctlQ ≠ [] then .slot else .forwarded raw })
        ∧ (¬(f.dst = s.rif.node ∧ f.kind = Kind.cmd
              ∧ ∃ c ∈ [Req.status, Req.identify, Req.resume], f.payload.head? = some c) →
            ¬(f.dst = s.rif.node ∧ f.kind = Kind.meter ∧ f.payload.head? = some 0) →
            f.kind ∉ [Kind.tally, Kind.fill] →
            exec (.ringInFrame raw) s = .next { s with ringOut := .forwarded raw })

/-- R167, R168, R170: what a FILL slot carries, the voice turn before the control turn, and a FILL frame when both queues are
empty; the departure of a Control Queue frame is a queue-space event, and the freed place stands until QUEUE_SPACE_EVENT gives it to
a producer. That the two are steps of their own is read from spec/95 by inference, and that an event still owed is served before the
next control turn is the model's choice (notes/assumptions/7). -/
def Obligations.ArbiterTurn : Prop :=
  ∀ s : State, s.onRing = true → s.rif.entry = none →
    (∀ (d : DestId) (f : Frame), firstFrom s.rif.voicePtr d (fun x => (rd s.rif.voiceQ x).isSome) →
      rd s.rif.voiceQ d = some f →
      exec .fillSlot s = .next { s with
        ringOut := .sent { f with src := s.rif.node }.bytes
        rif := { s.rif with voiceQ := wr s.rif.voiceQ d none, voicePtr := d + 1 } })
    ∧ ((∀ d, rd s.rif.voiceQ d = none) → ∀ u : State,
      u = (if s.rif.spaceOwed then queueSpace { s with rif := { s.rif with spaceOwed := false } } else s) →
      (∀ (a b : List Queued) (q : Queued), u.rif.ctlQ = a ++ q :: b → (∀ x ∈ a ++ b, q.cls.rank ≤ x.cls.rank) →
        (∀ x ∈ a, x.cls ≠ q.cls) →
        exec .fillSlot s = .next { u with
          ringOut := .sent { q.frame with src := s.rif.node }.bytes
          rif := { u.rif with ctlQ := a ++ b, spaceOwed := true } })
      ∧ (u.rif.ctlQ = [] →
        exec .fillSlot s = .next { u with ringOut := .sent ([0, 0, 0, 0] ++ halfBytes (crc16 [0, 0, 0, 0])) }))

/-- R168: every destination with a MIX frame waiting is served within 32 FILL slots, and no control frame goes before it. -/
def Obligations.VoiceServedWithin32 : Prop :=
  ∀ (s : State) (d : DestId) (f : Frame), s.onRing = true → s.rif.entry = none → rd s.rif.voiceQ d = some f →
    ∃ n < 32, (fillTurns n s).rif.ctlQ = s.rif.ctlQ ∧
      ∃ t : State, exec .fillSlot (fillTurns n s) = .next t ∧ t.ringOut = .sent { f with src := s.rif.node }.bytes
        ∧ rd t.rif.voiceQ d = none

/-- R169, R171, R176, R187: admission to the Control Queue by its fill, for a TUNE, LAMP, PROBE or RSP frame, for a NOTE and for
a CELL report; what a producer's RSP or NOTE comes to. That an RSP beyond the six of the MGR's output hold is lost is the model's
choice (notes/assumptions/37). -/
def Obligations.ControlQueueAdmission : Prop :=
  (∀ (r : Rif) (q : Queued) (f : Frame), r.ctlQ.length < 24 →
    r.admitted q = some { r with ctlQ := r.ctlQ ++ [q] }
    ∧ r.admitNote f = { r with ctlQ := r.ctlQ ++ [{ cls := .note, frame := f }] }
    ∧ r.admitCell f = some { r with ctlQ := r.ctlQ ++ [{ cls := .note, frame := f }] })
  ∧ (∀ (r : Rif) (q : Queued) (f : Frame), 24 ≤ r.ctlQ.length →
    r.admitNote f = { r with notesLost := true } ∧ r.admitCell f = none
    ∧ (∀ (a b : List Queued) (n : Queued), r.ctlQ = a ++ n :: b → n.cls = .note → (∀ x ∈ b, x.cls ≠ .note) →
        r.admitted q = some { r with ctlQ := a ++ b ++ [q], notesLost := true })
    ∧ ((∀ x ∈ r.ctlQ, x.cls ≠ .note) → r.admitted q = none))
  ∧ (∀ (s : State) (f : Frame) (r : Rif), s.rif.admitted { cls := .rsp, frame := f } = some r → offerRsp f s = { s with rif := r })
  ∧ (∀ (s : State) (f : Frame), s.rif.admitted { cls := .rsp, frame := f } = none →
      (s.mgr.hold.length < 6 → offerRsp f s = { s with mgr := { s.mgr with hold := s.mgr.hold ++ [f] } })
      ∧ (6 ≤ s.mgr.hold.length → offerRsp f s = s))
  ∧ (∀ (s : State) (kind : NoteKind) (fields : List Byte), s.mgr.settings.reportNode ≠ 0 → s.rif.mode = .normal →
      note kind fields s = { s with rif := s.rif.admitNote { kind := Kind.note, dst := s.mgr.settings.reportNode,
                                                             src := s.rif.node, payload := kind.code :: fields } })
  ∧ ∀ (s : State) (kind : NoteKind) (fields : List Byte), s.mgr.settings.reportNode = 0 ∨ s.rif.mode = .bypass →
      note kind fields s = s

/-- R74, R170: which waiting producer takes the place that a departure has freed; one frame is admitted at each event, so that the
sweep which an admitted CELL report sets going keeps its next PROBE frame in the output hold. Where frames offered first have filled
the queue again, every producer waits for the next event. That QUEUE_SPACE_EVENT changes nothing when no departure's event is owed is
the model's choice (notes/assumptions/7). -/
def Obligations.QueueSpaceServesInOrder : Prop :=
  (∀ s : State, s.live = true →
    (s.rif.spaceOwed = true → exec .queueSpaceEvent s = .next (queueSpace { s with
      ringOut := .quiet, rif := { s.rif with spaceOwed := false } }))
    ∧ (s.rif.spaceOwed = false → exec .queueSpaceEvent s = .next s.quieted))
  ∧ ∀ s : State,
    (24 ≤ s.rif.ctlQ.length → queueSpace s = s)
    ∧ (s.rif.ctlQ.length < 24 →
      (∀ h rest, s.rte.hold = h :: rest → queueSpace s = { s with
          rif := { s.rif with ctlQ := s.rif.ctlQ ++ [{ cls := .tune, frame := h.frame }] }
          rte := { s.rte with
            hold := rest
            tuneTimer := if h.awaited = true ∧ s.rte.active ≠ none ∧ ∀ x ∈ rest, x.awaited = false then
                some s.mgr.settings.tuneTimeout else s.rte.tuneTimer } })
      ∧ (s.rte.hold = [] →
        (∀ k, s.rif.mode = .normal → firstFrom s.lmp.next k s.lmp.due → queueSpace s = { s with
            rif := { s.rif with ctlQ := s.rif.ctlQ ++ [{ cls := .lamp, frame := (s.buildLamp k).1 }] }
            lmp := (s.buildLamp k).2 })
        ∧ (s.rif.mode = .bypass ∨ (∀ k, s.lmp.due k = false) →
          (∀ p, s.swp.probeHold = some p → queueSpace s = { s with
              rif := { s.rif with ctlQ := s.rif.ctlQ ++ [{ cls := .probe, frame := p.frame }] }
              swp := { s.swp with probe := some p.probe, probeTimer := some (s.swp.cfg.dwell + 20), probeHold := none } })
          ∧ (s.swp.probeHold = none →
            (∀ f rest, s.mgr.hold = f :: rest → queueSpace s = { s with
                rif := { s.rif with ctlQ := s.rif.ctlQ ++ [{ cls := .rsp, frame := f }] }
                mgr := { s.mgr with hold := rest } })
            ∧ (s.mgr.hold = [] →
              (∀ f, s.swp.reportHold = some f → ∀ u : State, u = { s with
                  rif := { s.rif with ctlQ := s.rif.ctlQ ++ [{ cls := .note, frame := f }] }
                  swp := { s.swp with reportHold := none, cursor := s.swp.cursor + 1 } } →
                (∀ j pos, u.nextIs j pos →
                  (s.swp.cfg.mode = .step → queueSpace s = { u with swp := { u.swp with state := .waiting } })
                  ∧ (s.swp.cfg.mode ≠ .step → queueSpace s = u.probeKeptAt j pos))
                ∧ ∀ v : State, u.passOver → u.takesNext v true → queueSpace s = v)
              ∧ (s.swp.reportHold = none → queueSpace s = s))))))

/-! ## BYPASS, RESUME, RESTART -/

/-- R54, R76, R77, R116, R142, R158, R164, R173, R185: BYPASS sets the bypass entry mark and owes its RSP; RSPs to requests
taken while the mark is set are kept apart; the first FILL slot after the mark is the entry to BYPASS. With a RESUME recorded the
part returns to NORMAL at once, the BYPASSED answers standing before the RSP to that RESUME. The model's readings: BYPASS_ENTRY does
what the FILL slot does (notes/assumptions/12), a CELL report lost from the SWP's hold sets NOTES_LOST (15), the held mark of a
destination stays (22), the kept RSPs stand in the order of their CMDs (31). -/
def Obligations.BypassRequestAndEntry : Prop :=
  (∀ (h : CmdHead) (s : State), s.takes h Req.bypass [] = true →
    exec (.bypass h []) s = .next { s with
      ringOut := .slot
      rif := { s.rif with entry := some { rsp := s.rspTo h Req.bypass .ok [], kept := [] } } })
  ∧ (∀ (h : CmdHead) (params : List Byte) (s : State), s.takes h Req.bypass params = true → params ≠ [] →
    exec (.bypass h params) s = .next (reply h Req.bypass .range [] s.handed))
  ∧ (∀ (h : CmdHead) (e : EntryMark) (s : State), s.rif.entry = some e →
    (s.takesMarked h Req.resume [] = true → exec (.resume h []) s = .next { s with
      ringOut := .slot
      rif := { s.rif with
        entry := some { e with kept := e.kept ++ [{ frame := s.rspTo h Req.resume .ok [], resume := true }] } } })
    ∧ (s.takesMarked h Req.identify [] = true → exec (.identify h []) s = .next { s with
      ringOut := .slot
      rif := { s.rif with
        entry := some { e with kept := e.kept ++ [{
          frame := s.rspTo h Req.identify .ok [0x2C, 0x19, 0x10, 1, s.rif.node], resume := false }] } } })
    ∧ (s.takesMarked h Req.status [] = true → s.rif.mode = .normal → ∃ reading : List Byte,
      reading.length = 20 ∧ reading.head? = some 1 ∧ reading.drop 1 = s.statusBytes.drop 1
      ∧ exec (.status h []) s = .next { s with
        ringOut := .slot
        freeCtr := s.freeCtr + 1
        rif := { s.rif with
          notesLost := false
          entry := some { e with kept := e.kept ++ [{ frame := s.rspTo h Req.status .ok reading, resume := false }] } } }))
  ∧ (∀ (e : EntryMark) (pre post : List KeptRsp) (x : KeptRsp) (s : State), s.onRing = true → s.rif.entry = some e →
    e.kept = pre ++ x :: post → (∀ y ∈ pre, y.resume = false) → x.resume = true →
    s.cpl.answers.length + s.cpl.cutShort.length + e.kept.length ≤ 21 →
    exec .bypassEntry s = exec .fillSlot s ∧ ∃ t : State, exec .fillSlot s = .next t
      ∧ t.ringOut = .sent e.rsp.bytes ∧ t.rif.mode = .normal ∧ t.rif.entry = none ∧ t.rif.node = s.rif.node
      ∧ t.rif.errors = s.rif.errors ∧ t.rif.voiceQ = Vector.replicate 32 none
      ∧ (s.rif.notesLost = true → t.rif.notesLost = true)
      ∧ t.rif.ctlQ.filter (·.cls = .rsp) =
          pre.map (fun y => { cls := .rsp, frame := y.frame })
            ++ (s.cpl.answers ++ s.cpl.cutShort).map (fun a => { cls := .rsp, frame :=
                { kind := Kind.rsp, dst := a.asker.src, src := s.rif.node,
                  payload := [a.kind.request, a.asker.id, RspStatus.bypassed.code] } })
            ++ { cls := .rsp, frame := x.frame } :: post.map (fun y => { cls := .rsp, frame := y.frame })
      ∧ t.mgr = { s.mgr with hold := [] } ∧ t.cpl.answers = []
      ∧ (∀ k, s.eligible k = true → rd t.lmp.pending k = true)
      ∧ t.lmp.refresh = some (1000 * s.mgr.settings.lampRefresh)
      ∧ (∀ k, (s.link k).carrier.state = .uncertain
            ∨ ((s.rte.active.any fun o => o.link = k) = true
              ∧ ((s.link k).carrier.phase = .tuning ∨ (s.link k).carrier.phase = .reverting)) →
          t.want k ≠ none ∨ t.rte.holds k = true)
      ∧ t.swp.state = .idle ∧ t.tly = s.tly ∧ t.plan.bands = s.plan.bands ∧ t.plan.windows = s.plan.windows
      ∧ t.tbm = { s.tbm with buffers := Vector.replicate 16 .silent, call := Vector.replicate 32 false,
                             ducked := Vector.replicate 32 false }
      ∧ t.pins = s.pins ∧ t.pending = s.pending)
  ∧ ∀ (e : EntryMark) (s : State), s.onRing = true → s.rif.entry = some e →
    (∀ x ∈ e.kept, x.resume = false) → e.kept.length ≤ 24 →
    exec .bypassEntry s = exec .fillSlot s ∧ ∃ t : State, exec .fillSlot s = .next t
      ∧ t.ringOut = .sent e.rsp.bytes
      ∧ t.rif = { s.rif with
          mode := .bypass, entry := none, voiceQ := Vector.replicate 32 none
          ctlQ := e.kept.map fun x => { cls := .rsp, frame := x.frame }
          notesLost := s.rif.notesLost || s.rif.ctlQ.any (·.cls = .note) || s.swp.reportHold.isSome
          spaceOwed := false }
      ∧ t.mgr = { s.mgr with hold := [] }
      ∧ t.rte = { s.rte with active := none, staged := none, deferred := [], tuneTimer := none, hold := [], owed := false }
      ∧ t.cpl.active = none ∧ t.cpl.rtePlace = none ∧ t.cpl.mgrPlace = none ∧ t.cpl.log = s.cpl.log
      ∧ t.cpl.answers = s.cpl.answers ++ s.cpl.cutShort
      ∧ (∀ b, rd t.cpl.flags b = true ↔ rd s.cpl.flags b = true
          ∨ ∃ op, s.cpl.active = some op ∧ op.kind = .refill ∧ op.band = b.val)
      ∧ t.swp.state = .idle ∧ t.swp.probe = none ∧ t.swp.probeTimer = none ∧ t.swp.probeHold = none
      ∧ t.swp.reportHold = none ∧ t.swp.cfg = s.swp.cfg ∧ t.swp.probeTag = s.swp.probeTag ∧ t.swp.interval = s.swp.interval
      ∧ (∀ k, (t.link k).carrier.phase = .idle ∧ (t.link k).carrier.channel = (s.link k).carrier.channel
          ∧ (t.link k).carrier.forced = (s.link k).carrier.forced ∧ (t.link k).cfg = (s.link k).cfg
          ∧ (t.link k).health = (s.link k).health ∧ (t.link k).tally = (s.link k).tally
          ∧ (t.link k).carrier.state =
              if (s.rte.active.any fun o => o.link = k)
                  && ((s.link k).carrier.phase = .tuning || (s.link k).carrier.phase = .reverting)
              then .uncertain else (s.link k).carrier.state)
      ∧ t.plan.gen = (if s.rte.active.any fun o =>
              (s.link o.link).carrier.phase = .tuning || (s.link o.link).carrier.phase = .reverting
            then s.plan.gen + 1 else s.plan.gen)
      ∧ t.plan.bands = s.plan.bands ∧ t.plan.windows = s.plan.windows ∧ t.lmn = s.lmn ∧ t.tly = s.tly
      ∧ t.tbm = { s.tbm with buffers := Vector.replicate 16 .silent, call := Vector.replicate 32 false,
                             ducked := Vector.replicate 32 false }
      ∧ t.lmp.refresh = none ∧ t.lmp.debts = s.lmp.debts ∧ t.lmp.palette = s.lmp.palette ∧ t.lmp.test = s.lmp.test
      ∧ (∀ k, rd s.lmp.pending k = true → rd t.lmp.pending k = true)
      ∧ t.pins = s.pins ∧ t.pending = s.pending

/-- R55, R56, R94, R116, R142, R174, R185: RESUME in NORMAL mode changes nothing; RESUME in BYPASS returns the part to NORMAL,
every UNCERTAIN carrier is to be verified, every eligible lamp is pending; with no such carrier and no work for the planner or
the RTE, the RSPs held for abandoned requests go before the RSP to the RESUME and nothing else changes. -/
def Obligations.ResumeReturnsToNormal : Prop :=
  (∀ (h : CmdHead) (s : State), s.takes h Req.resume [] = true →
    exec (.resume h []) s = .next (reply h Req.resume .ok [] s.handed))
  ∧ ∀ (h : CmdHead) (s : State), s.takesInBypass h Req.resume [] = true →
    (∃ t : State, exec (.resume h []) s = .next t ∧ t.ringOut = .slot
      ∧ t.rif.mode = .normal ∧ t.rif.node = s.rif.node ∧ t.rif.errors = s.rif.errors ∧ t.rif.voicePtr = s.rif.voicePtr
      ∧ t.cpl.answers = [] ∧ (∀ k, s.eligible k = true → rd t.lmp.pending k = true)
      ∧ t.lmp.refresh = some (1000 * s.mgr.settings.lampRefresh)
      ∧ (∀ k, (s.link k).carrier.state = .uncertain → t.want k ≠ none ∨ t.rte.holds k = true)
      ∧ t.tly = s.tly ∧ t.tbm = s.tbm ∧ t.mgr.settings = s.mgr.settings ∧ t.mgr.locked = s.mgr.locked
      ∧ t.mgr.key = s.mgr.key ∧ t.pins = s.pins)
    ∧ ((∀ k, (s.link k).carrier.state ≠ .uncertain ∧ s.want k = none) → s.rte.staged = none → s.rte.deferred = [] →
      (∀ b, rd s.cpl.flags b = false) → s.cpl.active = none → s.cpl.rtePlace = none → s.cpl.mgrPlace = none →
      s.rif.ctlQ.length + s.cpl.answers.length < 24 →
      exec (.resume h []) s = .next { s with
        ringOut := .slot
        rif := { s.rif with
          mode := .normal
          ctlQ := s.rif.ctlQ
            ++ s.cpl.answers.map (fun a => { cls := .rsp, frame :=
                { kind := Kind.rsp, dst := a.asker.src, src := s.rif.node,
                  payload := [a.kind.request, a.asker.id, RspStatus.bypassed.code] } })
            ++ [{ cls := .rsp, frame := s.rspTo h Req.resume .ok [] }] }
        cpl := { s.cpl with answers := [] }
        lmp := { s.lmp with pending := tab fun k => rd s.lmp.pending k || s.eligible k
                            refresh := some (1000 * s.mgr.settings.lampRefresh) } })

/-- R57, R62, R63, R95, R116, R131, R142, R159, R164, R174, R186: what a warm restart keeps and what it resets, block by block in
the state `u` that it leaves before the RTE's fills, and its RSP frames in order. That the held mark of a destination stays is the
model's reading (notes/assumptions/22), and that the blocks' changes and the RTE's fills come before the RSPs is its choice
(notes/assumptions/13). -/
def Obligations.RestartIsWarm : Prop :=
  ∀ (h : CmdHead) (s : State), s.takes h Req.restart [] = true → s.mgr.locked = false →
    ∃ u t : State, exec (.restart h []) s = .next t
      ∧ t = reply h Req.restart .ok [] (sendBypassed s.cpl.cutShort (rteSettle u))
      ∧ u.rte = { s.rte with active := none, staged := none, deferred := [], tuneTimer := none, hold := [], owed := false }
      ∧ (∀ k, (u.link k).carrier = { (s.link k).carrier with
          phase := .idle
          state := if (s.rte.active.any fun o => o.link = k)
                && ((s.link k).carrier.phase = .tuning || (s.link k).carrier.phase = .reverting)
              then .uncertain else (s.link k).carrier.state })
      ∧ u.plan.gen = (if s.rte.active.any fun o =>
              (s.link o.link).carrier.phase = .tuning || (s.link o.link).carrier.phase = .reverting
            then s.plan.gen + 1 else s.plan.gen)
      ∧ (∀ k, u.want k = if (u.link k).carrier.state = .uncertain then some .verify else none)
      ∧ u.swp = { Swp.cold with
          cells := u.swp.cells
          interval := if s.mgr.settings.sweepInterval = 0 then none else some (1000 * s.mgr.settings.sweepInterval) }
      ∧ (∀ b j, (rd (rd u.swp.cells b) j).state = .own ↔ j.val < (s.band b).cellCount
          ∧ ∃ c, (s.band b).cellSpan j.val = some c ∧ ∃ y ∈ bandCarriers u.plan u.rte b, c.overlaps y = true)
      ∧ u.rif.ctlQ = [] ∧ u.mgr.hold = [] ∧ u.lmp.pending = tab (fun k => rd u.lmp.pending k || s.eligible k)
      ∧ t.rif.node = s.rif.node ∧ t.rif.errors = s.rif.errors ∧ t.rif.mode = .normal ∧ t.rif.entry = none
      ∧ t.rif.voicePtr = 0 ∧ t.rif.voiceQ = Vector.replicate 32 none ∧ (s.rif.notesLost = true → t.rif.notesLost = true)
      ∧ t.rif.ctlQ.filter (·.cls = .rsp) =
          s.cpl.cutShort.map (fun a => { cls := .rsp, frame :=
                { kind := Kind.rsp, dst := a.asker.src, src := s.rif.node,
                  payload := [a.kind.request, a.asker.id, RspStatus.bypassed.code] } })
            ++ [{ cls := .rsp, frame := s.rspTo h Req.restart .ok [] }]
      ∧ t.mgr = { s.mgr with hold := [] }
      ∧ t.plan.bands = s.plan.bands ∧ t.plan.windows = s.plan.windows
      ∧ (∀ k, (t.link k).cfg = (s.link k).cfg ∧ (t.link k).tally = .empty
          ∧ (t.link k).carrier.channel = (s.link k).carrier.channel ∧ (t.link k).carrier.forced = (s.link k).carrier.forced
          ∧ (t.link k).health = { LinkHealth.cold with
              silence := if (t.link k).carrier.state = .committed then some s.mgr.settings.meterSilence else none }
          ∧ ((s.link k).carrier.state = .uncertain → t.want k ≠ none ∨ t.rte.holds k = true))
      ∧ t.cpl.active = none ∧ t.cpl.rtePlace = none ∧ t.cpl.mgrPlace = none ∧ t.cpl.answers = [] ∧ t.cpl.log = .empty
      ∧ (∀ b, rd t.cpl.flags b = false ∧ rd t.cpl.spares b = [])
      ∧ t.swp.cfg = .zero ∧ t.swp.state = .idle ∧ t.swp.probe = none ∧ t.swp.probeTag = 0
      ∧ t.swp.interval = (if s.mgr.settings.sweepInterval = 0 then none else some (1000 * s.mgr.settings.sweepInterval))
      ∧ (∀ b j, (rd (rd t.swp.cells b) j).last = none ∧ (rd (rd t.swp.cells b) j).peak = none
          ∧ (rd (rd t.swp.cells b) j).age = 0
          ∧ ((rd (rd t.swp.cells b) j).state = .unmeasured ∨ (rd (rd t.swp.cells b) j).state = .own))
      ∧ (∀ i, (t.slot i).cfg = (s.slot i).cfg ∧ (t.slot i).map = (s.slot i).map ∧ (t.slot i).state = .offline
          ∧ (t.slot i).contrib = emptyContribution ∧ (t.slot i).silence = none ∧ (t.slot i).hold = none)
      ∧ t.tbm = { s.tbm with buffers := Vector.replicate 16 .silent, call := Vector.replicate 32 false,
                             ducked := Vector.replicate 32 false }
      ∧ t.lmp.palette = s.lmp.palette ∧ t.lmp.conditions = s.lmp.conditions ∧ t.lmp.debts = s.lmp.debts
      ∧ t.lmp.test = false ∧ t.lmp.next = 0 ∧ t.lmp.refresh = some (1000 * s.mgr.settings.lampRefresh)
      ∧ (∀ k, s.eligible k = true → rd t.lmp.pending k = true) ∧ t.pins = s.pins

/-! ## Management requests -/

/-- R175, R178, R180: IDENTIFY in both modes; a request code that is none of the part's; a parameter list of a length the request
does not carry, a WRITE without a table id and an index, and a WRITE to a table that is unknown or not writable, each of which changes
nothing. -/
def Obligations.IdentifyAndRefusedRequests : Prop :=
  (∀ (h : CmdHead) (s : State), s.takes h Req.identify [] = true ∨ s.takesInBypass h Req.identify [] = true →
    exec (.identify h []) s = .next (reply h Req.identify .ok [0x2C, 0x19, 0x10, 1, s.rif.node] s.handed))
  ∧ (∀ (h : CmdHead) (code : Byte) (params : List Byte) (s : State), knownCode code = false → s.takes h code params = true →
      exec (.unknownRequest h code params) s = .next (reply h code .unknownRequest [] s.handed))
  ∧ (∀ (h : CmdHead) (params : List Byte) (s : State), s.takes h Req.write params = true →
    (params.length < 3 → exec (.ringInFrame (h.wire Req.write params)) s = .next (reply h Req.write .range [] s.handed))
    ∧ ∀ (table i1 i0 : Byte) (record : List Byte), params = table :: i1 :: i0 :: record →
      table ∉ [Table.band, Table.link, Table.window, Table.switcher, Table.sourcemap, Table.palette, Table.condition,
        Table.talksrc, Table.dest, Table.xpoint, Table.settings] →
      exec (.ringInFrame (h.wire Req.write params)) s = .next (reply h Req.write .noSuch [] s.handed))
  ∧ ∀ (h : CmdHead) (params : List Byte) (s : State),
    (params.length ≠ 0 →
      (s.takes h Req.identify params = true → exec (.identify h params) s = .next (reply h Req.identify .range [] s.handed))
      ∧ (s.takes h Req.status params = true → exec (.status h params) s = .next (reply h Req.status .range [] s.handed))
      ∧ (s.takes h Req.signature params = true →
          exec (.signature h params) s = .next (reply h Req.signature .range [] s.handed))
      ∧ (s.takes h Req.readLog params = true → exec (.readLog h params) s = .next (reply h Req.readLog .range [] s.handed))
      ∧ (s.takes h Req.sweepStop params = true →
          exec (.sweepStop h params) s = .next (reply h Req.sweepStop .range [] s.handed))
      ∧ (s.takes h Req.resume params = true → exec (.resume h params) s = .next (reply h Req.resume .range [] s.handed))
      ∧ (s.takes h Req.restart params = true → exec (.restart h params) s = .next (reply h Req.restart .range [] s.handed)))
    ∧ (params.length ≠ 1 →
      (s.takes h Req.audit params = true → exec (.audit h params) s = .next (reply h Req.audit .range [] s.handed))
      ∧ (s.takes h Req.refill params = true → exec (.refill h params) s = .next (reply h Req.refill .range [] s.handed))
      ∧ (s.takes h Req.cancelMove params = true →
          exec (.cancelMove h params) s = .next (reply h Req.cancelMove .range [] s.handed))
      ∧ (s.takes h Req.lampTest params = true →
          exec (.lampTest h params) s = .next (reply h Req.lampTest .range [] s.handed)))
    ∧ (params.length ≠ 2 → s.takes h Req.releaseLink params = true →
        exec (.releaseLink h params) s = .next (reply h Req.releaseLink .range [] s.handed))
    ∧ (params.length ≠ 4 →
      (s.takes h Req.read params = true → exec (.read h params) s = .next (reply h Req.read .range [] s.handed))
      ∧ (s.takes h Req.moveLink params = true →
          exec (.moveLink h params) s = .next (reply h Req.moveLink .range [] s.handed)))
    ∧ (params.length ≠ 6 → s.takes h Req.check params = true →
        exec (.check h params) s = .next (reply h Req.check .range [] s.handed))
    ∧ (params.length ≠ 8 →
      (s.takes h Req.showLock params = true → exec (.showLock h params) s = .next (reply h Req.showLock .range [] s.handed))
      ∧ (s.takes h Req.showUnlock params = true →
          exec (.showUnlock h params) s = .next (reply h Req.showUnlock .range [] s.handed))
      ∧ (params.length ≠ 0 → s.takes h Req.sweepGo params = true →
          exec (.sweepGo h params) s = .next (reply h Req.sweepGo .range [] s.handed)))

/-- R163, R178: a STATUS reading, field by field, and the clearing of NOTES_LOST at its taking. With no Active order its phase
byte is a free value (notes/assumptions/16). -/
def Obligations.StatusReading : Prop :=
  ∀ (h : CmdHead) (s : State), s.takes h Req.status [] = true ∨ s.takesInBypass h Req.status [] = true →
    ∃ (phase : Byte) (t : State), (∀ o, s.rte.active = some o → phase = (s.link o.link).carrier.phase.code)
      ∧ t = { s with ringOut := .slot, rif := { s.rif with notesLost := false }, freeCtr := t.freeCtr }
      ∧ exec (.status h []) s = .next (reply h Req.status .ok
          (([if s.rif.mode = .normal then 0 else 2, if s.mgr.locked then 1 else 0] : List Byte) ++ halfBytes s.plan.gen
            ++ (match s.cpl.active with | some op => [1, op.kind.code, op.origin.code] | none => [0, 0xFF, 0xFF])
            ++ [byte ((if s.cpl.rtePlace.isSome then 1 else 0) + (if s.cpl.mgrPlace.isSome then 2 else 0)),
                byte ((if rd s.cpl.flags 0 then 1 else 0) + (if rd s.cpl.flags 1 then 2 else 0)
                  + (if rd s.cpl.flags 2 then 4 else 0) + (if rd s.cpl.flags 3 then 8 else 0)),
                (match s.rte.active with | some o => byte o.link.val | none => 0xFF), phase,
                (match s.rte.staged with | some o => byte o.link.val | none => 0xFF), byte s.rte.deferred.length,
                s.swp.state.code, byte s.swp.cfg.band.val]
            ++ (match s.currentCell with | some j => n16 j | none => [0xFF, 0xFF])
            ++ [if s.rif.notesLost then 1 else 0] ++ n16 s.rif.errors) t)

/-- R37, R163, R179, R182: READ refuses an entry that is not present and a count of 0; otherwise it returns entries at ascending
index from the first, stopping at the count, at the last present entry (of its band, for CELLS), or before the entry that would
not fit. READ_LOG returns the header, the counts and every record held. Neither changes a record. -/
def Obligations.ReadAndReadLog : Prop :=
  (∀ (h : CmdHead) (table i1 i0 n : Byte) (s : State), s.takes h Req.read [table, i1, i0, n] = true →
    (s.entry table (u16 i1 i0) = none →
      exec (.read h [table, i1, i0, n]) s = .next (reply h Req.read .noSuch [] s.handed))
    ∧ (s.entry table (u16 i1 i0) ≠ none →
      (n = 0 → exec (.read h [table, i1, i0, n]) s = .next (reply h Req.read .range [] s.handed))
      ∧ (n ≠ 0 → ∃ (es : List (List Byte)) (t : State), es.length ≤ n.toNat ∧ es.flatten.length ≤ 233
        ∧ (∀ j < es.length, es[j]? = s.entry table (u16 i1 i0 + j)
            ∧ (table = Table.cells → (u16 i1 i0 + j) / 256 = u16 i1 i0 / 256))
        ∧ (es.length = n.toNat ∨ s.entry table (u16 i1 i0 + es.length) = none
            ∨ (table = Table.cells ∧ (u16 i1 i0 + es.length) / 256 ≠ u16 i1 i0 / 256)
            ∨ ∃ e, s.entry table (u16 i1 i0 + es.length) = some e ∧ 233 < es.flatten.length + e.length)
        ∧ t = { s with ringOut := .slot, freeCtr := t.freeCtr }
        ∧ exec (.read h [table, i1, i0, n]) s =
            .next (reply h Req.read .ok ([table, i1, i0, byte es.length] ++ es.flatten) t))))
  ∧ ∀ (h : CmdHead) (s : State), s.takes h Req.readLog [] = true →
    (∀ e, s.cpl.log.header = some e → exec (.readLog h []) s = .next (reply h Req.readLog .ok
      ([e.operation.code, e.requester.code, (match e.link with | some k => byte k | none => 0xFF), byte e.band]
        ++ natOrNone e.channel ++ natOrNone e.width ++ [e.mode.code] ++ halfBytes e.gen ++ [verdictCode s.cpl.log.verdict]
        ++ n16 s.cpl.log.total ++ [byte s.cpl.log.overflow, byte s.cpl.log.records.length]
        ++ s.cpl.log.records.flatMap Conflict.bytes) s.handed))
    ∧ (s.cpl.log = .empty → exec (.readLog h []) s = .next (reply h Req.readLog .ok
      (List.replicate 11 0xFF ++ [0, 0, 0, 0, 0]) s.handed))

/-- R184: SHOW_LOCK and SHOW_UNLOCK, released and engaged; the nine requests that an engaged show lock refuses with LOCKED,
given that the tests their rules place before the lock's pass. -/
def Obligations.ShowLock : Prop :=
  (∀ (h : CmdHead) (a b c d e f g i : Byte) (s : State),
    (s.takes h Req.showLock [a, b, c, d, e, f, g, i] = true →
      (s.mgr.locked = false → exec (.showLock h [a, b, c, d, e, f, g, i]) s = .next (reply h Req.showLock .ok [] { s with
        ringOut := .slot
        mgr := { s.mgr with locked := true, key := { w0 := a ++ b, w1 := c ++ d, w2 := e ++ f, w3 := g ++ i } } }))
      ∧ (s.mgr.locked = true →
        exec (.showLock h [a, b, c, d, e, f, g, i]) s = .next (reply h Req.showLock .locked [] s.handed)))
    ∧ (s.takes h Req.showUnlock [a, b, c, d, e, f, g, i] = true →
      (s.mgr.locked = false →
        exec (.showUnlock h [a, b, c, d, e, f, g, i]) s = .next (reply h Req.showUnlock .ok [] s.handed))
      ∧ (s.mgr.locked = true →
        (s.mgr.key = { w0 := a ++ b, w1 := c ++ d, w2 := e ++ f, w3 := g ++ i } →
          exec (.showUnlock h [a, b, c, d, e, f, g, i]) s = .next (reply h Req.showUnlock .ok [] { s with
            ringOut := .slot, mgr := { s.mgr with locked := false } }))
        ∧ (s.mgr.key ≠ { w0 := a ++ b, w1 := c ++ d, w2 := e ++ f, w3 := g ++ i } →
          exec (.showUnlock h [a, b, c, d, e, f, g, i]) s = .next (reply h Req.showUnlock .keyMismatch [] s.handed)))))
  ∧ ∀ (h : CmdHead) (i : Half) (r : List Byte) (s : State), s.mgr.locked = true →
    (i.toNat < 4 → r.length = 18 → s.takesWrite h Table.band i r = true →
      exec (.writeBand h i r) s = .next (reply h Req.write .locked [] s.handed))
    ∧ (i.toNat < 64 → r.length = 22 → s.takesWrite h Table.link i r = true →
      exec (.writeLink h i r) s = .next (reply h Req.write .locked [] s.handed))
    ∧ (i.toNat < 8 → r.length = 6 → s.takesWrite h Table.window i r = true →
      exec (.writeWindow h i r) s = .next (reply h Req.write .locked [] s.handed))
    ∧ (i.toNat < 4 → r.length = 27 → s.takesWrite h Table.switcher i r = true →
      exec (.writeSwitcher h i r) s = .next (reply h Req.write .locked [] s.handed))
    ∧ (i.toNat < 16 → r.length = 64 → s.takesWrite h Table.sourcemap i r = true →
      exec (.writeSourcemap h i r) s = .next (reply h Req.write .locked [] s.handed))
    ∧ (i.toNat = 0 → r.length = 12 → s.takesWrite h Table.settings i r = true →
      exec (.writeSettings h i r) s = .next (reply h Req.write .locked [] s.handed))
    ∧ (∀ (k : LinkId) (p : List Byte), p.length = 3 → (s.link k).cfg.inUse = true →
      s.takes h Req.moveLink (byte k.val :: p) = true →
      exec (.moveLink h (byte k.val :: p)) s = .next (reply h Req.moveLink .locked [] s.handed))
    ∧ (∀ (k : LinkId) (p : List Byte), p.length = 1 → (s.link k).cfg.inUse = true →
      s.takes h Req.releaseLink (byte k.val :: p) = true →
      exec (.releaseLink h (byte k.val :: p)) s = .next (reply h Req.releaseLink .locked [] s.handed))
    ∧ (s.takes h Req.restart [] = true → exec (.restart h []) s = .next (reply h Req.restart .locked [] s.handed))

/-- R184: the key is returned by no read. In two runs that differ in the stored key alone, READ, STATUS, IDENTIFY and READ_LOG,
in either ring mode, leave states that differ in the stored key alone. -/
def Obligations.ShowLockKeyStaysSecret : Prop :=
  ∀ (h : CmdHead) (params : List Byte) (key : LockKey) (c : Instr) (s t : State),
    c ∈ [Instr.read h params, Instr.status h params, Instr.identify h params, Instr.readLog h params] →
    exec c s = .next t →
    exec c { s with mgr := { s.mgr with key := key } } = .next { t with mgr := { t.mgr with key := key } }

/-! ## Writes -/

/-- R2, R3: WRITE to BAND, its tests in their order, and a taken write: the entry stored, the generation advanced, and the cells
and the Spare List of the band reset where the geometry changes or the band is disabled. -/
def Obligations.BandWrite : Prop :=
  ∀ (h : CmdHead) (i : Half) (r : List Byte) (s : State), s.takesWrite h Table.band i r = true →
    (r.length ≠ 18 → exec (.writeBand h i r) s = .next (reply h Req.write .range [] s.handed))
    ∧ (r.length = 18 → 4 ≤ i.toNat → exec (.writeBand h i r) s = .next (reply h Req.write .noSuch [] s.handed))
    ∧ ∀ b : BandId, r.length = 18 → i.toNat = b.val → s.mgr.locked = false →
      (s.swp.state ≠ .idle ∧ s.swp.cfg.band = b →
        exec (.writeBand h i r) s = .next (reply h Req.write .busy [] s.handed))
      ∧ (s.swp.state = .idle ∨ s.swp.cfg.band ≠ b →
        (readBand r = none → exec (.writeBand h i r) s = .next (reply h Req.write .range [] s.handed))
        ∧ ∀ e : BandEntry, readBand r = some e →
          (16777215 < e.base + (e.count - 1) * e.step ∨ 256 < e.cellCount
              ∨ (∃ w, (rd s.plan.windows w).enabled = true ∧ (rd s.plan.windows w).band = b
                  ∧ e.count < (rd s.plan.windows w).size) →
            exec (.writeBand h i r) s = .next (reply h Req.write .range [] s.handed))
          ∧ (e.base + (e.count - 1) * e.step ≤ 16777215 → e.cellCount ≤ 256 →
              (∀ w, (rd s.plan.windows w).enabled = true → (rd s.plan.windows w).band = b →
                (rd s.plan.windows w).size ≤ e.count) →
            ∀ geometry : Bool, geometry = ((s.band b).base ≠ e.base || (s.band b).step ≠ e.step
                || (s.band b).count ≠ e.count || (s.band b).span ≠ e.span) →
            ((geometry = true ∨ (s.band b).enabled ≠ e.enabled) →
              (∃ k, (s.link k).cfg.band = b ∧ ((s.link k).carrier.state ≠ .none ∨ (s.link k).carrier.phase ≠ .idle)) →
              exec (.writeBand h i r) s = .next (reply h Req.write .inUse [] s.handed))
            ∧ ((geometry = false ∧ (s.band b).enabled = e.enabled)
                ∨ (∀ k, (s.link k).cfg.band = b → (s.link k).carrier.state = .none ∧ (s.link k).carrier.phase = .idle) →
              ∃ u : State, exec (.writeBand h i r) s = .next (reply h Req.write .ok [] u)
                ∧ u = { s with ringOut := .slot, plan := u.plan, swp := u.swp, cpl := u.cpl }
                ∧ u.plan = { s.plan with bands := wr s.plan.bands b e, gen := s.plan.gen + 1 }
                ∧ u.swp = (if geometry then { s.swp with cells := wr s.swp.cells b (Vector.replicate 256 .cold) } else s.swp)
                ∧ (geometry = true ∨ ((s.band b).enabled = true ∧ e.enabled = false) →
                    u.cpl = { s.cpl with
                      spares := wr s.cpl.spares b []
                      active := s.cpl.active.map fun op =>
                        if op.kind = .refill && op.band = b.val then { op with emptied := true } else op })
                ∧ (geometry = false → ((s.band b).enabled = true → e.enabled = true) → u.cpl = s.cpl))))

/-- R8, R9, R10, R16, R51, R60, R138, R153: WRITE to LINK, its tests in their order, and a taken write: what it stores, when it
advances the generation, what a retirement clears, the OWN marks over the old and the new span of a standing carrier whose width
changes or which is retired, with the spare entries that leave, the MIX frames that a retirement withdraws, and what the Lamp Driver
owes. That R138's row for a link eligible at the same node before and after is for every taken write, though R9 and R137 name only
those that change a lamp field, is the model's reading (notes/assumptions/43). -/
def Obligations.LinkWrite : Prop :=
  ∀ (h : CmdHead) (i : Half) (r : List Byte) (s : State), s.takesWrite h Table.link i r = true →
    (r.length ≠ 22 → exec (.writeLink h i r) s = .next (reply h Req.write .range [] s.handed))
    ∧ (r.length = 22 → 64 ≤ i.toNat → exec (.writeLink h i r) s = .next (reply h Req.write .noSuch [] s.handed))
    ∧ ∀ k : LinkId, r.length = 22 → i.toNat = k.val → s.mgr.locked = false →
      ((s.link k).carrier.phase ≠ .idle → exec (.writeLink h i r) s = .next (reply h Req.write .busy [] s.handed))
      ∧ ((s.link k).carrier.phase = .idle →
        (readLinkCfg r = none → exec (.writeLink h i r) s = .next (reply h Req.write .range [] s.handed))
        ∧ ∀ c : LinkCfg, readLinkCfg r = some c → ∀ valid : Bool, valid =
            (c.poorQuality ≤ c.goodQuality && (!c.inUse || (c.tx ≠ 0 && c.rx ≠ 0))
              && (c.tx ≠ s.rif.node && c.rx ≠ s.rif.node && c.rx2 ≠ s.rif.node)
              && (c.tx = 0 || (c.tx ≠ c.rx && c.tx ≠ c.rx2)) && (c.rx = 0 || c.rx ≠ c.rx2)) →
          (valid = false → exec (.writeLink h i r) s = .next (reply h Req.write .range [] s.handed))
          ∧ (valid = true → ∀ old : Link, old = s.link k →
            (old.carrier.state ≠ .none → old.cfg.band ≠ c.band →
              exec (.writeLink h i r) s = .next (reply h Req.write .inUse [] s.handed))
            ∧ (old.carrier.state = .none ∨ old.cfg.band = c.band → ∀ barred : Prop, barred =
                (old.carrier.state ≠ .none ∧ old.cfg.width ≠ c.width ∧ ∃ n w, old.carrier.channel = some n
                  ∧ (rd s.plan.windows w).band = old.cfg.band
                  ∧ (rd s.plan.windows w).covers (s.band old.cfg.band)
                      (carrierSpan ((s.band old.cfg.band).freq n) c.width) = true) →
              (barred → exec (.writeLink h i r) s = .next (reply h Req.write .inWindow [] s.handed))
              ∧ (¬barred → ∃ u : State, exec (.writeLink h i r) s = .next (reply h Req.write .ok [] u)
                ∧ (u.link k).cfg = c ∧ (u.link k).tally = old.tally ∧ (∀ j, j ≠ k → u.link j = s.link j)
                ∧ u.plan.bands = s.plan.bands ∧ u.plan.windows = s.plan.windows
                ∧ u.plan.gen = (if old.carrier.state ≠ .none ∧ (old.cfg.band ≠ c.band ∨ old.cfg.width ≠ c.width
                    ∨ old.cfg.inUse ≠ c.inUse) then s.plan.gen + 1 else s.plan.gen)
                ∧ (old.carrier.state ≠ .none ∧ old.cfg.inUse = true ∧ c.inUse = false →
                    (u.link k).carrier = { channel := none, state := .none, forced := false, phase := .idle }
                    ∧ (u.link k).health = { old.health with
                        grade := .unknown, level := none, persist := 0, silence := none, batteryLow := false,
                        lastBattery := none }
                    ∧ u.want k = none)
                ∧ (old.carrier.state = .none ∨ old.cfg.inUse = false ∨ c.inUse = true →
                    (u.link k).carrier = old.carrier ∧ (u.link k).health = old.health
                    ∧ u.want k = (if old.cfg.autoRetune = true ∧ c.autoRetune = false
                        ∧ (s.want k = some .health ∨ s.want k = some .rescue) then none else s.want k))
                ∧ (∀ j, j ≠ k → u.want j = s.want j)
                ∧ (∀ j, j ≠ k → rd u.lmp.pending j = rd s.lmp.pending j ∧ rd u.lmp.debts j = rd s.lmp.debts j)
                ∧ (old.cfg.eligible = true → c.eligible = false →
                    rd u.lmp.pending k = false ∧ rd u.lmp.debts k = some old.cfg.lampNode)
                ∧ (old.cfg.eligible = true → c.eligible = true → old.cfg.lampNode ≠ c.lampNode →
                    rd u.lmp.pending k = true ∧ rd u.lmp.debts k = some old.cfg.lampNode)
                ∧ (old.cfg.eligible = true → c.eligible = true → old.cfg.lampNode = c.lampNode →
                    rd u.lmp.pending k = true ∧ rd u.lmp.debts k = rd s.lmp.debts k)
                ∧ (old.cfg.eligible = false → c.eligible = true →
                    rd u.lmp.pending k = true
                    ∧ rd u.lmp.debts k = (if rd s.lmp.debts k = some c.lampNode then none else rd s.lmp.debts k))
                ∧ (old.cfg.eligible = false → c.eligible = false →
                    rd u.lmp.pending k = rd s.lmp.pending k ∧ rd u.lmp.debts k = rd s.lmp.debts k)
                ∧ (∀ retired moved : Prop, retired = (old.carrier.state ≠ .none ∧ old.cfg.inUse = true ∧ c.inUse = false) →
                  moved = (retired ∨ old.carrier.state ≠ .none ∧ old.cfg.width ≠ c.width) →
                  (moved → ∀ (e : BandEntry) (now : List Span), e = s.band old.cfg.band →
                      (retired → now = []) →
                      (¬retired → now = old.carrier.channel.toList.map fun n => carrierSpan (e.freq n) c.width) →
                      s.ownMarked u old.cfg.band
                        ((old.carrier.channel.toList.map fun n => carrierSpan (e.freq n) old.cfg.width) ++ now))
                  ∧ (∀ (b : BandId) (j : Fin 256), ¬moved ∨ b ≠ old.cfg.band →
                      ((rd (rd u.swp.cells b) j).state = .own ↔ (rd (rd s.swp.cells b) j).state = .own))
                  ∧ (∀ b : BandId, rd u.cpl.spares b = (rd s.cpl.spares b).filter fun x =>
                      ¬∃ j : Fin 256, j.val = (s.band b).cellOf x.channel ∧ (rd (rd u.swp.cells b) j).state = .own
                        ∧ (rd (rd s.swp.cells b) j).state ≠ .own)
                  ∧ (¬moved → u.swp = s.swp ∧ u.cpl = s.cpl ∧ u.rif = s.rif)
                  ∧ ∀ d : DestId, (retired → (rd s.tbm.dests d).link = some k → rd u.rif.voiceQ d = none)
                      ∧ (¬retired ∨ (rd s.tbm.dests d).link ≠ some k → rd u.rif.voiceQ d = rd s.rif.voiceQ d))
                ∧ u.rte = s.rte ∧ u.tly = s.tly ∧ u.tbm = s.tbm ∧ u.mgr.settings = s.mgr.settings
                ∧ u.mgr.locked = s.mgr.locked ∧ u.mgr.key = s.mgr.key ∧ u.pins = s.pins ∧ u.ringOut = .slot))))

/-- R14, R15: WRITE to WINDOW, its tests in their order; a taken write stores the window and advances the generation. -/
def Obligations.WindowWrite : Prop :=
  ∀ (h : CmdHead) (i : Half) (r : List Byte) (s : State), s.takesWrite h Table.window i r = true →
    (r.length ≠ 6 → exec (.writeWindow h i r) s = .next (reply h Req.write .range [] s.handed))
    ∧ (r.length = 6 → 8 ≤ i.toNat → exec (.writeWindow h i r) s = .next (reply h Req.write .noSuch [] s.handed))
    ∧ ∀ w : Fin 8, r.length = 6 → i.toNat = w.val → s.mgr.locked = false →
      (readWindow r = none → exec (.writeWindow h i r) s = .next (reply h Req.write .range [] s.handed))
      ∧ ∀ e : Window, readWindow r = some e →
        (e.enabled = true → (s.band e.band).count < e.size →
          exec (.writeWindow h i r) s = .next (reply h Req.write .range [] s.handed))
        ∧ (e.enabled = false ∨ e.size ≤ (s.band e.band).count →
          ((∃ c ∈ bandCarriers s.plan s.rte e.band, e.covers (s.band e.band) c = true) →
            exec (.writeWindow h i r) s = .next (reply h Req.write .inWindow [] s.handed))
          ∧ ((∀ c ∈ bandCarriers s.plan s.rte e.band, e.covers (s.band e.band) c = false) →
            exec (.writeWindow h i r) s = .next (reply h Req.write .ok [] { s with
              ringOut := .slot
              plan := { s.plan with windows := wr s.plan.windows w e, gen := s.plan.gen + 1 } })))

/-- R118, R119, R120, R129: WRITE to SWITCHER and to SOURCEMAP: their tests in their order, what a taken write stores and does to
its slot, and the recomputation of the merged tally that follows. The SWITCHER note of a write carries the slot's new node: read
from the rule by inference (notes/assumptions/33). -/
def Obligations.SwitcherAndMapWrites : Prop :=
  (∀ (h : CmdHead) (i : Half) (r : List Byte) (s : State), s.takesWrite h Table.switcher i r = true →
    (r.length ≠ 27 → exec (.writeSwitcher h i r) s = .next (reply h Req.write .range [] s.handed))
    ∧ (r.length = 27 → 4 ≤ i.toNat → exec (.writeSwitcher h i r) s = .next (reply h Req.write .noSuch [] s.handed))
    ∧ ∀ x : SlotId, r.length = 27 → i.toNat = x.val → s.mgr.locked = false →
      (readSlotCfg r = none → exec (.writeSwitcher h i r) s = .next (reply h Req.write .range [] s.handed))
      ∧ ∀ c : SlotCfg, readSlotCfg r = some c →
        (c.node = s.rif.node ∨ (c.enabled = true ∧ c.node = 0) →
          exec (.writeSwitcher h i r) s = .next (reply h Req.write .range [] s.handed))
        ∧ (c.node ≠ s.rif.node → (c.enabled = true → c.node ≠ 0) →
          (c.enabled = true → (∃ y, y ≠ x ∧ (s.slot y).cfg.enabled = true ∧ (s.slot y).cfg.node = c.node) →
            exec (.writeSwitcher h i r) s = .next (reply h Req.write .inUse [] s.handed))
          ∧ (c.enabled = false ∨ (∀ y, y ≠ x → (s.slot y).cfg.enabled = true → (s.slot y).cfg.node ≠ c.node) →
            ((s.slot x).cfg.enabled = false ∨ (c.enabled = true ∧ c.node = (s.slot x).cfg.node) →
              exec (.writeSwitcher h i r) s = .next (reply h Req.write .ok [] (remerge { s with
                ringOut := .slot, tly := { slots := wr s.tly.slots x { s.slot x with cfg := c } } })))
            ∧ ((s.slot x).cfg.enabled = true → c.enabled = false ∨ c.node ≠ (s.slot x).cfg.node →
              ∀ off : State, off = { s with
                ringOut := .slot
                tly := { slots := wr s.tly.slots x { s.slot x with
                  cfg := c, state := .offline, contrib := emptyContribution, silence := none, hold := none } } } →
              exec (.writeSwitcher h i r) s = .next (reply h Req.write .ok [] (remerge
                (if (s.slot x).state = .offline then off
                 else note .switcher [byte x.val, c.node, (s.slot x).state.code, SlotState.offline.code] off)))))))
  ∧ ∀ (h : CmdHead) (i : Half) (r : List Byte) (s : State), s.takesWrite h Table.sourcemap i r = true →
    (r.length ≠ 64 → exec (.writeSourcemap h i r) s = .next (reply h Req.write .range [] s.handed))
    ∧ (r.length = 64 → 16 ≤ i.toNat → exec (.writeSourcemap h i r) s = .next (reply h Req.write .noSuch [] s.handed))
    ∧ ∀ x : SlotId, r.length = 64 → i.toNat < 16 → x.val = i.toNat / 4 → s.mgr.locked = false →
      ((∃ b ∈ r, 64 ≤ b.toNat ∧ b ≠ 0xFF) →
        exec (.writeSourcemap h i r) s = .next (reply h Req.write .range [] s.handed))
      ∧ ((∀ b ∈ r, b.toNat < 64 ∨ b = 0xFF) → ∃ m : Vector (Option LinkId) 256,
        (∀ n : Fin 256, rd m n = rd (s.slot x).map n ∨ n.val / 64 = i.toNat % 4)
        ∧ (∀ n : Fin 256, n.val / 64 = i.toNat % 4 → finOrNoneByte (rd m n) = at0 r (n.val % 64))
        ∧ exec (.writeSourcemap h i r) s = .next (reply h Req.write .ok [] (remerge { s with
            ringOut := .slot, tly := { slots := wr s.tly.slots x { s.slot x with map := m } } })))

/-- R133, R134, R141, R180: WRITE to PALETTE, WRITE to CONDITION and LAMP_TEST: their tests, and what they store; each sets the
pending flag of every eligible link. They are taken under the show lock. -/
def Obligations.LampWrites : Prop :=
  ∀ (h : CmdHead) (s : State) (all : Vector Bool 64), (∀ k, rd all k = (rd s.lmp.pending k || s.eligible k)) →
    (∀ (i : Half) (r : List Byte),
      (s.takesWrite h Table.palette i r = true → r.length ≠ 4 →
        exec (.writePalette h i r) s = .next (reply h Req.write .range [] s.handed))
      ∧ (s.takesWrite h Table.condition i r = true → r.length ≠ 2 →
        exec (.writeCondition h i r) s = .next (reply h Req.write .range [] s.handed)))
    ∧ (∀ (i : Half) (r g b l : Byte), s.takesWrite h Table.palette i [r, g, b, l] = true →
      (8 ≤ i.toNat → exec (.writePalette h i [r, g, b, l]) s = .next (reply h Req.write .noSuch [] s.handed))
      ∧ ∀ x : Fin 8, i.toNat = x.val →
        (15 < l.toNat → exec (.writePalette h i [r, g, b, l]) s = .next (reply h Req.write .range [] s.handed))
        ∧ (l.toNat ≤ 15 → exec (.writePalette h i [r, g, b, l]) s = .next (reply h Req.write .ok [] { s with
            ringOut := .slot
            lmp := { s.lmp with
              palette := wr s.lmp.palette x { colour := { red := r, green := g, blue := b }, brightness := l.toNat }
              pending := all } })))
    ∧ (∀ (i : Half) (p c : Byte), s.takesWrite h Table.condition i [p, c] = true →
      (6 ≤ i.toNat → exec (.writeCondition h i [p, c]) s = .next (reply h Req.write .noSuch [] s.handed))
      ∧ ∀ x : Fin 6, i.toNat = x.val →
        (8 ≤ p.toNat ∨ 4 ≤ c.toNat → exec (.writeCondition h i [p, c]) s = .next (reply h Req.write .range [] s.handed))
        ∧ ∀ (y : Fin 8) (cad : Cadence), p.toNat = y.val → cad.code = c →
          exec (.writeCondition h i [p, c]) s = .next (reply h Req.write .ok [] { s with
            ringOut := .slot
            lmp := { s.lmp with conditions := wr s.lmp.conditions x { palette := y, cadence := cad }, pending := all } }))
    ∧ ∀ v : Byte, s.takes h Req.lampTest [v] = true →
      (v = 0 ∨ v = 1 → exec (.lampTest h [v]) s = .next (reply h Req.lampTest .ok [] { s with
          ringOut := .slot, lmp := { s.lmp with test := v = 1, pending := all } }))
      ∧ (v ≠ 0 → v ≠ 1 → exec (.lampTest h [v]) s = .next (reply h Req.lampTest .range [] s.handed))

/-- R143, R144, R145: WRITE to TALKSRC, DEST and XPOINT: their tests in their order and what a taken write stores, resets, clears
and withdraws. They are taken under the show lock. -/
def Obligations.TalkbackWrites : Prop :=
  (∀ (h : CmdHead) (i : Half) (r : List Byte) (s : State), s.takesWrite h Table.talksrc i r = true →
    (r.length ≠ 3 → exec (.writeTalksrc h i r) s = .next (reply h Req.write .range [] s.handed))
    ∧ (r.length = 3 → 16 ≤ i.toNat → exec (.writeTalksrc h i r) s = .next (reply h Req.write .noSuch [] s.handed))
    ∧ ∀ x : TalkId, r.length = 3 → i.toNat = x.val →
      (readTalkSource r = none → exec (.writeTalksrc h i r) s = .next (reply h Req.write .range [] s.handed))
      ∧ ∀ e : TalkSource, readTalkSource r = some e →
        (e.node = s.rif.node ∨ (e.enabled = true ∧ e.node = 0) →
          exec (.writeTalksrc h i r) s = .next (reply h Req.write .range [] s.handed))
        ∧ (e.node ≠ s.rif.node → (e.enabled = true → e.node ≠ 0) →
          (e.enabled = true → (∃ y, y ≠ x ∧ (rd s.tbm.sources y).enabled = true ∧ (rd s.tbm.sources y).node = e.node
              ∧ (rd s.tbm.sources y).key = e.key) →
            exec (.writeTalksrc h i r) s = .next (reply h Req.write .inUse [] s.handed))
          ∧ (e.enabled = false ∨ (∀ y, y ≠ x → (rd s.tbm.sources y).enabled = true →
                (rd s.tbm.sources y).node = e.node → (rd s.tbm.sources y).key ≠ e.key) →
            exec (.writeTalksrc h i r) s = .next (reply h Req.write .ok [] { s with
              ringOut := .slot
              tbm := { s.tbm with
                sources := wr s.tbm.sources x e
                buffers :=
                  if (rd s.tbm.sources x).enabled = true ∧ (e.enabled = false
                      ∨ (rd s.tbm.sources x).node ≠ e.node ∨ (rd s.tbm.sources x).key ≠ e.key)
                  then wr s.tbm.buffers x .silent else s.tbm.buffers } }))))
  ∧ (∀ (h : CmdHead) (i : Half) (r : List Byte) (s : State), s.takesWrite h Table.dest i r = true →
    (r.length ≠ 6 → exec (.writeDest h i r) s = .next (reply h Req.write .range [] s.handed))
    ∧ (r.length = 6 → 32 ≤ i.toNat → exec (.writeDest h i r) s = .next (reply h Req.write .noSuch [] s.handed))
    ∧ ∀ d : DestId, r.length = 6 → i.toNat = d.val →
      (readDest r = none → exec (.writeDest h i r) s = .next (reply h Req.write .range [] s.handed))
      ∧ ∀ e : Dest, readDest r = some e →
        (e.enabled = true → e.link = none → e.wired = 0 ∨ e.wired = s.rif.node →
          exec (.writeDest h i r) s = .next (reply h Req.write .range [] s.handed))
        ∧ (e.enabled = false ∨ e.link ≠ none ∨ (e.wired ≠ 0 ∧ e.wired ≠ s.rif.node) →
          ∀ (old : Dest) (off : Bool) (pend : Vector Bool 64), old = rd s.tbm.dests d →
            off = (old.enabled && !e.enabled) →
            (∀ k, rd pend k = (rd s.lmp.pending k
              || (off && rd s.tbm.call d && (s.link k).cfg.talkback = some d && s.eligible k))) →
            exec (.writeDest h i r) s = .next (reply h Req.write .ok [] { s with
              ringOut := .slot
              tbm := { s.tbm with
                dests := wr s.tbm.dests d e
                call := if off then wr s.tbm.call d false else s.tbm.call
                ducked := if off then wr s.tbm.ducked d false else s.tbm.ducked }
              lmp := { s.lmp with pending := pend }
              rif := { s.rif with
                voiceQ := if e.enabled = false ∨ old.link ≠ e.link ∨ old.wired ≠ e.wired then wr s.rif.voiceQ d none
                          else s.rif.voiceQ } })))
  ∧ ∀ (h : CmdHead) (i : Half) (r : List Byte) (s : State), s.takesWrite h Table.xpoint i r = true →
    (r.length ≠ 64 → exec (.writeXpoint h i r) s = .next (reply h Req.write .range [] s.handed))
    ∧ (r.length = 64 → 16 ≤ i.toNat → exec (.writeXpoint h i r) s = .next (reply h Req.write .noSuch [] s.handed))
    ∧ ∀ x : TalkId, r.length = 64 → i.toNat = x.val →
      ((∃ d < 32, 1 < (at0 r (2 * d)).toNat ∨ 15 < (at0 r (2 * d + 1)).toNat) →
        exec (.writeXpoint h i r) s = .next (reply h Req.write .range [] s.handed))
      ∧ ∀ row : Vector Xpoint 32, (∀ d : DestId, (at0 r (2 * d.val)).toNat ≤ 1 ∧ (rd row d).on = (at0 r (2 * d.val) = 1)
            ∧ (rd row d).gain.val = (at0 r (2 * d.val + 1)).toNat) →
        exec (.writeXpoint h i r) s = .next (reply h Req.write .ok [] { s with
          ringOut := .slot, tbm := { s.tbm with xpoints := wr s.tbm.xpoints x row } })

/-- R68, R139, R180, R181: WRITE to SETTINGS: its tests in their order; a taken write stores the record with each timer brought into its
range, answers CLAMPED with the stored record where one was, and restarts the lamp refresh or the sweep interval where it
changed. -/
def Obligations.SettingsWrite : Prop :=
  (∀ (h : CmdHead) (i : Half) (r : List Byte) (s : State), s.takesWrite h Table.settings i r = true → r.length ≠ 12 →
    exec (.writeSettings h i r) s = .next (reply h Req.write .range [] s.handed))
  ∧ ∀ (h : CmdHead) (i : Half) (node t1 t0 m1 m0 w1 w0 h1 h0 lamp i1 i0 : Byte) (r : List Byte) (s : State),
    r = [node, t1, t0, m1, m0, w1, w0, h1, h0, lamp, i1, i0] → s.takesWrite h Table.settings i r = true →
    (i ≠ 0 → exec (.writeSettings h i r) s = .next (reply h Req.write .noSuch [] s.handed))
    ∧ (i = 0 → s.mgr.locked = false →
      (239 < node.toNat ∨ node = s.rif.node →
        exec (.writeSettings h i r) s = .next (reply h Req.write .range [] s.handed))
      ∧ (node.toNat ≤ 239 → node ≠ s.rif.node → ∀ (x : Settings) (u : State),
        x = { reportNode := node, tuneTimeout := max 20 (min 2000 (u16 t1 t0)), meterSilence := max 100 (min 5000 (u16 m1 m0)),
              switcherSilence := max 50 (min 1000 (u16 w1 w0)), switcherHold := min 10000 (u16 h1 h0),
              lampRefresh := max 1 (min 10 lamp.toNat), sweepInterval := min 3600 (u16 i1 i0) } →
        u = { s with
          ringOut := .slot
          mgr := { s.mgr with settings := x }
          lmp := { s.lmp with refresh := if s.mgr.settings.lampRefresh = x.lampRefresh then s.lmp.refresh
                                         else some (1000 * x.lampRefresh) }
          swp := { s.swp with interval := if s.mgr.settings.sweepInterval = x.sweepInterval then s.swp.interval
                                          else if x.sweepInterval = 0 then none else some (1000 * x.sweepInterval) } } →
        (x.bytes = r → exec (.writeSettings h i r) s = .next (reply h Req.write .ok [] u))
        ∧ (x.bytes ≠ r → exec (.writeSettings h i r) s = .next (reply h Req.write .clamped x.bytes u))))

/-! ## The planner -/

/-- R19, R20, R34, R40, R41, R42, R43, R47, R182: a planner request of management starts at once on an idle planner, with its
snapshot, its log header (CHECK and AUDIT) or its cleared flag (REFILL); waits in an empty management place behind a running
operation; or is refused BUSY. A REFILL of a band out of range or disabled is answered RANGE at once, in the same event: the model's
reading (notes/assumptions/18). The band field 0 of a SIGNATURE's record is its choice (notes/assumptions/30). -/
def Obligations.PlannerRequests : Prop :=
  ∀ (h : CmdHead) (c : Instr) (code : Byte) (p : List Byte) (q : MgrRequest) (s : State), s.takes h code p = true →
    ((∃ b c1 c0 w1 w0 m, c = .check h p ∧ code = Req.check ∧ p = [b, c1, c0, w1, w0, m]
        ∧ q = { kind := .check, band := b.toNat, channel := u16 c1 c0, width := u16 w1 w0,
                mover := if m = 0xFF then none else some m.toNat, asker := { id := h.id, src := h.src } })
      ∨ (∃ b, c = .audit h p ∧ code = Req.audit ∧ p = [b]
        ∧ q = { kind := .audit, band := b.toNat, channel := 0, width := 0, mover := none,
                asker := { id := h.id, src := h.src } })
      ∨ (∃ b, c = .refill h p ∧ code = Req.refill ∧ p = [b]
        ∧ q = { kind := .refill, band := b.toNat, channel := 0, width := 0, mover := none,
                asker := { id := h.id, src := h.src } })
      ∨ (c = .signature h p ∧ code = Req.signature ∧ p = []
        ∧ q = { kind := .signature, band := 0, channel := 0, width := 0, mover := none,
                asker := { id := h.id, src := h.src } })) →
    (s.cpl.active ≠ none → s.cpl.mgrPlace = none →
      exec c s = .next { s with ringOut := .slot, cpl := { s.cpl with mgrPlace := some q } })
    ∧ (s.cpl.active ≠ none → s.cpl.mgrPlace ≠ none → exec c s = .next (reply h code .busy [] s.handed))
    ∧ (s.cpl.active = none →
      ∀ op : ActiveOp, op =
          { kind := q.kind, origin := .management, band := q.band
            link := if q.kind = .check then q.mover else none
            channel := if q.kind = .check then some q.channel else none
            width := if q.kind = .check then some q.width else none
            mode := .full, snap := s.snapshot q.band, logged := 0, lastExamined := none, found := none, clearFound := [],
            emptied := false, asker := some q.asker } →
        (q.kind = .check ∨ q.kind = .audit → exec c s = .next { s with
          ringOut := .slot
          cpl := { s.cpl with
            active := some op
            log := { header := some { operation := op.kind, requester := .management, link := op.link, band := op.band,
                                      channel := op.channel, width := op.width, mode := .full, gen := s.plan.gen }
                     verdict := none, total := 0, overflow := 0, records := [] } } })
        ∧ (q.kind = .signature → exec c s = .next { s with ringOut := .slot, cpl := { s.cpl with active := some op } })
        ∧ (q.kind = .refill →
          (∀ b : BandId, q.band = b.val → (s.band b).enabled = true → exec c s = .next { s with
            ringOut := .slot, cpl := { s.cpl with active := some op, flags := wr s.cpl.flags b false } })
          ∧ ((∀ b : BandId, q.band = b.val → (s.band b).enabled = false) → s.cpl.rtePlace = none → s.cpl.mgrPlace = none →
              (∀ b, rd s.cpl.flags b = false) → exec c s = .next (reply h code .range [] s.handed))))

/-- R42, R43: what the planner takes up when an operation has completed: the RTE place, then the management place, then the
lowest refill flag, or nothing. Work that is itself over at once (R47) is left to the statement about requests. -/
def Obligations.ArbiterTakesNextWork : Prop :=
  ∀ s : State,
    (∀ r, s.cpl.rtePlace = some r → r.kind ≠ .refill → arbiterNext s =
      beginOp (.rte r) { s with cpl := { s.cpl with rtePlace := none } })
    ∧ (s.cpl.rtePlace = none →
      (∀ r, s.cpl.mgrPlace = some r → r.kind ≠ .refill → arbiterNext s =
        beginOp (.mgr r) { s with cpl := { s.cpl with mgrPlace := none } })
      ∧ (s.cpl.mgrPlace = none →
        (∀ b : BandId, rd s.cpl.flags b = true → (∀ c : BandId, c < b → rd s.cpl.flags c = false) →
          (s.band b).enabled = true → arbiterNext s = beginOp (.refill b) s)
        ∧ ((∀ b, rd s.cpl.flags b = false) → arbiterNext s = { s with cpl := { s.cpl with active := none } })))
    ∧ ∀ w : Work, (beginOp w s).cpl.active = some (s.opOf w) ∧ (s.opOf w).snap.gen = s.plan.gen
        ∧ (s.opOf w).snap.windows = s.plan.windows ∧ (s.opOf w).snap.band = (finField 4 (s.opOf w).band).map s.band
        ∧ ∀ k, (rd (s.opOf w).snap.links k).carrier = (s.link k).carrier

/-- R36: each conflict found raises the total, up to 65,535; the first sixteen are held as records, and those beyond raise the
overflow, up to 255. -/
def Obligations.ConflictLogCounts : Prop :=
  (∀ (l : ConflictLog) (c : Conflict), (l.append c).total = min 65535 (l.total + 1)
    ∧ (l.records.length < 16 → (l.append c).records = l.records ++ [c] ∧ (l.append c).overflow = l.overflow)
    ∧ (16 ≤ l.records.length → (l.append c).records = l.records ∧ (l.append c).overflow = min 255 (l.overflow + 1)))
  ∧ ∀ (l : ConflictLog) (found : List Conflict), l.records = [] → l.total = 0 → l.overflow = 0 →
    (found.foldl ConflictLog.append l).records = found.take 16
    ∧ (found.foldl ConflictLog.append l).total = min 65535 found.length
    ∧ (found.foldl ConflictLog.append l).overflow = min 255 (found.length - 16)
    ∧ (found.foldl ConflictLog.append l).header = l.header ∧ (found.foldl ConflictLog.append l).verdict = l.verdict

/-- R19, R21 to R32, R34, R36, R44: what a compatibility check finds, test by test in the order of its stages, on any snapshot;
CONFLICT_LOGGED counts the next conflict of a running CHECK, CONFIRM or AUDIT; CHECK_COMPLETION counts what
is left, writes the verdict and hands the result to its origin; the arbiter follows. That conflicts not yet reported as separate
events are counted at the completion is the model's reading (notes/assumptions/19); that the RTE takes a result of origin RETUNE
before the arbiter picks is its choice (40). -/
def Obligations.CheckRunsToItsVerdict : Prop :=
  (∀ (snap : Snapshot) (b n w : Nat) (mover : Option Nat),
    (∀ mode : CheckMode, snap.band = none ∨ (∃ e, snap.band = some e ∧ (e.enabled = false ∨ e.count ≤ n)) ∨ w < 1 ∨ 40000 < w
        ∨ (∃ m, mover = some m ∧ 64 ≤ m) → compatCheck snap b n w mover mode = .range)
    ∧ ∀ e : BandEntry, snap.band = some e → e.enabled = true → n < e.count → 1 ≤ w → w ≤ 40000 →
      (∀ m, mover = some m → m < 64) → ∀ c : Tone, c = (Item.candidate, (e.base + n * e.step : Int), (w : Int)) →
      ∃ (p : List Carrier) (excluded : List Conflict), snap.checks e b mover p ∧ snap.excludes e b c excluded
        ∧ compatCheck snap b n w mover .exclusionOnly = .conflicts excluded
        ∧ ∀ entry : Nat → Tone, (∀ i x, p[i]? = some x → entry i = (.link x.link x.target, x.freq, x.width)) →
          compatCheck snap b n w mover .full = .conflicts (excluded
            ++ (if ∃ j : Fin 256, j.val = n / e.span ∧ (rd snap.cells j).state = .busy then
                  [{ kind := .occupied, aggressors := [.candidate], victim := .cell (n / e.span), product := none,
                     shortfall := none }]
                else [])
            ++ ((List.range p.length).filterMap fun i => spacingHit e.gcc c (entry i))
            ++ (twoToneTests p.length entry c).filterMap (twoToneHit e.gim)
            ++ (if e.threeTone then (threeToneTests p.length entry c).filterMap (threeToneHit e.gim) else [])))
  ∧ ∀ (op : ActiveOp) (s : State), s.live = true → s.cpl.active = some op →
    (∀ f, op.kind ∈ [OpKind.check, .confirm, .audit] → op.findings.list[op.logged]? = some f →
      exec .conflictLogged s = .next { s with
        ringOut := .quiet
        cpl := { s.cpl with active := some { op with logged := op.logged + 1 }, log := s.cpl.log.append f } })
    ∧ (op.kind = .check ∨ op.kind = .confirm →
      ∀ (found : Findings) (v : Verdict) (u : State),
        found = compatCheck op.snap op.band (op.channel.getD 0) (op.width.getD 0) op.link op.mode →
        (found = .range ∧ v = .range ∨ found = .conflicts [] ∧ v = .clear ∨ (∃ x l, found = .conflicts (x :: l)) ∧ v = .conflict) →
        u = { s with
          ringOut := .quiet
          cpl := { s.cpl with log :=
            { (found.list.drop op.logged).foldl ConflictLog.append s.cpl.log with verdict := some v } } } →
        (op.origin = .retune → exec .checkCompletion s = .next (arbiterNext (takeResult
          (match v with
           | .range => .failed .range 0
           | .conflict => .failed .conflict found.total
           | _ => .clear (op.channel.getD 0) op.snap.gen) u)))
        ∧ (∀ a, op.origin = .management → op.asker = some a → exec .checkCompletion s = .next (arbiterNext (offerRsp
          { kind := Kind.rsp, dst := a.src, src := s.rif.node
            payload := [Req.check, a.id, match v with | .range => RspStatus.range.code | .conflict => RspStatus.conflict.code
                                                      | _ => RspStatus.ok.code]
              ++ n16 found.total ++ halfBytes op.snap.gen } u))))

/-- R33, R46, R49: what a standing evaluation finds, test by test in the order of its parts, on any snapshot; AUDIT_COMPLETION and
SIGNATURE_COMPLETION: the verdict written, the RSP with total or CRC, and the arbiter after. That conflicts not yet reported as
separate events are counted at the completion is the model's reading (notes/assumptions/19). -/
def Obligations.AuditAndSignatureComplete : Prop :=
  (∀ (snap : Snapshot) (b : Nat),
    (snap.band = none ∨ (∃ e, snap.band = some e ∧ e.enabled = false) → standingEvaluation snap b = .range)
    ∧ ∀ e : BandEntry, snap.band = some e → e.enabled = true →
      ∃ p : List Carrier, snap.checks e b none p
        ∧ ∀ entry : Nat → Tone, (∀ i x, p[i]? = some x → entry i = (.link x.link x.target, x.freq, x.width)) →
          ∃ excluded : Nat → List Conflict, (∀ i < p.length, snap.excludes e b (entry i) (excluded i))
            ∧ standingEvaluation snap b = .conflicts ((List.range p.length).flatMap excluded
              ++ ((positionPairs p.length).filterMap fun x => spacingHit e.gcc (entry x.1) (entry x.2))
              ++ (standingTwoTone p.length entry).filterMap (twoToneHit e.gim)
              ++ (if e.threeTone then (standingThreeTone p.length entry).filterMap (threeToneHit e.gim) else [])))
  ∧ ∀ (op : ActiveOp) (a : Asker) (s : State), s.live = true → s.cpl.active = some op → op.asker = some a →
    (op.kind = .audit → ∀ (found : Findings) (v : Verdict) (st : RspStatus), found = standingEvaluation op.snap op.band →
      (found = .range ∧ v = .range ∧ st = .range ∨ found = .conflicts [] ∧ v = .clean ∧ st = .ok
        ∨ (∃ x l, found = .conflicts (x :: l)) ∧ v = .conflict ∧ st = .conflict) →
      exec .auditCompletion s = .next (arbiterNext (offerRsp
        { kind := Kind.rsp, dst := a.src, src := s.rif.node
          payload := [Req.audit, a.id, st.code] ++ n16 found.total ++ halfBytes op.snap.gen }
        { s with
          ringOut := .quiet
          cpl := { s.cpl with log :=
            { (found.list.drop op.logged).foldl ConflictLog.append s.cpl.log with verdict := some v } } })))
    ∧ (op.kind = .signature → ∀ fed : List (List Byte),
      fed = ((List.finRange 64).filter fun k => (rd op.snap.links k).carrier.state ≠ .none).map (fun k =>
        [byte k.val, byte (rd op.snap.links k).band.val] ++ channelOrNone (rd op.snap.links k).carrier.channel
          ++ n16 (rd op.snap.links k).width) →
      exec .signatureCompletion s = .next (arbiterNext (offerRsp
        { kind := Kind.rsp, dst := a.src, src := s.rif.node
          payload := [Req.signature, a.id, 0] ++ halfBytes (crc16 fed.flatten) ++ [byte fed.length]
            ++ halfBytes op.snap.gen } s.quieted)))

/-- R45: a SEARCH checks the first entry that is not at its link's current channel: the entry leaves the live list whatever its
verdict, and a CLEAR one is the result. At its completion every entry before the first CLEAR one has left as well, entries at
the current channel stay, and the result goes to the RTE. With a CLEAR entry found already, a further verdict changes nothing and
the completion hands that entry on. The model's readings: the completion makes the verdicts that have not come as events
(notes/assumptions/20), a verdict with no entry left changes nothing (4), and the RTE takes the result before the arbiter picks, which
is its choice (40). -/
def Obligations.SearchWalksSpareList : Prop :=
  (∀ (op : ActiveOp) (n : Nat) (s : State), s.live = true → s.cpl.active = some op → op.kind = .search → op.found = some n →
    exec .searchEntryVerdict s = .next s.quieted
    ∧ exec .searchCompletion s = .next (arbiterNext (takeResult (.clear n op.snap.gen) s.quieted)))
  ∧ ∀ (op : ActiveOp) (b : BandId) (cand : List Spare) (s : State), s.live = true → s.cpl.active = some op →
    op.kind = .search → op.found = none → op.band = b.val →
    cand = ((rd s.cpl.spares b).filter fun x => op.currentChannel ≠ some x.channel) →
    ((rd s.cpl.spares b).map (·.channel)).Nodup → (rd s.cpl.spares b).length ≤ 16 →
    ∀ clear : Spare → Prop, (∀ x, clear x ↔
        compatCheck op.snap op.band x.channel (op.width.getD 0) op.link .full = .conflicts []) →
    (∀ e rest, cand = e :: rest →
      ∃ op' : ActiveOp, op' = { op with lastExamined := some e.channel, found := op'.found }
        ∧ (clear e → op'.found = some e.channel) ∧ (¬clear e → op'.found = none)
        ∧ exec .searchEntryVerdict s = .next { s with
            ringOut := .quiet
            cpl := { s.cpl with
              active := some op'
              spares := wr s.cpl.spares b ((rd s.cpl.spares b).filter fun x => x.channel ≠ e.channel) } })
    ∧ (cand = [] → exec .searchEntryVerdict s = .next s.quieted)
    ∧ (∀ pre e post, cand = pre ++ e :: post → (∀ x ∈ pre, ¬clear x) → clear e →
      exec .searchCompletion s = .next (arbiterNext (takeResult (.clear e.channel op.snap.gen) { s with
        ringOut := .quiet
        cpl := { s.cpl with
          active := some { op with lastExamined := some e.channel, found := some e.channel }
          spares := wr s.cpl.spares b ((rd s.cpl.spares b).filter fun x => x ∉ pre ++ [e]) } })))
    ∧ ((∀ x ∈ cand, ¬clear x) → ∃ op' : ActiveOp, op' = { op with lastExamined := op'.lastExamined }
        ∧ exec .searchCompletion s = .next (arbiterNext (takeResult (.failed .noSpare 0) { s with
            ringOut := .quiet
            cpl := { s.cpl with
              active := some op'
              spares := wr s.cpl.spares b ((rd s.cpl.spares b).filter fun x => op.currentChannel = some x.channel) } })))

/-- R47, R48, R50: REFILL_COMPLETION replaces the band's Spare List by the CLEAR candidates that still stand, unless a band write
emptied the list meanwhile; a management requester is told the number placed. The candidates are the CLEAR ones among the QUIET
cells' centre channels at the spare width, lowest last level first and equal levels by cell number: all of them, or the first
sixteen. That they are formed at the completion, from the snapshot alone, is the model's choice (notes/assumptions/21). -/
def Obligations.RefillReplacesSpareList : Prop :=
  ∀ (op : ActiveOp) (b : BandId) (e : BandEntry) (s : State), s.live = true → s.cpl.active = some op → op.kind = .refill →
    op.band = b.val → op.snap.band = some e → e.enabled = true →
    ∀ (cands placed : List Spare) (quiet : Fin 256 → Spare → Prop) (u : State),
      (∀ j x, quiet j x ↔ j.val < e.cellCount ∧ (rd op.snap.cells j).state = .quiet ∧ x.channel = e.cellCentre j.val
        ∧ x.level = (rd op.snap.cells j).last.getD 0
        ∧ compatCheck op.snap op.band x.channel e.spareWidth none .full = .conflicts []) →
      cands = refillCandidates op →
      placed = (if op.emptied then [] else cands.filter fun x =>
        (∀ j : Fin 256, j.val = (s.band b).cellOf x.channel →
            (rd (rd s.swp.cells b) j).state ≠ .busy ∧ (rd (rd s.swp.cells b) j).state ≠ .own)
          ∧ ∀ k, (s.link k).cfg.band = b → (s.link k).carrier.state = .committed →
              (s.link k).carrier.channel ≠ some x.channel) →
      u = { s with
        ringOut := .quiet
        cpl := { s.cpl with
          active := some { op with clearFound := cands }
          spares := if op.emptied then s.cpl.spares else wr s.cpl.spares b placed } } →
      (cands.length ≤ 16 ∧ (∀ x ∈ cands, ∃ j, quiet j x)
        ∧ cands.Pairwise (fun x y => x.level < y.level ∨ (x.level = y.level ∧ x.channel < y.channel))
        ∧ ∀ j x, quiet j x → x ∈ cands ∨ (cands.length = 16
            ∧ ∀ y ∈ cands, y.level < x.level ∨ (y.level = x.level ∧ y.channel < x.channel)))
      ∧ exec .refillCompletion s = .next (arbiterNext (match op.asker with
        | none => u
        | some a => offerRsp
          { kind := Kind.rsp, dst := a.src, src := s.rif.node
            payload := [Req.refill, a.id, 0, byte placed.length] ++ halfBytes op.snap.gen } u))

/-! ## Retuning -/

/-- R112, R113: MOVE_LINK and RELEASE_LINK: their tests in their order; a taken one supersedes the link's want and stages an
operator order, and the promotion test follows. That the order's confirm count is 0 while it waits is the model's reading
(notes/assumptions/23). -/
def Obligations.OperatorOrdersStaged : Prop :=
  ∀ (h : CmdHead) (c : Instr) (code l force : Byte) (p : List Byte) (k : LinkId) (target : Target) (s : State),
    s.takes h code p = true →
    ((∃ t1 t0, c = .moveLink h p ∧ code = Req.moveLink ∧ p = [l, t1, t0, force]
        ∧ target = if u16 t1 t0 = 0xFFFE then .spare else .channel (u16 t1 t0))
      ∨ (c = .releaseLink h p ∧ code = Req.releaseLink ∧ p = [l, force] ∧ target = .off)) →
    (64 ≤ l.toNat → exec c s = .next (reply h code .noSuch [] s.handed))
    ∧ (l.toNat = k.val →
      ((s.link k).cfg.inUse = false → exec c s = .next (reply h code .noSuch [] s.handed))
      ∧ ((s.link k).cfg.inUse = true → s.mgr.locked = true → exec c s = .next (reply h code .locked [] s.handed))
      ∧ ((s.link k).cfg.inUse = true → s.mgr.locked = false →
        (target = .off → (s.link k).carrier.state = .none → exec c s = .next (reply h code .noSuch [] s.handed))
        ∧ (∀ n, target = .channel n → (s.band (s.link k).cfg.band).count ≤ n ∨ (s.band (s.link k).cfg.band).enabled = false →
            exec c s = .next (reply h code .range [] s.handed))
        ∧ ((target = .off → (s.link k).carrier.state ≠ .none) →
            (∀ n, target = .channel n → n < (s.band (s.link k).cfg.band).count
              ∧ (s.band (s.link k).cfg.band).enabled = true) →
            (s.rte.holds k = true → exec c s = .next (reply h code .busy [] s.handed))
            ∧ (s.rte.holds k = false →
              ((s.link k).tally.program = true → force = 0 → exec c s = .next (reply h code .onAir [] s.handed))
              ∧ ((s.link k).tally.program = false ∨ force ≠ 0 →
                (s.rte.staged ≠ none → exec c s = .next (reply h code .full [] s.handed))
                ∧ (s.rte.staged = none → exec c s = .next (reply h code .ok [] (rteSettle (setPhase k .queued { s with
                    ringOut := .slot
                    lmn := { s.lmn with wants := wr s.lmn.wants k none }
                    rte := { s.rte with
                      staged := some
                        { link := k, target := target, reason := .operator, force := force ≠ 0, chosen := none,
                          previous := none, nodes := [], tag := none, confirms := 0, snapGen := none, cause := none } } })))))))))

/-- R39, R114: CANCEL_MOVE by the place of the link's order: no order, waiting, Active in CHECKING, Active in TUNING or
REVERTING. -/
def Obligations.CancelMoveWithdraws : Prop :=
  ∀ (h : CmdHead) (l : Byte) (k : LinkId) (s : State), s.takes h Req.cancelMove [l] = true →
    (64 ≤ l.toNat → exec (.cancelMove h [l]) s = .next (reply h Req.cancelMove .noSuch [] s.handed))
    ∧ (l.toNat = k.val →
      (s.rte.holds k = false → exec (.cancelMove h [l]) s = .next (reply h Req.cancelMove .noSuch [] s.handed))
      ∧ (∀ o, s.rte.active = some o → o.link = k → (s.link k).carrier.phase ≠ .checking →
          exec (.cancelMove h [l]) s = .next (reply h Req.cancelMove .busy [] s.handed))
      ∧ (∀ o, s.rte.active = some o → o.link = k → (s.link k).carrier.phase = .checking →
          ∀ idle : State, idle = setPhase k .idle { s with ringOut := .slot, rte := { s.rte with active := none } } →
          (s.cpl.rtePlace ≠ none → exec (.cancelMove h [l]) s = .next (reply h Req.cancelMove .ok []
            (rteSettle { idle with cpl := { s.cpl with rtePlace := none } })))
          ∧ (∀ op, s.cpl.rtePlace = none → s.cpl.active = some op → op.origin = .retune →
            exec (.cancelMove h [l]) s = .next (reply h Req.cancelMove .ok []
              (rteSettle { idle with rte := { s.rte with active := none, owed := true } }))))
      ∧ ((∀ o, s.rte.active = some o → o.link ≠ k) → s.rte.holds k = true →
          exec (.cancelMove h [l]) s = .next (reply h Req.cancelMove .ok [] (rteSettle (setPhase k .idle { s with
            ringOut := .slot
            rte := { s.rte with
              staged := s.rte.staged.filter fun o => o.link ≠ k
              deferred := s.rte.deferred.filter fun o => o.link ≠ k } })))))

/-- R99, R100: the fill of an empty Staged slot and the promotion test, whatever event they follow: nothing in BYPASS; with the
Active slot occupied, an occupied Staged slot stays, and an empty one takes the oldest deferred order off PROGRAM, or else an order
made from the want that ranks first; a staged order on PROGRAM without RESCUE or FORCE is deferred with a DEFERRED note, or stays
where the list is full; any other is promoted. R102: a promoted order launches (VERIFY, or target OFF) or asks the planner: a SEARCH
for SPARE, a CHECK of a channel, in EXCLUSION_ONLY mode with FORCE; R39, R42: the request starts at an IDLE planner and waits in the
RTE place otherwise. That an order made from a want has confirm count 0 while it waits is the model's reading (notes/assumptions/23). -/
def Obligations.StagedSlotAndPromotion : Prop :=
  ∀ s : State,
    (s.rif.mode = .bypass → rteSettle s = s)
    ∧ (s.rif.mode = .normal →
      (∀ a o, s.rte.active = some a → s.rte.staged = some o → rteSettle s = s)
      ∧ (∀ a pre o post, s.rte.active = some a → s.rte.staged = none → s.rte.deferred = pre ++ o :: post →
          ((pre ++ o :: post).map (·.link)).Nodup → (∀ x ∈ pre, (s.link x.link).tally.program = true) →
          (s.link o.link).tally.program = false →
          rteSettle s = { s with rte := { s.rte with staged := some o, deferred := pre ++ post } })
      ∧ (∀ a k reason, s.rte.active = some a → s.rte.staged = none →
          (∀ x ∈ s.rte.deferred, (s.link x.link).tally.program = true) → s.want k = some reason →
          (∀ j r, s.want j = some r → j ≠ k → reason.rank < r.rank ∨ (reason.rank = r.rank
            ∧ ((s.link j).cfg.priority < (s.link k).cfg.priority
              ∨ ((s.link j).cfg.priority = (s.link k).cfg.priority ∧ k < j)))) →
          rteSettle s = setPhase k .queued { s with
            lmn := { s.lmn with wants := wr s.lmn.wants k none }
            rte := { s.rte with staged := some (s.orderOf k reason) } })
      ∧ (s.rte.staged = none → (∀ x ∈ s.rte.deferred, (s.link x.link).tally.program = true) → (∀ k, s.want k = none) →
          rteSettle s = s)
      ∧ (∀ o (u : State), s.rte.active = none → s.rte.staged = some o →
          (∀ x ∈ s.rte.deferred, (s.link x.link).tally.program = true) → (∀ k, s.want k = none) →
          u = { s with rte := { s.rte with staged := none, active := some { o with confirms := 0 } } } →
          ((s.link o.link).tally.program = true → o.reason ≠ .rescue → o.force = false → s.rte.deferred.length < 8 →
            rteSettle s = note .deferred [byte o.link.val, o.reason.code]
              { s with rte := { s.rte with staged := none, deferred := s.rte.deferred ++ [o] } })
          ∧ ((s.link o.link).tally.program = false ∨ o.reason = .rescue ∨ o.force = true →
            (∀ n, o.reason = .verify → o.target = .channel n → rteSettle s = launch { o with confirms := 0 } (.channel n) u)
            ∧ (o.target = .off → rteSettle s = launch { o with confirms := 0 } .off u)
            ∧ (o.reason ≠ .verify → o.target = .spare → rteSettle s =
                requestRte { kind := .search, link := o.link, channel := none, mode := .full } (setPhase o.link .checking u))
            ∧ (∀ n, o.reason ≠ .verify → o.target = .channel n → rteSettle s =
                requestRte
                  { kind := .check, link := o.link, channel := some n, mode := if o.force then .exclusionOnly else .full }
                  (setPhase o.link .checking u))))
      ∧ (∀ r : RteRequest, (s.cpl.active = none → requestRte r s = beginOp (.rte r) s)
          ∧ (s.cpl.active ≠ none → requestRte r s = { s with cpl := { s.cpl with rtePlace := some r } }))
      ∧ (∀ k reason, s.orderOf k reason =
          { link := k
            target := if reason = .verify then
                (match (s.link k).carrier.channel with | some n => .channel n | none => .off) else .spare
            reason := reason, force := reason = .verify && (s.link k).carrier.forced, chosen := none, previous := none
            nodes := [], tag := none, confirms := 0, snapGen := none, cause := none })
      ∧ (∀ o, s.rte.active = none → s.rte.staged = some o → s.want o.link = none →
          ((s.link o.link).tally.program = true → o.reason ≠ .rescue → o.force = false →
            (8 ≤ s.rte.deferred.length → rteSettle s = s)
            ∧ (s.rte.deferred.length < 8 → o ∈ (rteSettle s).rte.deferred))
          ∧ ((s.link o.link).tally.program = false ∨ o.reason = .rescue ∨ o.force = true →
              ∃ a, (rteSettle s).rte.active = some a ∧ a.link = o.link ∧ a.confirms = 0
                ∧ (((rteSettle s).link o.link).carrier.phase = .checking
                  ∨ ((rteSettle s).link o.link).carrier.phase = .tuning))))

/-- R99, R100: fills and promotions go on until neither can act: when they are done, in NORMAL mode, an empty Staged slot has no
candidate left, and an occupied one waits for the Active slot or for room in a full Deferred List. -/
def Obligations.SettlingComesToRest : Prop :=
  ∀ s t : State, s.rte.deferred.length ≤ 8 → s.rif.mode = .normal → t = rteSettle s →
    (t.rte.staged = none → (∀ k, t.want k = none) ∧ ∀ o ∈ t.rte.deferred, (t.link o.link).tally.program = true)
    ∧ ∀ o, t.rte.staged = some o → t.rte.active ≠ none ∨ ((t.link o.link).tally.program = true ∧ o.reason ≠ .rescue
        ∧ o.force = false ∧ t.rte.deferred.length = 8)

/-- R103, R104, R114: a planner result for the Active order: discarded while one is owed; FAILED with its cause; a launch where it
is CLEAR and current; a CONFIRM where it is CLEAR and stale, twice at most. That a result which no Active order in CHECKING awaits,
and which is not owed, changes nothing is the model's choice (notes/assumptions/42). -/
def Obligations.PlannerResultTaken : Prop :=
  ∀ (res : PlannerResult) (s : State),
    (s.rte.owed = true → takeResult res s = { s with rte := { s.rte with owed := false } })
    ∧ (s.rte.owed = false → (∀ o, s.rte.active = some o → (s.link o.link).carrier.phase ≠ .checking) → takeResult res s = s)
    ∧ ∀ o, s.rte.owed = false → s.rte.active = some o → (s.link o.link).carrier.phase = .checking →
      ∀ failed : Cause → Nat → State,
        (∀ cause total, failed cause total = rteSettle (note .retuneFailed
          ([byte o.link.val, o.reason.code] ++ o.target.wire ++ [cause.code] ++ n16 (if cause = .conflict then total else 0))
          (setPhase o.link .idle { s with rte := { s.rte with active := none } }))) →
      (∀ cause total, res = .failed cause total → takeResult res s = failed cause total)
      ∧ ∀ n gen, res = .clear n gen →
        (gen = s.plan.gen → takeResult res s =
          launch { o with chosen := some (.channel n), snapGen := some gen } (.channel n) s)
        ∧ (gen ≠ s.plan.gen → o.confirms < 2 → takeResult res s =
          requestRte
            { kind := .confirm, link := o.link, channel := some n
              mode := (match o.target with
                | .channel _ => if o.force then .exclusionOnly else .full
                | _ => .full) }
            { s with
              rte := { s.rte with
                active := some { o with
                  chosen := some (.channel n), snapGen := some gen, confirms := o.confirms + 1 } } })
        ∧ (gen ≠ s.plan.gen → 2 ≤ o.confirms → takeResult res s = failed .planMoving 0)

/-- R60, R105: a launch into TUNING: the previous channel recorded, the phase, the generation, the new tag, the addressed nodes with
no marks, one TUNE frame for each, queued or held, and the OWN marks of the cells that the target overlaps. -/
def Obligations.LaunchSendsTuneBatch : Prop :=
  ∀ (o : Order) (c : Chosen) (s t : State), t = launch o c s → ∀ k, k = o.link →
    ∃ a, t.rte.active = some a
      ∧ a = { o with
          chosen := some c, previous := (s.link k).carrier.channel, tag := some (s.rte.tuneTag + 1)
          nodes := a.nodes }
      ∧ a.nodes = (([(s.link k).cfg.tx, (s.link k).cfg.rx]
          ++ if (s.link k).cfg.rx2 = 0 then [] else [(s.link k).cfg.rx2]).map fun n => { node := n, ok := false })
      ∧ t.rte.tuneTag = s.rte.tuneTag + 1 ∧ t.rte.staged = s.rte.staged ∧ t.rte.deferred = s.rte.deferred
      ∧ (t.link k).carrier = { (s.link k).carrier with phase := .tuning }
      ∧ (t.link k).cfg = (s.link k).cfg ∧ (t.link k).health = (s.link k).health ∧ (t.link k).tally = (s.link k).tally
      ∧ (∀ j, j ≠ k → t.link j = s.link j) ∧ t.plan.gen = s.plan.gen + 1
      ∧ t.plan.bands = s.plan.bands ∧ t.plan.windows = s.plan.windows ∧ t.lmn = s.lmn ∧ t.tly = s.tly ∧ t.tbm = s.tbm
      ∧ (∀ n ∈ a.nodes, ∀ f : Frame, f =
          { kind := Kind.tune, dst := n.node, src := s.rif.node
            payload := [byte k.val, s.rte.tuneTag + 1, byte (s.link k).cfg.band.val]
              ++ n16 (match c with | .channel m => m | .off => 0xFFFF) ++ n16 (s.link k).cfg.width } →
        { cls := .tune, frame := f } ∈ t.rif.ctlQ ∨ { frame := f, awaited := true } ∈ t.rte.hold)
      ∧ (s.rte.hold = [] → t.rte.hold = [] → t.rte.tuneTimer = some s.mgr.settings.tuneTimeout)
      ∧ s.ownMarked t (s.link k).cfg.band (match c with
          | .channel n => [(s.band (s.link k).cfg.band).channelSpan n (s.link k).cfg.width]
          | .off => [])

/-- R107: a TUNED frame that does not answer the outstanding batch is ignored; an OK that leaves others unmarked marks its
node. -/
def Obligations.TunedAnswersMarked : Prop :=
  ∀ (h : FrameHead) (p : List Byte) (s : State), s.consumes Kind.tuned h p = true →
    (p.length ≠ 5 → exec (.tuned h p) s = .next s.handed)
    ∧ ∀ l tag c1 c0 result, p = [l, tag, c1, c0, result] →
      (s.rte.active = none → exec (.tuned h p) s = .next s.handed)
      ∧ ∀ o, s.rte.active = some o → ∀ accepted : Prop, accepted =
          (l.toNat = o.link.val ∧ o.tag = some tag
            ∧ (((s.link o.link).carrier.phase = .tuning
                  ∧ ((∃ n, o.chosen = some (.channel n) ∧ u16 c1 c0 = n) ∨ (o.chosen = some .off ∧ u16 c1 c0 = 0xFFFF)))
              ∨ ((s.link o.link).carrier.phase = .reverting
                  ∧ ((∃ n, o.previous = some n ∧ u16 c1 c0 = n) ∨ (o.previous = none ∧ u16 c1 c0 = 0xFFFF))))
            ∧ ∃ n ∈ o.nodes, n.node = h.src ∧ n.ok = false) →
        (¬accepted ∨ 1 < result.toNat → exec (.tuned h p) s = .next s.handed)
        ∧ (accepted → result = 0 → (∃ n ∈ o.nodes, n.node ≠ h.src ∧ n.ok = false) →
          exec (.tuned h p) s = .next { s with
            ringOut := .slot
            rte := { s.rte with active := some { o with
              nodes := o.nodes.map fun n => if n.node = h.src then { n with ok := true } else n } } })

/-- R107: answers from different nodes may arrive in any order: two OK answers leave the same state whichever comes first. -/
def Obligations.TunedOrderDoesNotMatter : Prop :=
  ∀ (h1 h2 : FrameHead) (l tag c1 c0 : Byte) (o : Order) (s : State), h1.src ≠ h2.src →
    s.consumes Kind.tuned h1 [l, tag, c1, c0, 0] = true → s.consumes Kind.tuned h2 [l, tag, c1, c0, 0] = true →
    s.rte.active = some o → (s.link o.link).carrier.phase = .tuning →
    o.accepts .tuning h1.src l tag (u16 c1 c0) = true → o.accepts .tuning h2.src l tag (u16 c1 c0) = true →
    ∃ t1 t2 t : State, exec (.tuned h1 [l, tag, c1, c0, 0]) s = .next t1
      ∧ exec (.tuned h2 [l, tag, c1, c0, 0]) s = .next t2
      ∧ exec (.tuned h2 [l, tag, c1, c0, 0]) t1 = .next t ∧ exec (.tuned h1 [l, tag, c1, c0, 0]) t2 = .next t

/-- R52, R60, R92, R93, R108: the last OK answer in TUNING commits the order: the carrier, the generation, the OWN marks, the Spare
List, the refill flag or the REFILL begun, the health, the RETUNED note and the Active slot, before the promotion test. -/
def Obligations.LastAnswerCommits : Prop :=
  ∀ (h : FrameHead) (l tag c1 c0 : Byte) (o : Order) (c : Chosen) (s : State),
    s.consumes Kind.tuned h [l, tag, c1, c0, 0] = true → s.rte.active = some o →
    (s.link o.link).carrier.phase = .tuning → o.chosen = some c →
    o.accepts .tuning h.src l tag (u16 c1 c0) = true → (∀ n ∈ o.nodes, n.node ≠ h.src → n.ok = true) →
    ∃ u : State, exec (.tuned h [l, tag, c1, c0, 0]) s = .next (rteSettle u)
      ∧ (∀ n, c = .channel n → (u.link o.link).carrier =
            { channel := some n, state := .committed, forced := o.force, phase := .idle }
          ∧ (u.link o.link).health = { (s.link o.link).health with
              grade := .unknown, level := none, persist := 0, silence := some s.mgr.settings.meterSilence }
          ∧ ∀ e ∈ rd u.cpl.spares (s.link o.link).cfg.band, e.channel ≠ n)
      ∧ (c = .off → (u.link o.link).carrier = { channel := none, state := .none, forced := false, phase := .idle }
          ∧ (u.link o.link).health = { (s.link o.link).health with
              grade := .unknown, level := none, persist := 0, silence := none, batteryLow := false, lastBattery := none }
          ∧ u.want o.link = none)
      ∧ (u.link o.link).cfg = (s.link o.link).cfg ∧ (u.link o.link).tally = (s.link o.link).tally
      ∧ (∀ j, j ≠ o.link → u.link j = s.link j ∧ u.want j = s.want j)
      ∧ u.plan.gen = s.plan.gen + 1 ∧ u.plan.bands = s.plan.bands ∧ u.plan.windows = s.plan.windows
      ∧ u.rte.active = none ∧ u.rte.staged = s.rte.staged ∧ u.rte.deferred = s.rte.deferred
      ∧ u.rte.tuneTag = s.rte.tuneTag ∧ u.rte.tuneTimer = none ∧ u.rte.owed = s.rte.owed
      ∧ (s.eligible o.link = true → rd u.lmp.pending o.link = true)
      ∧ u.tly = s.tly ∧ u.tbm = s.tbm ∧ u.mgr.settings = s.mgr.settings
      ∧ s.ownMarked u (s.link o.link).cfg.band
          (((s.link o.link).carrier.channel.toList ++ (match c with | .channel n => [n] | .off => [])).map fun n =>
            (s.band (s.link o.link).cfg.band).channelSpan n (s.link o.link).cfg.width)
      ∧ ((s.band (s.link o.link).cfg.band).enabled = true → s.rif.mode = .normal →
          rd u.cpl.flags (s.link o.link).cfg.band = true
          ∨ ∃ op, u.cpl.active = some op ∧ op.kind = .refill ∧ op.band = (s.link o.link).cfg.band.val)
      ∧ (s.mgr.settings.reportNode ≠ 0 → s.rif.mode = .normal → ∀ f : Frame, f =
          { kind := Kind.note, dst := s.mgr.settings.reportNode, src := s.rif.node
            payload := [NoteKind.retuned.code, byte o.link.val] ++ channelOrNone o.previous ++ channelOrNone c.channel?
              ++ [o.reason.code, if c ≠ .off ∧ o.force = true then 1 else 0] ++ halfBytes (s.plan.gen + 1) } →
        { cls := .note, frame := f } ∈ u.rif.ctlQ ∨ (24 ≤ u.rif.ctlQ.length ∧ u.rif.notesLost = true))

/-- R60, R106, R107, R109, R111: a FAIL answer or the expiry of the tune timer in TUNING: the target leaves, the generation
advances, the held frames of the batch are withdrawn, and the cells under the target are marked OWN anew, a carrier that becomes
LOST causing no recomputation; the tune timer stops, and starts for a revert whose batch the queue takes at once; a VERIFY order's carrier is LOST, with a LINK_LOST note; an order with no previous channel ends FAILED after a batch to
OFF, with a RETUNE_FAILED note; any other enters REVERTING with a new tag and a batch to its previous channel. -/
def Obligations.FailedTuningReverts : Prop :=
  ∀ (i : Instr) (cause : Cause) (o : Order) (s : State), s.rte.active = some o → (s.link o.link).carrier.phase = .tuning →
    ((∃ h l tag c1 c0, i = .tuned h [l, tag, c1, c0, 1] ∧ cause = .tuneFail
        ∧ s.consumes Kind.tuned h [l, tag, c1, c0, 1] = true ∧ o.accepts .tuning h.src l tag (u16 c1 c0) = true)
      ∨ (i = .tuneTimerExpiry ∧ cause = .tuneTimeout ∧ s.live = true ∧ s.rte.tuneTimer ≠ none)) →
    ∃ (u : State) (later : List HeldTune),
      (o.reason = .verify → exec i s = .next (rteSettle u)
        ∧ (u.link o.link).carrier = { (s.link o.link).carrier with state := .lost, phase := .idle }
        ∧ (u.link o.link).health = { (s.link o.link).health with grade := .down }
        ∧ u.plan.gen = s.plan.gen + 2 ∧ u.rte.active = none ∧ u.rte.tuneTag = s.rte.tuneTag)
      ∧ (o.reason ≠ .verify → o.previous = none → exec i s = .next (rteSettle u)
        ∧ (u.link o.link).carrier = { (s.link o.link).carrier with phase := .idle }
        ∧ (u.link o.link).health = (s.link o.link).health
        ∧ u.plan.gen = s.plan.gen + 1 ∧ u.rte.active = none ∧ u.rte.tuneTag = s.rte.tuneTag + 1)
      ∧ (∀ n, o.reason ≠ .verify → o.previous = some n → exec i s = .next u
        ∧ (u.link o.link).carrier = { (s.link o.link).carrier with phase := .reverting }
        ∧ (u.link o.link).health = (s.link o.link).health
        ∧ u.plan.gen = s.plan.gen + 1 ∧ u.rte.tuneTag = s.rte.tuneTag + 1
        ∧ u.rte.active = some { o with
            cause := some cause, tag := some (s.rte.tuneTag + 1)
            nodes := o.nodes.map fun x => { node := x.node, ok := false } })
      ∧ (∀ x ∈ o.nodes, o.reason ≠ .verify → ∀ f : Frame, f =
          { kind := Kind.tune, dst := x.node, src := s.rif.node
            payload := [byte o.link.val, s.rte.tuneTag + 1, byte (s.link o.link).cfg.band.val]
              ++ n16 (match o.previous with | some n => n | none => 0xFFFF) ++ n16 (s.link o.link).cfg.width } →
        { cls := .tune, frame := f } ∈ u.rif.ctlQ ∨ ∃ w, { frame := f, awaited := w } ∈ u.rte.hold)
      ∧ u.rte.hold = s.rte.hold.filter (fun h => h.awaited = false) ++ later ∧ (o.reason = .verify → later = [])
      ∧ (∀ h ∈ later, h.awaited = o.previous.isSome ∧ ∃ x ∈ o.nodes, h.frame =
          { kind := Kind.tune, dst := x.node, src := s.rif.node
            payload := [byte o.link.val, s.rte.tuneTag + 1, byte (s.link o.link).cfg.band.val]
              ++ n16 (match o.previous with | some n => n | none => 0xFFFF) ++ n16 (s.link o.link).cfg.width })
      ∧ u.rte.tuneTimer = (if o.reason ≠ .verify ∧ o.previous ≠ none ∧ o.nodes ≠ [] ∧ later = [] then
          some s.mgr.settings.tuneTimeout else none)
      ∧ s.ownMarked (u.onCarrier o.link fun c => { c with state := (s.link o.link).carrier.state }) (s.link o.link).cfg.band
          (match o.chosen with
            | some (.channel n) => [(s.band (s.link o.link).cfg.band).channelSpan n (s.link o.link).cfg.width]
            | _ => [])
      ∧ (u.link o.link).cfg = (s.link o.link).cfg ∧ (u.link o.link).tally = (s.link o.link).tally
      ∧ (∀ j, j ≠ o.link → u.link j = s.link j) ∧ u.plan.bands = s.plan.bands ∧ u.plan.windows = s.plan.windows
      ∧ u.rte.staged = s.rte.staged ∧ u.rte.deferred = s.rte.deferred ∧ u.lmn = s.lmn ∧ u.tly = s.tly ∧ u.tbm = s.tbm
      ∧ u.mgr.settings = s.mgr.settings
      ∧ (s.mgr.settings.reportNode ≠ 0 → s.rif.mode = .normal → ∀ f : Frame,
          (o.reason = .verify ∧ f =
              { kind := Kind.note, dst := s.mgr.settings.reportNode, src := s.rif.node
                payload := [NoteKind.linkLost.code, byte o.link.val, byte (s.link o.link).cfg.band.val]
                  ++ channelOrNone (s.link o.link).carrier.channel ++ [cause.code] }
            ∨ o.reason ≠ .verify ∧ o.previous = none ∧ f =
              { kind := Kind.note, dst := s.mgr.settings.reportNode, src := s.rif.node
                payload := [NoteKind.retuneFailed.code, byte o.link.val, o.reason.code] ++ o.target.wire
                  ++ [cause.code, 0, 0] }) →
        { cls := .note, frame := f } ∈ u.rif.ctlQ ∨ (24 ≤ u.rif.ctlQ.length ∧ u.rif.notesLost = true))

/-- R60, R93, R106, R107, R110: how a revert ends: with every answer OK the carrier is COMMITTED at the previous channel; with a
FAIL answer or the expiry of the tune timer it is LOST there and the held frames of the batch are withdrawn. The cells under the
previous channel are marked OWN anew, a RETUNE_FAILED or a LINK_LOST note goes out, and the promotion test follows. A frame still held
when every answer is OK is sent later and no longer awaited: the model's choice (notes/assumptions/26).
That LINK_LOST carries the cause recorded on entry into REVERTING is the model's choice (notes/assumptions/41). -/
def Obligations.RevertEnds : Prop :=
  ∀ (i : Instr) (lost : Bool) (o : Order) (s : State), s.rte.active = some o → (s.link o.link).carrier.phase = .reverting →
    ((∃ h l tag c1 c0, i = .tuned h [l, tag, c1, c0, 0] ∧ lost = false
        ∧ s.consumes Kind.tuned h [l, tag, c1, c0, 0] = true ∧ o.accepts .reverting h.src l tag (u16 c1 c0) = true
        ∧ ∀ n ∈ o.nodes, n.node ≠ h.src → n.ok = true)
      ∨ (∃ h l tag c1 c0, i = .tuned h [l, tag, c1, c0, 1] ∧ lost = true
        ∧ s.consumes Kind.tuned h [l, tag, c1, c0, 1] = true ∧ o.accepts .reverting h.src l tag (u16 c1 c0) = true)
      ∨ (i = .tuneTimerExpiry ∧ lost = true ∧ s.live = true ∧ s.rte.tuneTimer ≠ none)) →
    ∃ u : State, exec i s = .next (rteSettle u)
      ∧ (u.link o.link).carrier = { (s.link o.link).carrier with
          state := if lost then .lost else .committed, phase := .idle }
      ∧ (u.link o.link).health = { (s.link o.link).health with
          grade := if lost then .down else (s.link o.link).health.grade }
      ∧ (u.link o.link).cfg = (s.link o.link).cfg ∧ (u.link o.link).tally = (s.link o.link).tally
      ∧ (∀ j, j ≠ o.link → u.link j = s.link j)
      ∧ u.plan.gen = s.plan.gen + 1 ∧ u.plan.bands = s.plan.bands ∧ u.plan.windows = s.plan.windows
      ∧ u.rte.active = none ∧ u.rte.staged = s.rte.staged ∧ u.rte.deferred = s.rte.deferred ∧ u.rte.tuneTimer = none
      ∧ u.rte.tuneTag = s.rte.tuneTag ∧ u.lmn = s.lmn ∧ u.tly = s.tly ∧ u.tbm = s.tbm
      ∧ u.rte.hold = (if lost then s.rte.hold.filter fun h => h.awaited = false
          else s.rte.hold.map fun h => { h with awaited := false })
      ∧ s.ownMarked u (s.link o.link).cfg.band (o.previous.toList.map fun n =>
          (s.band (s.link o.link).cfg.band).channelSpan n (s.link o.link).cfg.width)
      ∧ (∀ cause, o.cause = some cause → s.mgr.settings.reportNode ≠ 0 → s.rif.mode = .normal →
          ∀ f : Frame, f =
            { kind := Kind.note, dst := s.mgr.settings.reportNode, src := s.rif.node
              payload := if lost then
                  [NoteKind.linkLost.code, byte o.link.val, byte (s.link o.link).cfg.band.val]
                    ++ channelOrNone (s.link o.link).carrier.channel ++ [cause.code]
                else [NoteKind.retuneFailed.code, byte o.link.val, o.reason.code] ++ o.target.wire ++ [cause.code, 0, 0] } →
        { cls := .note, frame := f } ∈ u.rif.ctlQ ∨ (24 ≤ u.rif.ctlQ.length ∧ u.rif.notesLost = true))


/-! ## Tally -/

/-- R121, R122, R123, R124, R125, R128, R129: a TALLY frame by its source and its count; an accepted one replaces the slot's
contribution whole and makes the slot ONLINE, in NORMAL mode, in BYPASS and while the bypass entry mark is set (R131, R172); the two
timers of a slot; and what a recomputation hands on. That an expiry of a
stopped timer changes nothing is the model's choice (notes/assumptions/4), and that the lamp flags are set first and the RTE is then
told once is its reading (notes/assumptions/28). -/
def Obligations.TallyFramesAndSlotTimers : Prop :=
  (∀ (h : FrameHead) (p : List Byte) (s : State), s.observes Kind.tally h p = true ∨ s.hearsTally h p = true →
    ∀ out : RingOut, out = .forwarded (wire Kind.tally h.dst h.src p h.check) →
    ((∀ i, (s.slot i).cfg.enabled = true → (s.slot i).cfg.node ≠ h.src) → exec (.tally h p) s = .next { s with ringOut := out })
    ∧ ((∀ n rest, p = n :: rest → 119 < n.toNat ∨ rest.length ≠ 2 * n.toNat) →
        exec (.tally h p) s = .next { s with ringOut := out })
    ∧ ∀ (i : SlotId) (n : Byte) (rest : List Byte), (s.slot i).cfg.enabled = true → (s.slot i).cfg.node = h.src →
        (∀ j, j ≠ i → (s.slot j).cfg.enabled = true → (s.slot j).cfg.node ≠ h.src) →
        p = n :: rest → n.toNat ≤ 119 → rest.length = 2 * n.toNat →
        ∃ (c : Vector Buses 256) (u : State),
          (∀ x : Fin 256,
            ((rd c x).program = true ↔ ∃ m < n.toNat, (at0 rest (2 * m)).toNat = x.val ∧ (at0 rest (2 * m + 1)).getLsbD 0 = true)
            ∧ ((rd c x).preview = true ↔ ∃ m < n.toNat, (at0 rest (2 * m)).toNat = x.val ∧ (at0 rest (2 * m + 1)).getLsbD 1 = true)
            ∧ ((rd c x).iso = true ↔ ∃ m < n.toNat, (at0 rest (2 * m)).toNat = x.val ∧ (at0 rest (2 * m + 1)).getLsbD 2 = true))
          ∧ u = { s with
              ringOut := out
              tly := { s.tly with
                slots := wr s.tly.slots i { s.slot i with
                  contrib := c, state := .online, silence := some s.mgr.settings.switcherSilence, hold := none } } }
          ∧ exec (.tally h p) s = .next (remerge (if (s.slot i).state = .online then u
              else note .switcher [byte i.val, h.src, (s.slot i).state.code, SlotState.online.code] u)))
  ∧ (∀ (i : SlotId) (s : State), s.live = true →
    ∀ dropped : State, dropped = { s with
      ringOut := .quiet
      tly := { s.tly with
        slots := wr s.tly.slots i { s.slot i with
          contrib := emptyContribution, state := .offline, silence := none, hold := none } } } →
    ((s.slot i).silence = none → exec (.switcherSilenceExpiry i) s = .next s.quieted)
    ∧ ((s.slot i).silence ≠ none → (s.slot i).state = .online →
      (s.mgr.settings.switcherHold = 0 → exec (.switcherSilenceExpiry i) s = .next (remerge
        (note .switcher [byte i.val, (s.slot i).cfg.node, SlotState.online.code, SlotState.offline.code] dropped)))
      ∧ (s.mgr.settings.switcherHold ≠ 0 → exec (.switcherSilenceExpiry i) s = .next
        (note .switcher [byte i.val, (s.slot i).cfg.node, SlotState.online.code, SlotState.holding.code] { s with
          ringOut := .quiet
          tly := { s.tly with
            slots := wr s.tly.slots i { s.slot i with
              state := .holding, silence := none, hold := some s.mgr.settings.switcherHold } } })))
    ∧ ((s.slot i).hold = none → exec (.switcherHoldExpiry i) s = .next s.quieted)
    ∧ ((s.slot i).hold ≠ none → (s.slot i).state = .holding → exec (.switcherHoldExpiry i) s = .next (remerge
        (note .switcher [byte i.val, (s.slot i).cfg.node, SlotState.holding.code, SlotState.offline.code] dropped))))
  ∧ ∀ (s m : State) (new : LinkId → Buses), (∀ k, new k = rd (mergedTallies s.tly.slots) k) →
    m = { s with
      plan := { s.plan with links := tab fun k => { s.link k with tally := new k } }
      lmp := { s.lmp with pending := tab fun k => rd s.lmp.pending k || (new k ≠ (s.link k).tally && s.eligible k) } } →
    ∀ acts : Prop, acts = ((∃ o, s.rte.staged = some o ∧ new o.link ≠ (s.link o.link).tally)
        ∨ (s.rte.staged = none ∧ ∃ o ∈ s.rte.deferred, (s.link o.link).tally.program = true ∧ (new o.link).program = false)) →
      (acts → remerge s = rteSettle m) ∧ (¬acts → remerge s = m)

/-- R127: a bus is in a link's merged tally exactly when a slot that is ONLINE or HOLDING and a source state it. The invariant
that every step keeps, `State.tallyMerged`, is the premise. -/
def Obligations.MergeRule : Prop :=
  ∀ (s : State) (k : LinkId), s.tallyMerged →
    ((s.link k).tally.program = true ↔ ∃ (i : SlotId) (x : Fin 256),
      ((s.slot i).state = .online ∨ (s.slot i).state = .holding) ∧ (s.slot i).cfg.enables.program = true
        ∧ (rd (s.slot i).contrib x).program = true ∧ rd (s.slot i).map x = some k
        ∧ rd (s.slot i).cfg.suppress.program k = false)
    ∧ ((s.link k).tally.preview = true ↔ ∃ (i : SlotId) (x : Fin 256),
      ((s.slot i).state = .online ∨ (s.slot i).state = .holding) ∧ (s.slot i).cfg.enables.preview = true
        ∧ (rd (s.slot i).contrib x).preview = true ∧ rd (s.slot i).map x = some k
        ∧ rd (s.slot i).cfg.suppress.preview k = false)
    ∧ ((s.link k).tally.iso = true ↔ ∃ (i : SlotId) (x : Fin 256),
      ((s.slot i).state = .online ∨ (s.slot i).state = .holding) ∧ (s.slot i).cfg.enables.iso = true
        ∧ (rd (s.slot i).contrib x).iso = true ∧ rd (s.slot i).map x = some k
        ∧ rd (s.slot i).cfg.suppress.iso k = false)
    ∧ ∀ i : SlotId, (s.slot i).cfg.enabled = false →
        (s.slot i).state = .offline ∧ ∀ acc, (s.slot i).mergeInto acc = acc

/-! ## Talkback mixing -/

/-- R147, R149: a VOICE frame by its length, its source and the arrived block; and what a source contributes at a close. -/
def Obligations.VoiceBlocks : Prop :=
  (∀ (h : FrameHead) (p : List Byte) (s : State), s.consumes Kind.voice h p = true →
    ∀ matched : TalkId → Prop, (∀ i, matched i ↔ ((rd s.tbm.sources i).enabled = true
        ∧ (rd s.tbm.sources i).node = h.src ∧ (rd s.tbm.sources i).key = (at0 p 0).toNat)) →
    (p.length ≠ 98 → exec (.voice h p) s = .next s.handed)
    ∧ ((∀ i, ¬matched i) → exec (.voice h p) s = .next s.handed)
    ∧ ∀ i, p.length = 98 → matched i → (∀ j, matched j → j = i) →
      ((rd s.tbm.buffers i).arrived ≠ none → exec (.voice h p) s = .next s.handed)
      ∧ ((rd s.tbm.buffers i).arrived = none → ∃ b : Block, b.talk = (at0 p 1).getLsbD 0
          ∧ (∀ q : Fin 48, rd b.samples q = half (at0 p (2 + 2 * q.val)) (at0 p (3 + 2 * q.val)))
          ∧ exec (.voice h p) s = .next { s with
              ringOut := .slot
              tbm := { s.tbm with
                buffers := wr s.tbm.buffers i { rd s.tbm.buffers i with arrived := some b } } }))
  ∧ ∀ b : Buffer,
    (∀ a, b.arrived = some a → b.settle = (a, { arrived := none, last := a, misses := 0 }))
    ∧ (b.arrived = none → b.misses = 0 → b.settle = (b.last, { arrived := none, last := b.last, misses := 1 }))
    ∧ (b.arrived = none → b.misses ≠ 0 → b.settle = (.silent, { arrived := none, last := .silent, misses := 2 }))

/-- R148, R150, R152, R153, R155, R156, R157: a CYCLE frame of two payload bytes closes the epoch: the buffers settle, every
enabled destination gets its CALL and DUCKED flags from its talkers, every one that is not held is mixed into its place of the
Voice Queue, and each changed CALL flag reaches the lamps of the links that name it. That the held mark of a disabled destination is
off is read from the rules by inference (notes/assumptions/22). -/
def Obligations.EpochClose : Prop :=
  ∀ (h : FrameHead) (p : List Byte) (s : State), s.observes Kind.cycle h p = true →
    ∀ out : RingOut, out = .forwarded (wire Kind.cycle h.dst h.src p h.check) →
    (p.length ≠ 2 → exec (.cycle h p) s = .next { s with ringOut := out })
    ∧ (p.length = 2 → ∃ t : State, exec (.cycle h p) s = .next t
      ∧ t = { s with ringOut := out, tbm := t.tbm, rif := { s.rif with voiceQ := t.rif.voiceQ }
                     lmp := { s.lmp with pending := t.lmp.pending } }
      ∧ t.tbm = { s.tbm with buffers := t.tbm.buffers, call := t.tbm.call, ducked := t.tbm.ducked, held := t.tbm.held }
      ∧ (∀ i, rd t.tbm.buffers i = (rd s.tbm.buffers i).settle.2)
      ∧ (∀ k, rd t.lmp.pending k = true ↔ rd s.lmp.pending k = true ∨ (s.eligible k = true
          ∧ ∃ d, (s.link k).cfg.talkback = some d ∧ rd t.tbm.call d ≠ rd s.tbm.call d))
      ∧ ∀ d : DestId, ∀ e : Dest, e = rd s.tbm.dests d →
        (e.enabled = false → rd t.tbm.call d = rd s.tbm.call d ∧ rd t.tbm.ducked d = rd s.tbm.ducked d
          ∧ rd t.tbm.held d = false ∧ rd t.rif.voiceQ d = rd s.rif.voiceQ d)
        ∧ (e.enabled = true → ∀ (talks : TalkId → Bool) (held : Prop),
          (∀ i, talks i = true ↔ e.feed ≠ some i ∧ (rd (rd s.tbm.xpoints i) d).on = true
            ∧ (rd s.tbm.buffers i).settle.1.talk = true) →
          held = (∃ k, e.link = some k ∧ ((s.link k).carrier.phase = .tuning ∨ (s.link k).carrier.phase = .reverting
            ∨ (s.link k).carrier.state ≠ .committed)) →
          (rd t.tbm.call d = true ↔ ∃ i, talks i = true) ∧ rd t.tbm.ducked d = rd t.tbm.call d
          ∧ (rd t.tbm.held d = true ↔ held)
          ∧ (held → rd t.rif.voiceQ d = rd s.rif.voiceQ d)
          ∧ (¬held → ∃ f : Frame, rd t.rif.voiceQ d = some f ∧ f.kind = Kind.mix ∧ f.src = s.rif.node
            ∧ (∀ k, e.link = some k → f.dst = (s.link k).cfg.tx) ∧ (e.link = none → f.dst = e.wired)
            ∧ f.payload.length = 100
            ∧ f.payload.take 4 = [byte d.val, at0 p 0, at0 p 1, if rd t.tbm.call d then 3 else 0]
            ∧ ∀ q : Fin 48, ∀ sample : TalkId → Int,
              (∀ i, sample i = (rd (rd s.tbm.buffers i).settle.1.samples q).toInt) →
              (half (at0 f.payload (4 + 2 * q.val)) (at0 f.payload (5 + 2 * q.val))).toInt = max (-32768) (min 32767
                ((match e.feed with
                  | some i => mixTerm (sample i) (multiplier (if rd t.tbm.call d then e.duck else e.gain))
                  | none => 0)
                + ((List.finRange 16).map fun i =>
                    if talks i then mixTerm (sample i) (multiplier (rd (rd s.tbm.xpoints i) d).gain) else 0).sum)))))

/-- R145, R151: the multipliers of the sixteen gain codes, and a term of a mix: the sample times the multiplier, rounded to the
nearest integer with halves toward plus infinity. -/
def Obligations.MixTermRule : Prop :=
  (List.finRange 16).map multiplier =
    [32768, 27571, 23198, 19519, 16423, 13818, 11627, 9782, 8231, 6925, 5827, 4903, 4125, 3471, 2920, 2457]
  ∧ ∀ (g : Fin 16) (x : Int), -32768 ≤ x → x ≤ 32767 → ∀ y : Int, y = x * multiplier g →
    32768 * mixTerm x (multiplier g) ≤ y + 16384 ∧ y + 16384 < 32768 * (mixTerm x (multiplier g) + 1)
    ∧ (g = 0 → multiplier g = 32768 ∧ mixTerm x (multiplier g) = x)
    ∧ (g ≠ 0 → -32768 < mixTerm x (multiplier g) ∧ mixTerm x (multiplier g) < 32768
        ∧ (mixTerm x (multiplier g)).natAbs ≤ x.natAbs)
    ∧ (mixTerm (-x) (multiplier g) = -mixTerm x (multiplier g) ↔ y % 32768 ≠ 16384)

/-! ## Link health -/

/-- R81, R82, R84, R87: the classification of a report row by row, the persistence count, the battery-low flag, and the filtered
level, which moves toward 4L without passing it and under a steady level settles within 3 quarter-dB of it for good. -/
def Obligations.HealthGrading : Prop :=
  (∀ (c : LinkCfg) (before : Health) (f m : Int) (q : Nat), m = f - 4 * c.minLevel →
    ∀ row1 row2 row3 : Prop, row1 = (q < c.poorQuality ∨ m < 0) →
      row2 = (before = .poor ∧ (m < 8 ∨ q < c.poorQuality + 10)) →
      row3 = (4 * (c.goodMargin : Int) ≤ m ∧ c.goodQuality ≤ q) →
      (classify c before f q = .poor ↔ row1 ∨ row2) ∧ (classify c before f q = .good ↔ ¬row1 ∧ ¬row2 ∧ row3)
      ∧ (classify c before f q = .marginal ↔ ¬row1 ∧ ¬row2 ∧ ¬row3))
  ∧ (∀ (n : Nat) (g : Health), persistCount n .poor = min 15 (n + 1) ∧ (g ≠ .poor → persistCount n g = 0))
  ∧ (∀ (low : Bool) (w b : Nat), (b < w → batteryFlag low w b = true) ∧ (w + 5 ≤ b → batteryFlag low w b = false)
      ∧ (w ≤ b → b < w + 5 → batteryFlag low w b = low))
  ∧ (∀ l : Int, filterLevel none l = 4 * l)
  ∧ (∀ f l d : Int, d = 4 * l - f →
      (0 ≤ d → f ≤ filterLevel (some f) l ∧ filterLevel (some f) l ≤ 4 * l
        ∧ 4 * (filterLevel (some f) l - f) ≤ d ∧ d < 4 * (filterLevel (some f) l - f) + 4)
      ∧ (d ≤ 0 → 4 * l ≤ filterLevel (some f) l ∧ filterLevel (some f) l ≤ f
        ∧ d ≤ 4 * (filterLevel (some f) l - f) ∧ 4 * (filterLevel (some f) l - f) < d + 4))
  ∧ ∀ f l : Int, ∃ (n : Nat) (g : Int), (4 * l - g).natAbs ≤ 3
      ∧ ∀ m, n ≤ m → Nat.iterate (fun x => some (filterLevel x l)) m (some f) = some g

/-- R67, R79, R80, R83, R85, R86, R87, R89, R90, R91, R94, R115: a link-form METER frame, ignored or accepted, in NORMAL mode and in
BYPASS, and the expiry of a link's silence timer: the link's health fields; the HEALTH, BATTERY and LINK_DOWN notes; the DEGRADE
report; the want entered, raised or withdrawn, with the RETUNE_WITHDRAWN note; the lamp. The model's readings: an expiry where the
health was DOWN already sends its LINK_DOWN note and makes its wants (notes/assumptions/29), and the expiry of a stopped timer changes
nothing, which is its choice (4). -/
def Obligations.MeterReportsAndSilence : Prop :=
  (∀ (h : FrameHead) (p : List Byte) (s : State) (out : RingOut),
    (s.consumes Kind.meter h (0 :: p) = true ∧ out = .slot
      ∨ s.hearsInBypass h p = true ∧ out = .forwarded (wire Kind.meter h.dst h.src (0 :: p) h.check)) →
    (p.length ≠ 6 → exec (.meterLinkForm h p) s = .next { s with ringOut := out })
    ∧ ∀ n presence a b q batt : Byte, p = [n, presence, a, b, q, batt] →
      (64 ≤ n.toNat → exec (.meterLinkForm h p) s = .next { s with ringOut := out })
      ∧ ∀ k : LinkId, n.toNat = k.val → ∀ l : Link, l = s.link k →
        (l.cfg.inUse = false ∨ l.carrier.state = .none ∨ (h.src ≠ l.cfg.rx ∧ (h.src ≠ l.cfg.rx2 ∨ l.cfg.rx2 = 0)) →
          exec (.meterLinkForm h p) s = .next { s with ringOut := out })
        ∧ (l.cfg.inUse = true → l.carrier.state ≠ .none → (h.src = l.cfg.rx ∨ (h.src = l.cfg.rx2 ∧ l.cfg.rx2 ≠ 0)) →
          ∀ (level f : Int) (quality : Nat) (battery : Option Nat) (low : Bool) (grade : Health) (x : LinkHealth),
          level = (if presence.getLsbD 0 then max (reportedLevel a) (reportedLevel b) else reportedLevel a) →
          f = filterLevel l.health.level level → quality = min 100 q.toNat →
          battery = (if presence.getLsbD 1 then some (min 100 batt.toNat) else none) →
          low = (match battery with
            | some v => batteryFlag l.health.batteryLow l.cfg.batteryWarning v
            | none => l.health.batteryLow) →
          grade = (if l.carrier.state = .committed then classify l.cfg l.health.grade f quality else l.health.grade) →
          x = { grade := grade, level := some f, lastQuality := quality
                lastBattery := (match battery with | some v => some v | none => l.health.lastBattery)
                persist := (if l.carrier.state = .committed then persistCount l.health.persist grade else l.health.persist)
                batteryLow := low, silence := some s.mgr.settings.meterSilence } →
          ∀ base noted warned degraded cleared : State,
          base = { s with
            ringOut := out
            plan := { s.plan with links := wr s.plan.links k { l with health := x } } } →
          noted = (if grade ≠ l.health.grade ∧ (grade = .good ∨ grade = .marginal ∨ grade = .poor) then
            note .health ([byte k.val, l.health.grade.code, grade.code] ++ i16 f ++ [byte quality]) base else base) →
          warned = (match battery with
            | some v => if l.health.batteryLow = false ∧ low = true then note .battery [byte k.val, byte v] noted else noted
            | none => noted) →
          degraded = (if grade ≠ l.health.grade ∧ grade = .poor then degradeReport k warned else warned) →
          cleared = { degraded with lmn := { s.lmn with wants := wr s.lmn.wants k none } } →
          ∀ recovers raises : Prop, recovers = (l.carrier.state = .committed ∧ grade = .good ∧ l.health.grade ≠ .good) →
          raises = (l.carrier.state = .committed ∧ grade = .poor ∧ l.health.persist < 15
            ∧ l.health.persist + 1 = l.cfg.persistence ∧ l.cfg.autoRetune = true ∧ l.carrier.phase = .idle
            ∧ s.want k = none) →
          ∃ last t : State, exec (.meterLinkForm h p) s = .next t
            ∧ t = { last with
                lmp := { last.lmp with
                  pending := if grade ≠ l.health.grade ∧ s.eligible k = true then wr last.lmp.pending k true
                             else last.lmp.pending } }
            ∧ (t.link k).health = x
            ∧ (∀ j, j ≠ k → (t.link j).health = (s.link j).health)
            ∧ (∀ j, (t.link j).cfg = (s.link j).cfg ∧ (t.link j).tally = (s.link j).tally)
            ∧ t.tly = s.tly ∧ t.tbm = s.tbm ∧ t.plan.bands = s.plan.bands ∧ t.plan.windows = s.plan.windows
            ∧ (¬recovers → ¬raises → last = degraded)
            ∧ (raises → last = rteSettle { degraded with lmn := { s.lmn with wants := wr s.lmn.wants k (some .health) } }
              ∧ (t.want k = some .health ∨ ∃ o ∈ t.rte.orders, o.link = k ∧ o.reason = .health))
            ∧ (recovers → (∀ o ∈ s.rte.staged.toList ++ s.rte.deferred, o.link = k → o.reason ≠ .health) → last = cleared)
            ∧ (recovers → (∃ o ∈ s.rte.staged.toList ++ s.rte.deferred, o.link = k) →
                (∀ o ∈ s.rte.staged.toList ++ s.rte.deferred, o.link = k → o.reason = .health) →
                last = rteSettle (note .retuneWithdrawn [byte k.val, Reason.health.code] (setPhase k .idle { cleared with
                  rte := { s.rte with
                    staged := s.rte.staged.filter fun o => o.link ≠ k
                    deferred := s.rte.deferred.filter fun o => o.link ≠ k } }))
                ∧ t.want k = none ∧ ∀ o ∈ t.rte.staged.toList ++ t.rte.deferred, o.link ≠ k)))
  ∧ ∀ (k : LinkId) (s : State), s.live = true → ∀ l : Link, l = s.link k →
    (l.health.silence = none → exec (.meterSilenceExpiry k) s = .next s.quieted)
    ∧ (l.health.silence ≠ none → l.carrier.state ≠ .committed → exec (.meterSilenceExpiry k) s = .next { s with
        ringOut := .quiet
        plan := { s.plan with
          links := wr s.plan.links k { l with health := { l.health with silence := none } } } })
    ∧ (l.health.silence ≠ none → l.carrier.state = .committed →
      ∀ (rescue : Bool) (reason : Reason), rescue = l.cfg.rescueOnAir →
      reason = (if rescue = true then .rescue else .health) →
      ∀ enters : Prop, enters = (l.cfg.autoRetune = true ∧ l.carrier.phase = .idle ∧ s.want k = none) →
      ∀ noted degraded : State,
      noted = note .linkDown ([byte k.val, byte l.cfg.band.val] ++ channelOrNone l.carrier.channel) { s with
        ringOut := .quiet
        plan := { s.plan with
          links := wr s.plan.links k { l with health := { l.health with grade := .down, silence := none } } } } →
      degraded = (if l.health.grade = .down then noted else degradeReport k noted) →
      ∃ last t : State, exec (.meterSilenceExpiry k) s = .next t
        ∧ t = { last with
            lmp := { last.lmp with
              pending := if l.health.grade ≠ .down ∧ s.eligible k = true then wr last.lmp.pending k true
                         else last.lmp.pending } }
        ∧ (t.link k).health = { l.health with grade := .down, silence := none }
        ∧ (∀ j, j ≠ k → (t.link j).health = (s.link j).health)
        ∧ (∀ j, (t.link j).cfg = (s.link j).cfg ∧ (t.link j).tally = (s.link j).tally)
        ∧ t.tly = s.tly ∧ t.tbm = s.tbm ∧ t.plan.bands = s.plan.bands ∧ t.plan.windows = s.plan.windows
        ∧ (enters → last = rteSettle { degraded with lmn := { s.lmn with wants := wr s.lmn.wants k (some reason) } }
          ∧ (t.want k = some reason ∨ ∃ o ∈ t.rte.orders, o.link = k ∧ o.reason = reason))
        ∧ (¬enters → last = { degraded with
            lmn := { s.lmn with
              wants := if s.want k = some .health ∧ rescue = true then wr s.lmn.wants k (some .rescue) else s.lmn.wants } }))

/-! ## The spectrum sweep -/

/-- R64, R65, R67, R68, R69, R75, R76, R77: SWEEP_GO by its configuration, the mode and the state; SWEEP_STOP; the TIMER trigger at
the expiries of the sweep interval timer and the DEGRADE trigger: which are ignored, and from which state the sweep takes the next
cell, or ends its pass, in every other case. That NOTES_LOST is set for a discarded CELL report, and that a step at the start cell
begins a pass, are the model's readings (notes/assumptions/15 and 24); that an expiry of a stopped timer changes nothing is its
choice (4). -/
def Obligations.SweepRequests : Prop :=
  (∀ (h : CmdHead) (p : List Byte) (s : State), s.takes h Req.sweepGo p = true →
    (p.length ≠ 0 → p.length ≠ 8 → exec (.sweepGo h p) s = .next (reply h Req.sweepGo .range [] s.handed))
    ∧ (p.length = 8 → (4 ≤ (at0 p 0).toNat ∨ 4 ≤ (at0 p 3).toNat ∨ (at0 p 4).toNat ∉ [2, 5, 10, 20]) →
        exec (.sweepGo h p) s = .next (reply h Req.sweepGo .range [] s.handed))
    ∧ ∀ c : SweepCfg, (p = [] ∧ c = s.swp.cfg
          ∨ ∃ st sp r t d : Byte, p = [byte c.band.val, st, sp, c.mode.code, byte c.dwell, r, t, d]
            ∧ c.start = st.toNat ∧ c.stop = sp.toNat ∧ c.dwell ∈ [2, 5, 10, 20]
            ∧ c.report = (r != 0) ∧ c.timer = (t != 0) ∧ c.degrade = (d != 0)) →
      (¬s.sweepable c → exec (.sweepGo h p) s = .next (reply h Req.sweepGo .range [] s.handed))
      ∧ (s.sweepable c → s.swp.state ≠ .idle → (s.swp.cfg.mode = .once ∨ s.swp.cfg.mode = .cycle) →
          exec (.sweepGo h p) s = .next (reply h Req.sweepGo .busy [] s.handed))
      ∧ (s.sweepable c → (s.swp.state = .probing ∨ s.swp.state = .paused) → s.swp.cfg.mode = .step →
          exec (.sweepGo h p) s = .next (reply h Req.sweepGo .ok [] s.handed))
      ∧ ∀ go u t : State, s.sweepable c → (s.swp.state ≠ .idle → s.swp.cfg.mode = .onceR ∨ s.swp.cfg.mode = .step) →
          go = { s with
            ringOut := .slot
            swp := { s.swp with cfg := if s.swp.state = .idle then c else s.swp.cfg } } →
          go.triggered u → u.takesNext t false →
          exec (.sweepGo h p) s = .next (reply h Req.sweepGo .ok [] t))
  ∧ (∀ (h : CmdHead) (s : State), s.takes h Req.sweepStop [] = true →
    exec (.sweepStop h []) s = .next (reply h Req.sweepStop .ok [] { s with
      ringOut := .slot
      rif := { s.rif with notesLost := s.rif.notesLost || s.swp.reportHold.isSome }
      swp := { s.swp with state := .idle, probe := none, probeTimer := none, probeHold := none, reportHold := none } }))
  ∧ (∀ s : State, s.live = true →
    (s.swp.interval = none ∨ s.swp.cfg.timer = false ∨ s.rif.mode = .bypass
        ∨ (s.swp.state = .idle ∧ ¬s.sweepable s.swp.cfg)
        ∨ ((s.swp.state = .probing ∨ s.swp.state = .paused) ∧ s.swp.cfg.mode ≠ .onceR)
        ∨ (s.swp.state = .waiting ∧ s.swp.cfg.mode ≠ .step) →
      exec .sweepIntervalExpiry s = .next s.quieted)
    ∧ ∀ u t : State, s.swp.interval ≠ none → s.swp.cfg.timer = true → s.rif.mode = .normal →
      (s.swp.state = .idle → s.sweepable s.swp.cfg) → s.quieted.triggered u → u.takesNext t false →
      exec .sweepIntervalExpiry s = .next t)
  ∧ ∀ (k : LinkId) (s : State),
    (s.swp.cfg.degrade = false ∨ (s.link k).cfg.band ≠ s.swp.cfg.band ∨ s.rif.mode = .bypass
        ∨ (s.swp.state = .idle ∧ ¬s.sweepable s.swp.cfg)
        ∨ ((s.swp.state = .probing ∨ s.swp.state = .paused) ∧ s.swp.cfg.mode ≠ .onceR)
        ∨ (s.swp.state = .waiting ∧ s.swp.cfg.mode ≠ .step) → degradeReport k s = s)
    ∧ ∀ u t : State, s.swp.cfg.degrade = true → (s.link k).cfg.band = s.swp.cfg.band → s.rif.mode = .normal →
      (s.swp.state = .idle → s.sweepable s.swp.cfg) → s.triggered u → u.takesNext t false → degradeReport k s = t

/-- R60, R61, R69 to R75, R170: a probe-form METER frame, ignored or accepted: the cell's grade and levels, the Spare List, the CELL
note; the probe timeout, the third of which in a row stops the sweep; how a sweep goes on after a cell, its next PROBE frame offered
at once or kept for a queue-space event; and which cells are OWN after a recomputation. A report or timeout with no probe outstanding
changes nothing: for the timeout the model's choice (notes/assumptions/4). A CELL report admitted at once is followed by the next
PROBE in the same event, and a recomputation that makes the remaining cells of a waiting STEP sweep OWN does not end its pass: its
choices as well (38 and 39). -/
def Obligations.ProbeExchange : Prop :=
  (∀ (h : FrameHead) (f : List Byte) (s : State), s.consumes Kind.meter h (1 :: f) = true →
    (s.swp.probe = none ∨ f.length ≠ 5 → exec (.meterProbeForm h f) s = .next s.handed)
    ∧ ∀ (p : Probe) (tag b c1 c0 lv : Byte), s.swp.probe = some p → f = [tag, b, c1, c0, lv] →
      (tag ≠ p.tag ∨ b.toNat ≠ p.band.val ∨ u16 c1 c0 ≠ p.channel ∨ h.src ≠ (s.band p.band).probeNode →
        exec (.meterProbeForm h f) s = .next s.handed)
      ∧ (tag = p.tag → b.toNat = p.band.val → u16 c1 c0 = p.channel → h.src = (s.band p.band).probeNode →
        ∀ (j : Fin 256) (level t : Int) (before after : Cell) (u : State), j.val = p.cell →
        level = max (-127) (min 0 lv.toInt) → t = (s.band p.band).threshold → before = rd (rd s.swp.cells p.band) j →
        after = { state := (if t ≤ level then .busy else if level ≤ t - 6 then .quiet
                    else if before.state = .quiet then .quiet else .busy)
                  last := some level
                  peak := some (match before.peak with | some x => max x level | none => level)
                  age := 0 } →
        u = { s with
          ringOut := .slot
          cpl := { s.cpl with
            spares := if after.state = .busy ∧ before.state ≠ .busy then
                wr s.cpl.spares p.band ((rd s.cpl.spares p.band).filter fun e =>
                  (s.band p.band).cellOf e.channel ≠ p.cell)
              else s.cpl.spares }
          swp := { s.swp with
            cells := wr s.swp.cells p.band (wr (rd s.swp.cells p.band) j after)
            probe := none, probeTimer := none, probeHold := none, timeouts := 0, marks := wr s.swp.marks j true } } →
        (s.swp.cfg.report = false ∨ s.mgr.settings.reportNode = 0 → exec (.meterProbeForm h f) s = .next (sweepOn u))
        ∧ (s.swp.cfg.report = true → s.mgr.settings.reportNode ≠ 0 → ∀ g : Frame, g =
            { kind := Kind.note, dst := s.mgr.settings.reportNode, src := s.rif.node
              payload := [NoteKind.cell.code, byte p.band.val, byte p.cell, after.state.code, signedByte level, p.tag] } →
          (s.rif.ctlQ.length < 24 → exec (.meterProbeForm h f) s = .next (sweepOn { u with
            rif := { u.rif with ctlQ := u.rif.ctlQ ++ [{ cls := .note, frame := g }] }
            swp := { u.swp with reportHold := none } }))
          ∧ (24 ≤ s.rif.ctlQ.length → exec (.meterProbeForm h f) s = .next { u with
            swp := { u.swp with state := .paused, reportHold := some g } }))))
  ∧ (∀ s : State, s.live = true →
    (s.swp.probe = none ∨ s.swp.probeTimer = none → exec .probeTimeout s = .next s.quieted)
    ∧ ∀ (p : Probe) (u : State), s.swp.probe = some p → s.swp.probeTimer ≠ none → u = { s with
        ringOut := .quiet
        swp := { s.swp with
          probe := none, probeTimer := none, probeHold := none, timeouts := s.swp.timeouts + 1
          passTimeouts := s.swp.passTimeouts + 1 } } →
      (s.swp.timeouts + 1 < 3 → exec .probeTimeout s = .next (sweepOn u))
      ∧ (3 ≤ s.swp.timeouts + 1 → exec .probeTimeout s = .next (note .probeSilent
          [byte p.band.val, byte p.cell, (s.band p.band).probeNode] { u with swp := { u.swp with state := .idle } })))
  ∧ (∀ (waits : Bool) (s u on : State), u = { s with swp := { s.swp with cursor := s.swp.cursor + 1 } } →
    on = (if waits then sweepOnBy keepProbe s else sweepOn s) →
    (∀ j pos, s.swp.cfg.mode = .step → u.nextIs j pos → on = { u with swp := { u.swp with state := .waiting } })
    ∧ ∀ t : State, (s.swp.cfg.mode ≠ .step ∨ u.passOver) → u.takesNext t waits → on = t)
  ∧ ∀ (b : BandId) (spans : List Span) (s u : State) (overlapped : Fin 256 → Bool) (touched : Fin 256 → Bool)
      (new : Vector Cell 256),
    (∀ j, touched j = true ↔ j.val < (s.band b).cellCount
      ∧ ∃ c, (s.band b).cellSpan j.val = some c ∧ ∃ x ∈ spans, c.overlaps x = true) →
    (∀ j, overlapped j = true ↔ ∃ c, (s.band b).cellSpan j.val = some c
      ∧ ∃ y ∈ bandCarriers s.plan s.rte b, c.overlaps y = true) →
    (∀ j, rd new j = (rd (rd s.swp.cells b) j).remarked (touched j) (overlapped j)) →
    u = { s with
      swp := { s.swp with cells := wr s.swp.cells b new }
      cpl := { s.cpl with spares := wr s.cpl.spares b ((rd s.cpl.spares b).filter fun x =>
        ¬∃ j : Fin 256, j.val = (s.band b).cellOf x.channel ∧ (rd new j).state = .own
          ∧ (rd (rd s.swp.cells b) j).state ≠ .own) } } →
    remarkCells b (touching spans) s = u
    ∧ (s.swp.state ≠ .probing ∨ (s.swp.probe = none ∧ s.swp.probeHold = none) → ownRecompute b (touching spans) s = u)
    ∧ ∀ p : Probe, s.swp.state = .probing →
        (s.swp.probe = some p ∨ s.swp.probe = none ∧ ∃ h, s.swp.probeHold = some h ∧ h.probe = p) →
        ((u.swp.cell p.band p.cell).state = .own → ownRecompute b (touching spans) s =
          sweepOn { u with swp := { u.swp with probe := none, probeTimer := none, probeHold := none } })
        ∧ ((u.swp.cell p.band p.cell).state ≠ .own → ownRecompute b (touching spans) s = u)

/-! ## Tally lamps -/

/-- R135, R136, R139, R140: the building of a LAMP frame: which link, a dark frame before a lit one, what the lit frame carries by
the rank of its conditions; and the expiry of the refresh timer. That a build with nothing due and an expiry of a stopped timer change
nothing is the model's choice (notes/assumptions/4). -/
def Obligations.LampFramesBuilt : Prop :=
  (∀ s : State, s.live = true →
    (s.rif.mode = .bypass ∨ (∀ k, s.lmp.due k = false) → exec .lampFrameBuild s = .next s.quieted)
    ∧ ∀ k, s.rif.mode = .normal → firstFrom s.lmp.next k (fun j => (rd s.lmp.debts j).isSome || rd s.lmp.pending j) →
      ∀ (f : Frame) (after : Lmp),
        ((∃ n, rd s.lmp.debts k = some n
            ∧ f = { kind := Kind.lamp, dst := n, src := s.rif.node, payload := [byte k.val, 0, 0, 0, 0, 0, 0, 0, 0] }
            ∧ after = { s.lmp with debts := wr s.lmp.debts k none, next := k })
          ∨ (rd s.lmp.debts k = none
            ∧ f = { kind := Kind.lamp, dst := (s.link k).cfg.lampNode, src := s.rif.node
                    payload := [byte k.val, (s.lamp k).cadence.code, (s.lamp k).primary.red, (s.lamp k).primary.green,
                      (s.lamp k).primary.blue, (s.lamp k).secondary.red, (s.lamp k).secondary.green,
                      (s.lamp k).secondary.blue, byte (s.lamp k).brightness] }
            ∧ after = { s.lmp with pending := wr s.lmp.pending k false, next := k + 1 })) →
        (∀ r, s.rif.admitted { cls := .lamp, frame := f } = some r →
          exec .lampFrameBuild s = .next { s with ringOut := .quiet, rif := r, lmp := after })
        ∧ (s.rif.admitted { cls := .lamp, frame := f } = none → exec .lampFrameBuild s = .next s.quieted))
  ∧ (∀ s : State, s.live = true →
    (s.lmp.refresh = none → exec .lampRefreshExpiry s = .next s.quieted)
    ∧ (s.lmp.refresh ≠ none → exec .lampRefreshExpiry s = .next { s with
        ringOut := .quiet
        lmp := { s.lmp with
          pending := tab fun k => rd s.lmp.pending k || s.eligible k
          refresh := some (1000 * s.mgr.settings.lampRefresh) } }))
  ∧ ∀ (s : State) (k : LinkId) (l : Link) (entry : Fin 6 → PaletteEntry) (shown : Fin 6 → Lamp) (called warns : Prop),
    l = s.link k → (∀ i, entry i = rd s.lmp.palette (rd s.lmp.conditions i).palette) →
    (∀ i, shown i = { cadence := (rd s.lmp.conditions i).cadence, primary := (entry i).colour
                      secondary := (rd s.lmp.palette 0).colour
                      brightness := (max 0 (min 15 (((entry i).brightness : Int) + l.cfg.trim))).toNat }) →
    called = (∃ d, l.cfg.talkback = some d ∧ rd s.tbm.call d = true) →
    warns = (l.carrier.state = .uncertain ∨ l.carrier.state = .lost ∨ l.carrier.phase = .tuning
      ∨ l.carrier.phase = .reverting ∨ l.health.grade = .down) →
    (s.lmp.test = true → s.lamp k = shown 0)
    ∧ (s.lmp.test = false →
      (l.tally.program = true →
        (l.cfg.blendLamp = false ∨ l.tally.preview = false → s.lamp k = shown 1)
        ∧ (l.cfg.blendLamp = true → l.tally.preview = true →
          s.lamp k = { shown 1 with cadence := .alternate, secondary := (entry 3).colour }))
      ∧ (l.tally.program = false →
        (called → s.lamp k = shown 2)
        ∧ (¬called →
          (l.tally.preview = true → s.lamp k = shown 3)
          ∧ (l.tally.preview = false →
            (l.tally.iso = true → s.lamp k = shown 4)
            ∧ (l.tally.iso = false →
              (warns → s.lamp k = shown 5)
              ∧ (¬warns → s.lamp k =
                { cadence := .steady, primary := (rd s.lmp.palette 0).colour, secondary := (rd s.lmp.palette 0).colour
                  brightness := (max 0 (min 15 (((rd s.lmp.palette 0).brightness : Int) + l.cfg.trim))).toNat }))))))

/-! ## Invariants of every step -/

/-- R14, R36, R39, R50, R97, R98, R114, R117, R120, R127, R132, R150, R164, R169: what every step keeps: the capacities of the
collections; the pending flag of a link that is not eligible clear; the merged tallies those of the slots, disabled slots OFFLINE and
OFFLINE slots empty; the channels of a Spare List distinct and in cells neither BUSY nor OWN; CALL and DUCKED of a disabled destination
clear; one order for a link at most, no want beside it, and the phase that of its place; the planner's work for the RTE that of the
Active order in CHECKING; and no carrier of a band over an enabled window of that band. The last needs the carriers regular, which is
kept too, and the snapshot of an operation for the RTE current where it carries the plan's generation: R17 rules out the 65,536
advances within one operation that alone could break that. -/
def Obligations.BoundsAndTalliesKept : Prop :=
  ∀ s t : State, step s = .next t →
    (s.withinCapacity ∧ s.pendingEligible ∧ s.tallyMerged → t.withinCapacity ∧ t.pendingEligible ∧ t.tallyMerged)
    ∧ (s.sparesDistinct → t.sparesDistinct)
    ∧ (s.callsClear → t.callsClear)
    ∧ (s.ordersPlaced → t.ordersPlaced)
    ∧ (s.ordersPlaced → s.requestsKept → t.requestsKept)
    ∧ (s.ordersPlaced → s.carriersRegular → t.carriersRegular)
    ∧ (s.ordersPlaced → s.requestsKept → s.carriersRegular → s.snapshotCurrent → s.windowsClear → t.windowsClear)

/-- R153, R156: every step keeps that no MIX frame waits for a destination whose link holds it. -/
def Obligations.NoMixWhileHeldKept : Prop :=
  ∀ s t : State, s.noHeldMix → step s = .next t → t.noHeldMix

/-- The invariants hold in the machine right after reset, whatever the number on the address straps. -/
def Obligations.ResetMeetsInvariants : Prop :=
  ∀ s : State, (s = State.reset ∨ ∃ (straps : Byte) (q : List Instr), s = State.cold straps q) →
    s.withinCapacity ∧ s.pendingEligible ∧ s.tallyMerged ∧ s.noHeldMix ∧ s.sparesDistinct ∧ s.callsClear ∧ s.ordersPlaced
      ∧ s.requestsKept ∧ s.carriersRegular ∧ s.snapshotCurrent ∧ s.windowsClear
end

