-- ==== Sys2Proof/Laws/State.lean ====
section
/-! SUPPORT. One lemma for each field and each update of the state: what the update leaves there. -/

namespace Sys2Proof.Machine

section
variable (s : State) (f : Pins → Pins)

@[simp] theorem onPins_pins : (s.onPins f).pins = f s.pins := rfl
@[simp] theorem onPins_rif : (s.onPins f).rif = s.rif := rfl
@[simp] theorem onPins_plan : (s.onPins f).plan = s.plan := rfl
@[simp] theorem onPins_cpl : (s.onPins f).cpl = s.cpl := rfl
@[simp] theorem onPins_swp : (s.onPins f).swp = s.swp := rfl
@[simp] theorem onPins_lmn : (s.onPins f).lmn = s.lmn := rfl
@[simp] theorem onPins_rte : (s.onPins f).rte = s.rte := rfl
@[simp] theorem onPins_tly : (s.onPins f).tly = s.tly := rfl
@[simp] theorem onPins_lmp : (s.onPins f).lmp = s.lmp := rfl
@[simp] theorem onPins_tbm : (s.onPins f).tbm = s.tbm := rfl
@[simp] theorem onPins_mgr : (s.onPins f).mgr = s.mgr := rfl
@[simp] theorem onPins_ringOut : (s.onPins f).ringOut = s.ringOut := rfl
@[simp] theorem onPins_freeCtr : (s.onPins f).freeCtr = s.freeCtr := rfl
@[simp] theorem onPins_pending : (s.onPins f).pending = s.pending := rfl

end

section
variable (s : State) (f : Rif → Rif)

@[simp] theorem onRif_pins : (s.onRif f).pins = s.pins := rfl
@[simp] theorem onRif_rif : (s.onRif f).rif = f s.rif := rfl
@[simp] theorem onRif_plan : (s.onRif f).plan = s.plan := rfl
@[simp] theorem onRif_cpl : (s.onRif f).cpl = s.cpl := rfl
@[simp] theorem onRif_swp : (s.onRif f).swp = s.swp := rfl
@[simp] theorem onRif_lmn : (s.onRif f).lmn = s.lmn := rfl
@[simp] theorem onRif_rte : (s.onRif f).rte = s.rte := rfl
@[simp] theorem onRif_tly : (s.onRif f).tly = s.tly := rfl
@[simp] theorem onRif_lmp : (s.onRif f).lmp = s.lmp := rfl
@[simp] theorem onRif_tbm : (s.onRif f).tbm = s.tbm := rfl
@[simp] theorem onRif_mgr : (s.onRif f).mgr = s.mgr := rfl
@[simp] theorem onRif_ringOut : (s.onRif f).ringOut = s.ringOut := rfl
@[simp] theorem onRif_freeCtr : (s.onRif f).freeCtr = s.freeCtr := rfl
@[simp] theorem onRif_pending : (s.onRif f).pending = s.pending := rfl

end

section
variable (s : State) (f : Plan → Plan)

@[simp] theorem onPlan_pins : (s.onPlan f).pins = s.pins := rfl
@[simp] theorem onPlan_rif : (s.onPlan f).rif = s.rif := rfl
@[simp] theorem onPlan_plan : (s.onPlan f).plan = f s.plan := rfl
@[simp] theorem onPlan_cpl : (s.onPlan f).cpl = s.cpl := rfl
@[simp] theorem onPlan_swp : (s.onPlan f).swp = s.swp := rfl
@[simp] theorem onPlan_lmn : (s.onPlan f).lmn = s.lmn := rfl
@[simp] theorem onPlan_rte : (s.onPlan f).rte = s.rte := rfl
@[simp] theorem onPlan_tly : (s.onPlan f).tly = s.tly := rfl
@[simp] theorem onPlan_lmp : (s.onPlan f).lmp = s.lmp := rfl
@[simp] theorem onPlan_tbm : (s.onPlan f).tbm = s.tbm := rfl
@[simp] theorem onPlan_mgr : (s.onPlan f).mgr = s.mgr := rfl
@[simp] theorem onPlan_ringOut : (s.onPlan f).ringOut = s.ringOut := rfl
@[simp] theorem onPlan_freeCtr : (s.onPlan f).freeCtr = s.freeCtr := rfl
@[simp] theorem onPlan_pending : (s.onPlan f).pending = s.pending := rfl

end

section
variable (s : State) (f : Cpl → Cpl)

@[simp] theorem onCpl_pins : (s.onCpl f).pins = s.pins := rfl
@[simp] theorem onCpl_rif : (s.onCpl f).rif = s.rif := rfl
@[simp] theorem onCpl_plan : (s.onCpl f).plan = s.plan := rfl
@[simp] theorem onCpl_cpl : (s.onCpl f).cpl = f s.cpl := rfl
@[simp] theorem onCpl_swp : (s.onCpl f).swp = s.swp := rfl
@[simp] theorem onCpl_lmn : (s.onCpl f).lmn = s.lmn := rfl
@[simp] theorem onCpl_rte : (s.onCpl f).rte = s.rte := rfl
@[simp] theorem onCpl_tly : (s.onCpl f).tly = s.tly := rfl
@[simp] theorem onCpl_lmp : (s.onCpl f).lmp = s.lmp := rfl
@[simp] theorem onCpl_tbm : (s.onCpl f).tbm = s.tbm := rfl
@[simp] theorem onCpl_mgr : (s.onCpl f).mgr = s.mgr := rfl
@[simp] theorem onCpl_ringOut : (s.onCpl f).ringOut = s.ringOut := rfl
@[simp] theorem onCpl_freeCtr : (s.onCpl f).freeCtr = s.freeCtr := rfl
@[simp] theorem onCpl_pending : (s.onCpl f).pending = s.pending := rfl

end

section
variable (s : State) (f : Swp → Swp)

@[simp] theorem onSwp_pins : (s.onSwp f).pins = s.pins := rfl
@[simp] theorem onSwp_rif : (s.onSwp f).rif = s.rif := rfl
@[simp] theorem onSwp_plan : (s.onSwp f).plan = s.plan := rfl
@[simp] theorem onSwp_cpl : (s.onSwp f).cpl = s.cpl := rfl
@[simp] theorem onSwp_swp : (s.onSwp f).swp = f s.swp := rfl
@[simp] theorem onSwp_lmn : (s.onSwp f).lmn = s.lmn := rfl
@[simp] theorem onSwp_rte : (s.onSwp f).rte = s.rte := rfl
@[simp] theorem onSwp_tly : (s.onSwp f).tly = s.tly := rfl
@[simp] theorem onSwp_lmp : (s.onSwp f).lmp = s.lmp := rfl
@[simp] theorem onSwp_tbm : (s.onSwp f).tbm = s.tbm := rfl
@[simp] theorem onSwp_mgr : (s.onSwp f).mgr = s.mgr := rfl
@[simp] theorem onSwp_ringOut : (s.onSwp f).ringOut = s.ringOut := rfl
@[simp] theorem onSwp_freeCtr : (s.onSwp f).freeCtr = s.freeCtr := rfl
@[simp] theorem onSwp_pending : (s.onSwp f).pending = s.pending := rfl

end

section
variable (s : State) (f : Lmn → Lmn)

@[simp] theorem onLmn_pins : (s.onLmn f).pins = s.pins := rfl
@[simp] theorem onLmn_rif : (s.onLmn f).rif = s.rif := rfl
@[simp] theorem onLmn_plan : (s.onLmn f).plan = s.plan := rfl
@[simp] theorem onLmn_cpl : (s.onLmn f).cpl = s.cpl := rfl
@[simp] theorem onLmn_swp : (s.onLmn f).swp = s.swp := rfl
@[simp] theorem onLmn_lmn : (s.onLmn f).lmn = f s.lmn := rfl
@[simp] theorem onLmn_rte : (s.onLmn f).rte = s.rte := rfl
@[simp] theorem onLmn_tly : (s.onLmn f).tly = s.tly := rfl
@[simp] theorem onLmn_lmp : (s.onLmn f).lmp = s.lmp := rfl
@[simp] theorem onLmn_tbm : (s.onLmn f).tbm = s.tbm := rfl
@[simp] theorem onLmn_mgr : (s.onLmn f).mgr = s.mgr := rfl
@[simp] theorem onLmn_ringOut : (s.onLmn f).ringOut = s.ringOut := rfl
@[simp] theorem onLmn_freeCtr : (s.onLmn f).freeCtr = s.freeCtr := rfl
@[simp] theorem onLmn_pending : (s.onLmn f).pending = s.pending := rfl

end

section
variable (s : State) (f : Rte → Rte)

@[simp] theorem onRte_pins : (s.onRte f).pins = s.pins := rfl
@[simp] theorem onRte_rif : (s.onRte f).rif = s.rif := rfl
@[simp] theorem onRte_plan : (s.onRte f).plan = s.plan := rfl
@[simp] theorem onRte_cpl : (s.onRte f).cpl = s.cpl := rfl
@[simp] theorem onRte_swp : (s.onRte f).swp = s.swp := rfl
@[simp] theorem onRte_lmn : (s.onRte f).lmn = s.lmn := rfl
@[simp] theorem onRte_rte : (s.onRte f).rte = f s.rte := rfl
@[simp] theorem onRte_tly : (s.onRte f).tly = s.tly := rfl
@[simp] theorem onRte_lmp : (s.onRte f).lmp = s.lmp := rfl
@[simp] theorem onRte_tbm : (s.onRte f).tbm = s.tbm := rfl
@[simp] theorem onRte_mgr : (s.onRte f).mgr = s.mgr := rfl
@[simp] theorem onRte_ringOut : (s.onRte f).ringOut = s.ringOut := rfl
@[simp] theorem onRte_freeCtr : (s.onRte f).freeCtr = s.freeCtr := rfl
@[simp] theorem onRte_pending : (s.onRte f).pending = s.pending := rfl

end

section
variable (s : State) (f : Tly → Tly)

@[simp] theorem onTly_pins : (s.onTly f).pins = s.pins := rfl
@[simp] theorem onTly_rif : (s.onTly f).rif = s.rif := rfl
@[simp] theorem onTly_plan : (s.onTly f).plan = s.plan := rfl
@[simp] theorem onTly_cpl : (s.onTly f).cpl = s.cpl := rfl
@[simp] theorem onTly_swp : (s.onTly f).swp = s.swp := rfl
@[simp] theorem onTly_lmn : (s.onTly f).lmn = s.lmn := rfl
@[simp] theorem onTly_rte : (s.onTly f).rte = s.rte := rfl
@[simp] theorem onTly_tly : (s.onTly f).tly = f s.tly := rfl
@[simp] theorem onTly_lmp : (s.onTly f).lmp = s.lmp := rfl
@[simp] theorem onTly_tbm : (s.onTly f).tbm = s.tbm := rfl
@[simp] theorem onTly_mgr : (s.onTly f).mgr = s.mgr := rfl
@[simp] theorem onTly_ringOut : (s.onTly f).ringOut = s.ringOut := rfl
@[simp] theorem onTly_freeCtr : (s.onTly f).freeCtr = s.freeCtr := rfl
@[simp] theorem onTly_pending : (s.onTly f).pending = s.pending := rfl

end

section
variable (s : State) (f : Lmp → Lmp)

@[simp] theorem onLmp_pins : (s.onLmp f).pins = s.pins := rfl
@[simp] theorem onLmp_rif : (s.onLmp f).rif = s.rif := rfl
@[simp] theorem onLmp_plan : (s.onLmp f).plan = s.plan := rfl
@[simp] theorem onLmp_cpl : (s.onLmp f).cpl = s.cpl := rfl
@[simp] theorem onLmp_swp : (s.onLmp f).swp = s.swp := rfl
@[simp] theorem onLmp_lmn : (s.onLmp f).lmn = s.lmn := rfl
@[simp] theorem onLmp_rte : (s.onLmp f).rte = s.rte := rfl
@[simp] theorem onLmp_tly : (s.onLmp f).tly = s.tly := rfl
@[simp] theorem onLmp_lmp : (s.onLmp f).lmp = f s.lmp := rfl
@[simp] theorem onLmp_tbm : (s.onLmp f).tbm = s.tbm := rfl
@[simp] theorem onLmp_mgr : (s.onLmp f).mgr = s.mgr := rfl
@[simp] theorem onLmp_ringOut : (s.onLmp f).ringOut = s.ringOut := rfl
@[simp] theorem onLmp_freeCtr : (s.onLmp f).freeCtr = s.freeCtr := rfl
@[simp] theorem onLmp_pending : (s.onLmp f).pending = s.pending := rfl

end

section
variable (s : State) (f : Tbm → Tbm)

@[simp] theorem onTbm_pins : (s.onTbm f).pins = s.pins := rfl
@[simp] theorem onTbm_rif : (s.onTbm f).rif = s.rif := rfl
@[simp] theorem onTbm_plan : (s.onTbm f).plan = s.plan := rfl
@[simp] theorem onTbm_cpl : (s.onTbm f).cpl = s.cpl := rfl
@[simp] theorem onTbm_swp : (s.onTbm f).swp = s.swp := rfl
@[simp] theorem onTbm_lmn : (s.onTbm f).lmn = s.lmn := rfl
@[simp] theorem onTbm_rte : (s.onTbm f).rte = s.rte := rfl
@[simp] theorem onTbm_tly : (s.onTbm f).tly = s.tly := rfl
@[simp] theorem onTbm_lmp : (s.onTbm f).lmp = s.lmp := rfl
@[simp] theorem onTbm_tbm : (s.onTbm f).tbm = f s.tbm := rfl
@[simp] theorem onTbm_mgr : (s.onTbm f).mgr = s.mgr := rfl
@[simp] theorem onTbm_ringOut : (s.onTbm f).ringOut = s.ringOut := rfl
@[simp] theorem onTbm_freeCtr : (s.onTbm f).freeCtr = s.freeCtr := rfl
@[simp] theorem onTbm_pending : (s.onTbm f).pending = s.pending := rfl

end

section
variable (s : State) (f : Mgr → Mgr)

@[simp] theorem onMgr_pins : (s.onMgr f).pins = s.pins := rfl
@[simp] theorem onMgr_rif : (s.onMgr f).rif = s.rif := rfl
@[simp] theorem onMgr_plan : (s.onMgr f).plan = s.plan := rfl
@[simp] theorem onMgr_cpl : (s.onMgr f).cpl = s.cpl := rfl
@[simp] theorem onMgr_swp : (s.onMgr f).swp = s.swp := rfl
@[simp] theorem onMgr_lmn : (s.onMgr f).lmn = s.lmn := rfl
@[simp] theorem onMgr_rte : (s.onMgr f).rte = s.rte := rfl
@[simp] theorem onMgr_tly : (s.onMgr f).tly = s.tly := rfl
@[simp] theorem onMgr_lmp : (s.onMgr f).lmp = s.lmp := rfl
@[simp] theorem onMgr_tbm : (s.onMgr f).tbm = s.tbm := rfl
@[simp] theorem onMgr_mgr : (s.onMgr f).mgr = f s.mgr := rfl
@[simp] theorem onMgr_ringOut : (s.onMgr f).ringOut = s.ringOut := rfl
@[simp] theorem onMgr_freeCtr : (s.onMgr f).freeCtr = s.freeCtr := rfl
@[simp] theorem onMgr_pending : (s.onMgr f).pending = s.pending := rfl

end

section
variable (s : State) (o : RingOut) (n : Nat)

@[simp] theorem setOut_pins : (s.setOut o).pins = s.pins := rfl
@[simp] theorem setOut_rif : (s.setOut o).rif = s.rif := rfl
@[simp] theorem setOut_plan : (s.setOut o).plan = s.plan := rfl
@[simp] theorem setOut_cpl : (s.setOut o).cpl = s.cpl := rfl
@[simp] theorem setOut_swp : (s.setOut o).swp = s.swp := rfl
@[simp] theorem setOut_lmn : (s.setOut o).lmn = s.lmn := rfl
@[simp] theorem setOut_rte : (s.setOut o).rte = s.rte := rfl
@[simp] theorem setOut_tly : (s.setOut o).tly = s.tly := rfl
@[simp] theorem setOut_lmp : (s.setOut o).lmp = s.lmp := rfl
@[simp] theorem setOut_tbm : (s.setOut o).tbm = s.tbm := rfl
@[simp] theorem setOut_mgr : (s.setOut o).mgr = s.mgr := rfl
@[simp] theorem setOut_ringOut : (s.setOut o).ringOut = o := rfl
@[simp] theorem setOut_freeCtr : (s.setOut o).freeCtr = s.freeCtr := rfl
@[simp] theorem setOut_pending : (s.setOut o).pending = s.pending := rfl
@[simp] theorem useFree_pins : (s.useFree n).pins = s.pins := rfl
@[simp] theorem useFree_rif : (s.useFree n).rif = s.rif := rfl
@[simp] theorem useFree_plan : (s.useFree n).plan = s.plan := rfl
@[simp] theorem useFree_cpl : (s.useFree n).cpl = s.cpl := rfl
@[simp] theorem useFree_swp : (s.useFree n).swp = s.swp := rfl
@[simp] theorem useFree_lmn : (s.useFree n).lmn = s.lmn := rfl
@[simp] theorem useFree_rte : (s.useFree n).rte = s.rte := rfl
@[simp] theorem useFree_tly : (s.useFree n).tly = s.tly := rfl
@[simp] theorem useFree_lmp : (s.useFree n).lmp = s.lmp := rfl
@[simp] theorem useFree_tbm : (s.useFree n).tbm = s.tbm := rfl
@[simp] theorem useFree_mgr : (s.useFree n).mgr = s.mgr := rfl
@[simp] theorem useFree_ringOut : (s.useFree n).ringOut = s.ringOut := rfl
@[simp] theorem useFree_freeCtr : (s.useFree n).freeCtr = s.freeCtr + n := rfl
@[simp] theorem useFree_pending : (s.useFree n).pending = s.pending := rfl

end

section
variable (s : State) (k j : LinkId)

theorem link_onLink (f : Link → Link) : (s.onLink k f).link j = if k = j then f (s.link k) else s.link j := by
  simp only [State.onLink, State.link, onPlan_plan, rd_wr]

@[simp] theorem link_onLink_same (f : Link → Link) : (s.onLink k f).link k = f (s.link k) := by simp [link_onLink]

@[simp] theorem link_onLink_ne (f : Link → Link) (h : k ≠ j) : (s.onLink k f).link j = s.link j := by simp [link_onLink, h]

@[simp] theorem link_onCarrier_same (f : LinkCarrier → LinkCarrier) :
    (s.onCarrier k f).link k = { s.link k with carrier := f (s.link k).carrier } := by simp [State.onCarrier]

@[simp] theorem link_onHealth_same (f : LinkHealth → LinkHealth) :
    (s.onHealth k f).link k = { s.link k with health := f (s.link k).health } := by simp [State.onHealth]

@[simp] theorem advanceGen_links : s.advanceGen.plan.links = s.plan.links := rfl
@[simp] theorem advanceGen_bands : s.advanceGen.plan.bands = s.plan.bands := rfl
@[simp] theorem advanceGen_windows : s.advanceGen.plan.windows = s.plan.windows := rfl
@[simp] theorem advanceGen_gen : s.advanceGen.plan.gen = s.plan.gen + 1 := rfl

end

end Sys2Proof.Machine
end

