-- ==== Sys2Proof/Laws/Arrivals.lean ====
section
/-! SUPPORT. What the shared operations of arrivals, events and responses come to: one lemma for each, which says all it can
do under its condition. -/

namespace Sys2Proof.Machine

/-- A frame that passes its check at a live part is handled by the table its mode selects (R166, R172). -/
theorem receiveFrame_passes {kind : Byte} {h : FrameHead} {p : List Byte} {s : State} (hl : s.live = true)
    (hp : h.passes kind p = true) (f : State → State) :
    receiveFrame kind h p f s =
      (let x := s.rif.handling { kind := kind, dst := h.dst, src := h.src, payload := p }
       let t := s.setOut (x.out (wire kind h.dst h.src p h.check))
       if x.hand then f t else t) := by
  have hg : given (decide (p.length ≤ 240) && decide (h.check = crc16 (body kind h.dst h.src p)))
      ({ kind := kind, dst := h.dst, src := h.src, payload := p } : Frame)
      = some { kind := kind, dst := h.dst, src := h.src, payload := p } := by
    have : (decide (p.length ≤ 240) && decide (h.check = crc16 (body kind h.dst h.src p))) = true := hp
    simp only [given, this, if_true]
  simp only [receiveFrame, hg, receive, hl, if_true]

/-- An observed frame goes on unchanged and is handed to its block (R166). -/
theorem receiveFrame_observed {kind : Byte} {h : FrameHead} {p : List Byte} {s : State}
    (hk : kind = Kind.tally ∨ kind = Kind.cycle) (ho : s.observes kind h p = true) (f : State → State) :
    receiveFrame kind h p f s = f (s.setOut (.forwarded (wire kind h.dst h.src p h.check))) := by
  simp only [State.observes, State.working, State.onRing, Bool.and_eq_true, Bool.not_eq_true', decide_eq_true_eq,
    Option.isNone_iff_eq_none] at ho
  obtain ⟨⟨⟨⟨⟨hl, hq⟩, hm⟩, he⟩, hp⟩, hs⟩ := ho
  rw [receiveFrame_passes hl hp]
  rcases hk with rfl | rfl <;> simp [Rif.handling, hq, hm, he, Rif.normalHandling, hs, Handling.out]

/-- A consumed frame leaves a FILL slot and is handed to its block (R166). -/
theorem receiveFrame_consumed {kind : Byte} {h : FrameHead} {p : List Byte} {s : State}
    (hk : kind ∈ [Kind.cmd, Kind.voice, Kind.meter, Kind.tuned]) (hc : s.consumes kind h p = true) (f : State → State) :
    receiveFrame kind h p f s = f s.handed := by
  simp only [State.consumes, State.working, State.onRing, Bool.and_eq_true, Bool.not_eq_true', decide_eq_true_eq,
    Option.isNone_iff_eq_none] at hc
  obtain ⟨⟨⟨⟨⟨⟨hl, hq⟩, hm⟩, he⟩, hp⟩, hd⟩, hs⟩ := hc
  rw [receiveFrame_passes hl hp]
  simp only [List.mem_cons, List.not_mem_nil, or_false] at hk
  rcases hk with rfl | rfl | rfl | rfl <;>
    simp [Rif.handling, hq, hm, he, Rif.normalHandling, hs, Handling.out, State.handed, hd]

/-- A CMD that is taken goes to its handler (R175). -/
theorem receiveCmd_taken {h : CmdHead} {code : Byte} {params : List Byte} {s : State} (f : Handler)
    (ht : s.takes h code params = true) : receiveCmd h code params f s = f h.asker params s.handed := by
  simp only [State.takes, Bool.and_eq_true, decide_eq_true_eq] at ht
  have hc : s.consumes Kind.cmd h.frame (code :: h.id :: params) = true := ht.1
  have e := receiveFrame_consumed (by simp) hc (manage f { id := h.id, src := h.src } params)
  have hh : ¬ 4 ≤ s.mgr.hold.length := by omega
  rw [show receiveCmd h code params f s
      = receiveFrame Kind.cmd h.frame (code :: h.id :: params) (manage f { id := h.id, src := h.src } params) s from rfl, e]
  simp [manage, Config.holdLimit, State.handed, State.setOut, hh, CmdHead.asker]

/-- Where a CMD is taken, the bypass entry mark is clear. -/
theorem takes_entry {h : CmdHead} {code : Byte} {params : List Byte} {s : State} (ht : s.takes h code params = true) :
    s.rif.entry = none := by
  simp only [State.takes, State.consumes, State.working, Bool.and_eq_true, Option.isNone_iff_eq_none] at ht
  exact ht.1.1.1.1.2

/-- With the bypass entry mark clear the RSP to a CMD is offered (R176). -/
theorem answerCmd_offers {s : State} (he : s.rif.entry = none) (f : Frame) (resume : Bool) :
    answerCmd f resume s = offerRsp f s := by
  simp [answerCmd, he]

/-- An event of a live part acts from a quiet Ring Out. -/
theorem event_live {s : State} (hl : s.live = true) (f : State → State) : event f s = f s.quieted := by
  simp [event, hl, State.quieted]

/-- The event of a departure: served where it is owed, nothing where it is not (R170). -/
theorem queueSpaceEvent_cases (s : State) :
    (s.rif.spaceOwed = false ∧ queueSpaceEvent s = s)
    ∨ (s.rif.spaceOwed = true ∧ queueSpaceEvent s = queueSpace (s.onRif fun r => { r with spaceOwed := false })) := by
  cases h : s.rif.spaceOwed <;> simp [queueSpaceEvent, h]

/-- The control turn: a frame of the Control Queue leaves and its event is owed, or a FILL frame is sent (R167, R168). -/
theorem controlTurn_cases (s : State) :
    (∃ q, nextControl s.rif.ctlQ = some q ∧ controlTurn s = (s.send q.frame).onRif fun r =>
        { r with ctlQ := r.ctlQ.eraseP fun x => x.cls = q.cls, spaceOwed := true })
    ∨ (nextControl s.rif.ctlQ = none ∧ controlTurn s = s.setOut (.sent fillFrame.bytes)) := by
  cases h : nextControl s.rif.ctlQ with
  | none => exact .inr ⟨rfl, by simp [controlTurn, h]⟩
  | some q => exact .inl ⟨q, rfl, by simp [controlTurn, h]⟩

end Sys2Proof.Machine
end

