-- ==== Sys2Proof/Laws/Inner.lean ====
section
/-! SUPPORT. What the inner work of the part (planner, sweep, monitor, retune) can do to the state, said once: `Inner s t` holds
from the state before to the state after every such operation. -/

namespace Sys2Proof.Machine

/-- From `s` to `t` only the records of inner work changed: the Control Queue, the Voice Queue, NOTES_LOST and the RSP hold,
carriers, health and the generation, the planner, the sweep, the wants, the orders, and pending flags of eligible lamps. -/
structure Inner (s t : State) : Prop where
  pins : t.pins = s.pins
  tly : t.tly = s.tly
  tbm : t.tbm = s.tbm
  ringOut : t.ringOut = s.ringOut
  freeCtr : t.freeCtr = s.freeCtr
  pending : t.pending = s.pending
  rif : t.rif = { s.rif with ctlQ := t.rif.ctlQ, voiceQ := t.rif.voiceQ, notesLost := t.rif.notesLost }
  mgr : t.mgr = { s.mgr with hold := t.mgr.hold }
  bands : t.plan.bands = s.plan.bands
  windows : t.plan.windows = s.plan.windows
  cfg : ∀ k, (t.link k).cfg = (s.link k).cfg
  tally : ∀ k, (t.link k).tally = (s.link k).tally
  lmp : t.lmp = { s.lmp with pending := t.lmp.pending }
  pend : ∀ k, rd t.lmp.pending k = true → rd s.lmp.pending k = true ∨ s.eligible k = true
  lost : s.rif.notesLost = true → t.rif.notesLost = true
  capacity : s.withinCapacity → t.withinCapacity

namespace Inner

variable {s t u : State}

theorem refl (s : State) : Inner s s := by
  constructor <;> intros <;> first | rfl | assumption | exact .inl (by assumption)

theorem eligible (h : Inner s t) (k : LinkId) : t.eligible k = s.eligible k := by simp [State.eligible, h.cfg]

theorem trans (a : Inner s t) (b : Inner t u) : Inner s u where
  pins := b.pins.trans a.pins
  tly := b.tly.trans a.tly
  tbm := b.tbm.trans a.tbm
  ringOut := b.ringOut.trans a.ringOut
  freeCtr := b.freeCtr.trans a.freeCtr
  pending := b.pending.trans a.pending
  rif := by have hb := b.rif; rw [a.rif] at hb; exact hb
  mgr := by have hb := b.mgr; rw [a.mgr] at hb; exact hb
  bands := b.bands.trans a.bands
  windows := b.windows.trans a.windows
  cfg k := (b.cfg k).trans (a.cfg k)
  tally k := (b.tally k).trans (a.tally k)
  lmp := by have hb := b.lmp; rw [a.lmp] at hb; exact hb
  pend k hk := by
    rcases b.pend k hk with h | h
    · exact a.pend k h
    · exact .inr (by rw [← a.eligible]; exact h)
  lost h := b.lost (a.lost h)
  capacity h := b.capacity (a.capacity h)

theorem node (h : Inner s t) : t.rif.node = s.rif.node := by rw [h.rif]
theorem mode (h : Inner s t) : t.rif.mode = s.rif.mode := by rw [h.rif]
theorem entry (h : Inner s t) : t.rif.entry = s.rif.entry := by rw [h.rif]
theorem errors (h : Inner s t) : t.rif.errors = s.rif.errors := by rw [h.rif]
theorem settings (h : Inner s t) : t.mgr.settings = s.mgr.settings := by rw [h.mgr]
theorem locked (h : Inner s t) : t.mgr.locked = s.mgr.locked := by rw [h.mgr]
theorem key (h : Inner s t) : t.mgr.key = s.mgr.key := by rw [h.mgr]
theorem normal (h : Inner s t) : t.normal = s.normal := by simp [State.normal, h.mode]

/-! ## Updates of one block -/

theorem onSwp (f : Swp → Swp) : Inner s (s.onSwp f) := by
  constructor <;> intros <;> first | rfl | assumption | exact .inl (by assumption)

theorem onLmn (f : Lmn → Lmn) : Inner s (s.onLmn f) := by
  constructor <;> intros <;> first | rfl | assumption | exact .inl (by assumption)

theorem onRte (f : Rte → Rte) (h : s.rte.deferred.length ≤ 8 → (f s.rte).deferred.length ≤ 8) : Inner s (s.onRte f) := by
  constructor <;> intros <;> first | rfl | assumption | exact .inl (by assumption) | skip
  rename_i c
  exact ⟨c.1, h c.2.1, c.2.2⟩

theorem onCpl (f : Cpl → Cpl) (hl : s.cpl.log.records.length ≤ 16 → (f s.cpl).log.records.length ≤ 16)
    (hs : (∀ b : BandId, (rd s.cpl.spares b).length ≤ 16) → ∀ b : BandId, (rd (f s.cpl).spares b).length ≤ 16) :
    Inner s (s.onCpl f) := by
  constructor <;> intros <;> first | rfl | assumption | exact .inl (by assumption) | skip
  rename_i c
  exact ⟨c.1, c.2.1, hl c.2.2.1, hs c.2.2.2.1, c.2.2.2.2⟩

theorem onRif (f : Rif → Rif)
    (he : f s.rif = { s.rif with ctlQ := (f s.rif).ctlQ, voiceQ := (f s.rif).voiceQ, notesLost := (f s.rif).notesLost })
    (hq : s.rif.ctlQ.length ≤ 24 → (f s.rif).ctlQ.length ≤ 24) (hn : s.rif.notesLost = true → (f s.rif).notesLost = true) :
    Inner s (s.onRif f) := by
  constructor <;> intros <;> first | rfl | assumption | exact .inl (by assumption) | skip
  · exact hn (by assumption)
  · rename_i c
    refine ⟨hq c.1, c.2.1, c.2.2.1, c.2.2.2.1, ?_, c.2.2.2.2.2⟩
    rw [onRif_rif, he]; exact c.2.2.2.2.1

theorem onMgr (f : Mgr → Mgr) (he : f s.mgr = { s.mgr with hold := (f s.mgr).hold })
    (hh : s.mgr.hold.length ≤ 6 → (f s.mgr).hold.length ≤ 6) : Inner s (s.onMgr f) := by
  constructor <;> intros <;> first | rfl | assumption | exact .inl (by assumption) | skip
  rename_i c
  exact ⟨c.1, c.2.1, c.2.2.1, c.2.2.2.1, c.2.2.2.2.1, hh c.2.2.2.2.2⟩

theorem onLmp (f : Lmp → Lmp) (he : f s.lmp = { s.lmp with pending := (f s.lmp).pending })
    (hp : ∀ k, rd (f s.lmp).pending k = true → rd s.lmp.pending k = true ∨ s.eligible k = true) : Inner s (s.onLmp f) := by
  constructor <;> intros <;> first | rfl | assumption | exact hp _ (by assumption)

theorem onLink (k : LinkId) (f : Link → Link) (hc : ∀ l, (f l).cfg = l.cfg) (ht : ∀ l, (f l).tally = l.tally) :
    Inner s (s.onLink k f) := by
  constructor <;> intros <;> first | rfl | assumption | exact .inl (by assumption) | skip
  · rw [link_onLink]; split <;> simp_all
  · rw [link_onLink]; split <;> simp_all

theorem onCarrier (k : LinkId) (f : LinkCarrier → LinkCarrier) : Inner s (s.onCarrier k f) :=
  onLink k _ (fun _ => rfl) (fun _ => rfl)

theorem onHealth (k : LinkId) (f : LinkHealth → LinkHealth) : Inner s (s.onHealth k f) :=
  onLink k _ (fun _ => rfl) (fun _ => rfl)

theorem advanceGen : Inner s s.advanceGen := by
  constructor <;> intros <;> first | rfl | assumption | exact .inl (by assumption)

theorem forEach {α : Type} (l : List α) (f : α → State → State) (h : ∀ a s, Inner s (f a s)) (s : State) :
    Inner s (forEach l f s) := by
  unfold Machine.forEach
  induction l generalizing s with
  | nil => exact refl s
  | cons a l ih => exact (h a s).trans (ih _)

end Inner

/-! ## Admission (R169) -/

theorem dropYoungestNote_length {q : List Queued} (h : q.any Queued.isNote = true) :
    (dropYoungestNote q).length = q.length - 1 := by
  unfold dropYoungestNote
  obtain ⟨x, hx, hn⟩ := List.any_eq_true.1 h
  rw [List.length_reverse, List.length_eraseP_of_mem (List.mem_reverse.2 hx) hn, List.length_reverse]

/-- Everything an admission to the Control Queue can do: it answers with a longer queue, or one in which the youngest NOTE gave
its place. -/
theorem Rif.admitted_spec {r r' : Rif} {q : Queued} (h : r.admitted q = some r') :
    (r.ctlQ.length < 24 ∧ r' = { r with ctlQ := r.ctlQ ++ [q] })
    ∨ (24 ≤ r.ctlQ.length ∧ r.ctlQ.any Queued.isNote = true
        ∧ r' = { r with ctlQ := dropYoungestNote r.ctlQ ++ [q], notesLost := true }) := by
  unfold Rif.admitted at h
  by_cases hl : r.ctlQ.length < Config.controlCapacity
  · rw [if_pos hl] at h
    exact .inl ⟨hl, (Option.some.inj h).symm⟩
  · rw [if_neg hl] at h
    by_cases ha : r.ctlQ.any Queued.isNote = true
    · rw [if_pos ha] at h
      exact .inr ⟨by simp only [Config.controlCapacity] at hl; omega, ha, (Option.some.inj h).symm⟩
    · rw [if_neg ha] at h
      cases h

theorem admitted_inner {s : State} {r : Rif} {q : Queued} (h : s.rif.admitted q = some r) : Inner s (s.onRif fun _ => r) := by
  rcases Rif.admitted_spec h with ⟨hl, rfl⟩ | ⟨hl, ha, rfl⟩
  · exact Inner.onRif _ rfl (fun _ => by simp; omega) id
  · exact Inner.onRif _ rfl (fun hc => by simp [dropYoungestNote_length ha]; omega) (fun _ => rfl)

theorem note_inner (kind : NoteKind) (fields : List Byte) (s : State) : Inner s (note kind fields s) := by
  unfold note
  by_cases h : s.notesOn = true
  · simp only [h, if_true, Rif.admitNote, Config.controlCapacity]
    by_cases hl : s.rif.ctlQ.length < 24
    · exact Inner.onRif _ (by simp [hl]) (fun _ => by simp [hl]) (by simp [hl])
    · exact Inner.onRif _ (by simp [hl]) (fun h => by simpa [hl] using h) (by simp [hl])
  · simp only [h]
    exact Inner.onRif _ rfl id id

/-- Everything the keeping of an RSP can do: one of at most six places taken, or nothing. -/
theorem Mgr.keep_spec (m : Mgr) (f : Frame) :
    (m.hold.length < 6 ∧ m.keep f = { m with hold := m.hold ++ [f] }) ∨ (6 ≤ m.hold.length ∧ m.keep f = m) := by
  unfold Mgr.keep
  by_cases h : m.hold.length < Config.holdCapacity
  · exact .inl ⟨h, if_pos h⟩
  · exact .inr ⟨Nat.le_of_not_lt h, if_neg h⟩

theorem offerRsp_inner (f : Frame) (s : State) : Inner s (offerRsp f s) := by
  unfold offerRsp
  split
  · exact admitted_inner (by assumption)
  · rcases Mgr.keep_spec s.mgr f with ⟨h, e⟩ | ⟨h, e⟩
    · exact Inner.onMgr _ (by rw [e]) (fun _ => by rw [e]; simp; omega)
    · exact Inner.onMgr _ (by rw [e]) (fun c => by rw [e]; exact c)

/-! ## Lamps -/

theorem lampPendWhere_inner (p : LinkId → Bool) (s : State) : Inner s (lampPendWhere p s) := by
  refine Inner.onLmp _ rfl fun k h => ?_
  simp only [rd_tab, Bool.or_eq_true, Bool.and_eq_true] at h
  exact h.imp id And.right

theorem lampPendAll_inner (s : State) : Inner s (lampPendAll s) := lampPendWhere_inner _ s

theorem lampPend_inner (k : LinkId) (s : State) : Inner s (lampPend k s) := by
  refine Inner.onLmp _ ?_ fun j h => ?_
  · split <;> rfl
  · split at h
    · rw [rd_wr] at h
      split at h
      · next e hk => exact .inr (hk ▸ e)
      · exact .inl h
    · exact .inl h

theorem callReport_inner (p : DestId → Bool) (s : State) : Inner s (callReport p s) := lampPendWhere_inner _ s

theorem mixReport_inner (k : LinkId) (s : State) : Inner s (mixReport k s) := by
  unfold mixReport
  split
  · exact Inner.onRif _ rfl id id
  · exact Inner.refl s

theorem withdrawMix_inner (d : DestId) (s : State) : Inner s (withdrawMix d s) := Inner.onRif _ rfl id id

theorem phaseReport_inner (k : LinkId) (s : State) : Inner s (phaseReport k s) :=
  (mixReport_inner k s).trans (lampPend_inner k _)

theorem setPhase_inner (k : LinkId) (p : Phase) (s : State) : Inner s (setPhase k p s) :=
  (Inner.onCarrier k _).trans (phaseReport_inner k _)

/-! ## Planner -/

theorem append_records (l : ConflictLog) (c : Conflict) (h : l.records.length ≤ 16) : (l.append c).records.length ≤ 16 := by
  unfold ConflictLog.append
  by_cases hl : l.records.length < Config.listCapacity
  · rw [if_pos hl]
    simp only [Config.listCapacity] at hl
    simp only [List.length_append, List.length_singleton]
    omega
  · rw [if_neg hl]
    exact h

theorem foldl_append_records (cs : List Conflict) (l : ConflictLog) (h : l.records.length ≤ 16) :
    (cs.foldl ConflictLog.append l).records.length ≤ 16 := by
  induction cs generalizing l with
  | nil => exact h
  | cons c cs ih => exact ih _ (append_records l c h)

theorem startLog_records (op : ActiveOp) (l : ConflictLog) (h : l.records.length ≤ 16) :
    (op.startLog l).records.length ≤ 16 := by
  unfold ActiveOp.startLog
  split
  · simp [ConflictLog.empty]
  · exact h

theorem beginOp_inner (w : Work) (s : State) : Inner s (beginOp w s) := by
  unfold beginOp
  exact Inner.onCpl _ (fun h => startLog_records _ _ h) id

theorem answerOp_inner (op : ActiveOp) (st : RspStatus) (r : List Byte) (s : State) : Inner s (answerOp op st r s) := by
  unfold answerOp
  split
  · exact offerRsp_inner _ _
  · exact Inner.refl s

theorem nextWork_keeps {c c' : Cpl} {w : Work} (h : c.nextWork = some (w, c')) :
    c'.log = c.log ∧ c'.spares = c.spares := by
  unfold Cpl.nextWork at h
  split at h
  · cases h; exact ⟨rfl, rfl⟩
  · split at h
    · cases h; exact ⟨rfl, rfl⟩
    · obtain ⟨b, -, h⟩ := Option.map_eq_some_iff.1 h
      cases h; exact ⟨rfl, rfl⟩

theorem setIdle_inner (s : State) : Inner s (s.onCpl fun c => { c with active := none }) := Inner.onCpl _ id id

theorem arbitrate_inner (n : Nat) (s : State) : Inner s (arbitrate n s) := by
  induction n generalizing s with
  | zero => exact setIdle_inner s
  | succ n ih =>
    unfold arbitrate
    split
    · exact setIdle_inner s
    · next w c h =>
      obtain ⟨hl, hs⟩ := nextWork_keeps h
      have a : Inner s (beginOp w (s.onCpl fun _ => c)) :=
        (Inner.onCpl _ (by rw [hl]; exact id) (by rw [hs]; exact id)).trans (beginOp_inner _ _)
      simp only
      split
      · split
        · exact a.trans ((answerOp_inner _ _ _ _).trans (ih _))
        · exact a
      · exact a

theorem arbiterNext_inner (s : State) : Inner s (arbiterNext s) := arbitrate_inner 8 s

theorem requestRte_inner (r : RteRequest) (s : State) : Inner s (requestRte r s) := by
  unfold requestRte
  split
  · exact beginOp_inner _ _
  · exact Inner.onCpl _ id id

theorem setRefillFlag_inner (b : BandId) (s : State) : Inner s (setRefillFlag b s) := by
  unfold setRefillFlag
  have a : Inner s (s.onCpl fun c => { c with flags := wr c.flags b true }) := Inner.onCpl _ id id
  simp only
  split
  · exact a.trans (arbiterNext_inner _)
  · exact a

theorem requestMgr_inner {r : MgrRequest} {s t : State} (h : requestMgr r s = some t) : Inner s t := by
  unfold requestMgr at h
  split at h
  · have a := beginOp_inner (.mgr r) s
    simp only at h
    split at h
    · cases h
      split
      · exact a.trans ((answerOp_inner _ _ _ _).trans (arbiterNext_inner _))
      · exact a
    · cases h; exact a
  · split at h
    · cases h; exact Inner.onCpl _ id id
    · cases h

theorem onSpares_inner (b : BandId) (f : List Spare → List Spare) (hf : ∀ l, l.length ≤ 16 → (f l).length ≤ 16) (s : State) :
    Inner s (onSpares b f s) := by
  refine Inner.onCpl _ id fun h j => ?_
  rw [rd_wr]
  split
  · next e => subst e; exact hf _ (h b)
  · exact h j

theorem spareRemoveCells_inner (b : BandId) (p : Nat → Bool) (s : State) : Inner s (spareRemoveCells b p s) :=
  onSpares_inner b _ (fun _ h => (List.length_filter_le _ _).trans h) s

theorem planCommit_inner (b : BandId) (n : Option Nat) (s : State) : Inner s (planCommit b n s) := by
  unfold planCommit
  split
  · exact (onSpares_inner b _ (fun _ h => (List.length_filter_le _ _).trans h) s).trans (setRefillFlag_inner _ _)
  · exact setRefillFlag_inner _ _

theorem emptySpares_inner (b : BandId) (s : State) : Inner s (emptySpares b s) :=
  (onSpares_inner b _ (fun _ _ => Nat.zero_le _) s).trans (Inner.onCpl _ id id)

theorem logConflict_inner (op : ActiveOp) (s : State) : Inner s (logConflict op s) := by
  unfold logConflict
  split
  · exact Inner.onCpl _ (append_records _ _) id
  · exact Inner.refl s

theorem finishLog_inner (op : ActiveOp) (v : Verdict) (s : State) : Inner s (finishLog op v s) :=
  Inner.onCpl _ (foldl_append_records _ _) id

theorem searchEntry_inner (s : State) : Inner s (searchEntry s) := by
  unfold searchEntry
  split
  · split
    · split
      · exact (onSpares_inner _ _ (fun _ h => (List.length_filter_le _ _).trans h) s).trans (Inner.onCpl _ id id)
      · exact Inner.refl s
    · exact Inner.refl s
  · exact Inner.refl s

theorem searchRun_inner (n : Nat) (s : State) : Inner s (searchRun n s) := by
  induction n generalizing s with
  | zero => exact Inner.refl s
  | succ n ih => exact (searchEntry_inner s).trans (ih _)

theorem refillWalk_length (snap : Snapshot) (e : BandEntry) (b : Nat) (l : List (Nat × Int)) (n : Nat) :
    (refillWalk snap e b l n).length ≤ n := by
  induction l generalizing n with
  | nil => simp [refillWalk]
  | cons x l ih =>
    cases n with
    | zero => simp [refillWalk]
    | succ n =>
      unfold refillWalk
      split
      · simpa using ih n
      · exact ih (n + 1)

theorem refillCandidates_length (op : ActiveOp) : (refillCandidates op).length ≤ 16 := by
  unfold refillCandidates
  split
  · exact refillWalk_length _ _ _ _ _
  · simp

theorem completeRefill_inner (op : ActiveOp) (s : State) : Inner s (completeRefill op s) := by
  unfold completeRefill
  simp only
  split
  · next b hb =>
    refine Inner.trans (Inner.trans (Inner.onCpl _ id id) (onSpares_inner b _ (fun l h => ?_) _))
      ((answerOp_inner _ _ _ _).trans (arbiterNext_inner _))
    split
    · exact h
    · exact (List.length_filter_le _ _).trans (refillCandidates_length op)
  · exact (answerOp_inner _ _ _ _).trans (arbiterNext_inner _)

theorem completeAudit_inner (op : ActiveOp) (s : State) : Inner s (completeAudit op s) :=
  (finishLog_inner _ _ _).trans ((answerOp_inner _ _ _ _).trans (arbiterNext_inner _))

theorem completeSignature_inner (op : ActiveOp) (s : State) : Inner s (completeSignature op s) :=
  (answerOp_inner _ _ _ _).trans (arbiterNext_inner _)

theorem plannerBypass_inner (s : State) : Inner s (plannerBypass s) := Inner.onCpl _ id id

theorem plannerRestart_inner (s : State) : Inner s (plannerRestart s) :=
  Inner.onCpl _ (fun _ => by decide) (fun _ b => by simp [Cpl.cold])

theorem sendBypassed_inner (l : List HeldAnswer) (s : State) : Inner s (sendBypassed l s) :=
  Inner.forEach l _ (fun _ _ => offerRsp_inner _ _) s

theorem plannerResume_inner (s : State) : Inner s (plannerResume s) := by
  unfold plannerResume
  split
  · exact arbiterNext_inner s
  · exact Inner.refl s

/-! ## Sweep -/

theorem remarkCells_inner (b : BandId) (p : Span → Bool) (s : State) : Inner s (remarkCells b p s) := by
  unfold remarkCells
  exact (Inner.onSwp _).trans (spareRemoveCells_inner _ _ _)

/-- What becomes of a PROBE frame is inner work. -/
abbrev InnerOffer (offer : ProbeOffer) : Prop := ∀ h s, Inner s (offer h s)

theorem keepProbe_inner : InnerOffer keepProbe := fun _ _ => Inner.onSwp _

theorem offerProbe_inner : InnerOffer offerProbe := by
  intro h s
  unfold offerProbe
  split
  · exact (admitted_inner (by assumption)).trans (Inner.onSwp _)
  · exact Inner.onSwp _

theorem probeCell_inner {offer : ProbeOffer} (ho : InnerOffer offer) (j pos : Nat) (s : State) :
    Inner s (probeCell offer j pos s) := by
  unfold probeCell
  exact (Inner.onSwp _).trans (ho _ _)

theorem passEnd_inner (s : State) : Inner s (passEnd s) := by
  unfold passEnd
  exact ((Inner.onSwp _).trans (note_inner _ _ _)).trans (setRefillFlag_inner _ _)

theorem discardReport_inner (s : State) : Inner s (discardReport s) := by
  unfold discardReport
  split
  · exact (Inner.onSwp _).trans (Inner.onRif _ rfl id (fun _ => rfl))
  · exact Inner.refl s

theorem sweepTake_inner {offer : ProbeOffer} (ho : InnerOffer offer) (n : Nat) (s : State) :
    Inner s (sweepTake offer n s) := by
  induction n generalizing s with
  | zero => exact Inner.refl s
  | succ n ih =>
    unfold sweepTake
    split
    · exact probeCell_inner ho _ _ _
    · have a := passEnd_inner s
      simp only
      split
      · exact a.trans (Inner.onSwp _)
      · exact a.trans (Inner.onSwp _)
      · exact a.trans (Inner.onSwp _)
      · split
        · exact a.trans (Inner.onSwp _)
        · exact a.trans ((Inner.onSwp _).trans (ih _))

theorem sweepOnBy_inner {offer : ProbeOffer} (ho : InnerOffer offer) (s : State) : Inner s (sweepOnBy offer s) := by
  unfold sweepOnBy
  simp only
  split
  · exact (Inner.onSwp _).trans (Inner.onSwp _)
  · exact (Inner.onSwp _).trans (sweepTake_inner ho _ _)

theorem sweepOn_inner (s : State) : Inner s (sweepOn s) := sweepOnBy_inner offerProbe_inner s

theorem clearProbe_inner (s : State) : Inner s (clearProbe s) := Inner.onSwp _

theorem ownRecompute_inner (b : BandId) (p : Span → Bool) (s : State) : Inner s (ownRecompute b p s) := by
  have a := remarkCells_inner b p s
  have c : ∀ u, Inner u (sweepOn (clearProbe u)) := fun u => (clearProbe_inner u).trans (sweepOn_inner _)
  unfold ownRecompute
  simp only
  split
  · split
    · split
      · exact a.trans (c _)
      · exact a
    · split
      · exact a.trans (c _)
      · exact a
    · exact a
  · exact a

theorem ownRecomputeLink_inner (k : LinkId) (spans : List Span) (s : State) : Inner s (ownRecomputeLink k spans s) :=
  ownRecompute_inner _ _ _

theorem sweepStart_inner (s : State) : Inner s (sweepStart s) :=
  ((Inner.onSwp _).trans (Inner.onSwp _)).trans (sweepTake_inner offerProbe_inner _ _)

theorem sweepRestart_inner (s : State) : Inner s (sweepRestart s) :=
  (((clearProbe_inner s).trans (discardReport_inner _)).trans (Inner.onSwp _)).trans (sweepTake_inner offerProbe_inner _ _)

theorem sweepTrigger_inner (s : State) : Inner s (sweepTrigger s) := by
  unfold sweepTrigger
  split
  · exact sweepStart_inner s
  · split
    · exact sweepRestart_inner s
    · exact Inner.refl s
  · split
    · exact sweepRestart_inner s
    · exact Inner.refl s
  · split
    · split
      · exact (Inner.onSwp _).trans (sweepTake_inner offerProbe_inner _ _)
      · exact sweepTake_inner offerProbe_inner _ _
    · exact Inner.refl s

theorem sweepAutoTrigger_inner (s : State) : Inner s (sweepAutoTrigger s) := by
  unfold sweepAutoTrigger
  split
  · split
    · exact Inner.refl s
    · exact sweepTrigger_inner s
  · exact Inner.refl s

theorem degradeReport_inner (k : LinkId) (s : State) : Inner s (degradeReport k s) := by
  unfold degradeReport
  split
  · exact sweepAutoTrigger_inner s
  · exact Inner.refl s

theorem intervalExpiry_inner (s : State) : Inner s (intervalExpiry s) := by
  unfold intervalExpiry
  split
  · exact sweepAutoTrigger_inner s
  · exact Inner.refl s

theorem sweepHalt_inner (s : State) : Inner s (sweepHalt s) :=
  ((clearProbe_inner s).trans (discardReport_inner _)).trans (Inner.onSwp _)

theorem offerReport_inner {offer : ProbeOffer} (ho : InnerOffer offer) (f : Frame) (s : State) :
    Inner s (offerReport offer f s) := by
  unfold offerReport
  split
  · next r h =>
    refine Inner.trans (Inner.trans ?_ (Inner.onSwp _)) (sweepOnBy_inner ho _)
    unfold Rif.admitCell at h
    by_cases hl : s.rif.ctlQ.length < Config.controlCapacity
    · rw [if_pos hl] at h
      cases h
      simp only [Config.controlCapacity] at hl
      exact Inner.onRif _ rfl (fun _ => by simp; omega) id
    · rw [if_neg hl] at h
      cases h
  · exact Inner.onSwp _

theorem gradeProbe_inner (p : Probe) (l : Int) (s : State) : Inner s (gradeProbe p l s) := by
  have a : ∀ f q, Inner s (spareRemoveCells p.band q ((clearProbe s).onSwp f)) := fun f q =>
    ((clearProbe_inner s).trans (Inner.onSwp f)).trans (spareRemoveCells_inner p.band q _)
  unfold gradeProbe
  extract_lets _ _ _ u
  have hu : Inner s u := a _ _
  split
  · exact hu.trans (offerReport_inner offerProbe_inner _ _)
  · exact hu.trans (sweepOn_inner _)

theorem takeProbeMeter_inner (src : Node) (l : List Byte) (s : State) : Inner s (takeProbeMeter src l s) := by
  unfold takeProbeMeter
  split
  · split
    · exact gradeProbe_inner _ _ _
    · exact Inner.refl s
  · exact Inner.refl s

theorem probeTimeout_inner (s : State) : Inner s (probeTimeout s) := by
  unfold probeTimeout
  split
  · simp only
    have a : Inner s ((clearProbe s).onSwp fun w =>
        { w with timeouts := w.timeouts + 1, passTimeouts := w.passTimeouts + 1 }) :=
      (clearProbe_inner s).trans (Inner.onSwp _)
    split
    · exact a.trans ((Inner.onSwp _).trans (note_inner _ _ _))
    · exact a.trans (sweepOn_inner _)
  · exact Inner.refl s

theorem ownRecomputeAll_inner (s : State) : Inner s (ownRecomputeAll s) :=
  Inner.forEach _ _ (fun _ _ => remarkCells_inner _ _ _) s

/-! ## Monitor -/

theorem setWant_inner (k : LinkId) (w : Option Reason) (s : State) : Inner s (setWant k w s) := Inner.onLmn _

theorem startSilence_inner (k : LinkId) (s : State) : Inner s (startSilence k s) := Inner.onHealth k _

theorem setGrade_inner (k : LinkId) (g : Health) (s : State) : Inner s (setGrade k g s) := Inner.onHealth k _

theorem healthNote_inner (k : LinkId) (a b : Health) (s : State) : Inner s (healthNote k a b s) := by
  unfold healthNote
  split
  · exact note_inner _ _ _
  · exact Inner.refl s

theorem healthDegrade_inner (k : LinkId) (a b : Health) (s : State) : Inner s (healthDegrade k a b s) := by
  unfold healthDegrade
  split
  · exact degradeReport_inner _ _
  · exact Inner.refl s

theorem healthLamp_inner (k : LinkId) (a b : Health) (s : State) : Inner s (healthLamp k a b s) := by
  unfold healthLamp
  split
  · exact lampPend_inner _ _
  · exact Inner.refl s

theorem healthCommit_inner (k : LinkId) (s : State) : Inner s (healthCommit k s) :=
  ((Inner.onHealth k _).trans (startSilence_inner _ _)).trans (healthLamp_inner _ _ _ _)

theorem healthNone_inner (k : LinkId) (s : State) : Inner s (healthNone k s) :=
  ((Inner.onHealth k _).trans (setWant_inner _ _ _)).trans (healthLamp_inner _ _ _ _)

theorem healthLost_inner (k : LinkId) (s : State) : Inner s (healthLost k s) :=
  ((setGrade_inner _ _ _).trans (healthDegrade_inner _ _ _ _)).trans (healthLamp_inner _ _ _ _)

/-! ## Retune -/

theorem tuneAccepted_inner (s : State) : Inner s (tuneAccepted s) := by
  unfold tuneAccepted
  split
  · exact Inner.onRte _ id
  · exact Inner.refl s

theorem offerTunes_inner (l : List HeldTune) (s : State) : Inner s (offerTunes l s) := by
  induction l generalizing s with
  | nil => exact Inner.refl s
  | cons h l ih =>
    unfold offerTunes
    split
    · refine (admitted_inner (by assumption)).trans ?_
      simp only
      split
      · exact (tuneAccepted_inner _).trans (ih _)
      · exact ih _
    · exact (Inner.onRte _ id).trans (ih _)

theorem tuneBatch_inner (o : Order) (nodes : List Node) (c : Nat) (a : Bool) (s : State) : Inner s (tuneBatch o nodes c a s) := by
  unfold tuneBatch
  exact (Inner.onRte _ id).trans (offerTunes_inner _ _)

theorem endBatch_inner (s : State) : Inner s (endBatch s) := Inner.onRte _ id

theorem closeBatch_inner (s : State) : Inner s (closeBatch s) := Inner.onRte _ id

theorem launch_inner (o : Order) (c : Chosen) (s : State) : Inner s (launch o c s) := by
  unfold launch
  exact ((Inner.onRte _ id).trans (setPhase_inner _ _ _)).trans
    ((Inner.advanceGen.trans (ownRecomputeLink_inner _ _ _)).trans (tuneBatch_inner _ _ _ _ _))

theorem fillStaged_inner {s t : State} (h : fillStaged s = some t) : Inner s t := by
  unfold fillStaged at h
  split at h
  · cases h
    exact Inner.onRte _ (fun h => (List.length_filter_le _ _).trans h)
  · split at h
    · cases h
      exact ((setWant_inner _ _ _).trans (Inner.onRte _ id)).trans (setPhase_inner _ _ _)
    · cases h

theorem startOrder_inner (o : Order) (s : State) : Inner s (startOrder o s) := by
  unfold startOrder
  have a : Inner s (s.onRte fun r => { r with staged := none, active := some { o with confirms := 0 } }) := Inner.onRte _ id
  simp only
  split
  · exact a.trans (launch_inner _ _ _)
  · exact a.trans (launch_inner _ _ _)
  · exact a.trans (launch_inner _ _ _)
  · exact a.trans ((setPhase_inner _ _ _).trans (requestRte_inner _ _))
  · exact a.trans ((setPhase_inner _ _ _).trans (requestRte_inner _ _))

theorem settle_inner (n : Nat) (s : State) : Inner s (settle n s) := by
  induction n generalizing s with
  | zero => exact Inner.refl s
  | succ n ih =>
    unfold settle
    split
    · split
      · split
        · exact (fillStaged_inner (by assumption)).trans (ih _)
        · exact Inner.refl s
      · split
        · exact Inner.refl s
        · split
          · exact (startOrder_inner _ _).trans (ih _)
          · split
            · next h =>
              simp only [Config.deferredCapacity] at h
              refine Inner.trans ?_ (ih _)
              unfold deferOrder
              exact (Inner.onRte _ (fun _ => by simp; omega)).trans (note_inner _ _ _)
            · exact Inner.refl s
    · exact Inner.refl s

theorem rteSettle_inner (s : State) : Inner s (rteSettle s) := settle_inner _ _

theorem leaveActive_inner (k : LinkId) (s : State) : Inner s (leaveActive k s) := (Inner.onCarrier k _).trans (Inner.onRte _ id)

theorem failedNote_inner (o : Order) (c : Cause) (n : Nat) (s : State) : Inner s (failedNote o c n s) := note_inner _ _ _

theorem failOrder_inner (o : Order) (c : Cause) (n : Nat) (s : State) : Inner s (failOrder o c n s) :=
  ((leaveActive_inner _ _).trans (phaseReport_inner _ _)).trans ((failedNote_inner _ _ _ _).trans (rteSettle_inner _))

theorem commit_inner (o : Order) (c : Chosen) (s : State) : Inner s (commit o c s) := by
  unfold commit
  extract_lets k old s1 s2 s3 s4 s5 s6
  have h2 : Inner s s2 := ((closeBatch_inner s).trans (Inner.onCarrier _ _)).trans ((leaveActive_inner _ _).trans Inner.advanceGen)
  have h4 : Inner s2 s4 := (ownRecomputeLink_inner _ _ _).trans (planCommit_inner _ _ _)
  have h5 : Inner s4 s5 := by
    cases c
    · exact healthCommit_inner _ _
    · exact healthNone_inner _ _
  exact (h2.trans h4).trans (h5.trans ((note_inner _ _ _).trans ((phaseReport_inner _ _).trans (rteSettle_inner _))))

theorem loseCarrier_inner (o : Order) (c : Cause) (l : List Span) (s : State) : Inner s (loseCarrier o c l s) := by
  unfold loseCarrier
  extract_lets k s1 s2 s3
  have h1 : Inner s s1 := ((Inner.onCarrier _ _).trans (leaveActive_inner _ _)).trans Inner.advanceGen
  have h : Inner s1 (if l.isEmpty then s1 else ownRecomputeLink k l s1) := by
    split
    · exact Inner.refl _
    · exact ownRecomputeLink_inner _ _ _
  exact (h1.trans (h.trans (healthLost_inner _ _))).trans
    ((note_inner _ _ _).trans ((phaseReport_inner _ _).trans (rteSettle_inner _)))

theorem failTuning_inner (o : Order) (c : Cause) (s : State) : Inner s (failTuning o c s) := by
  unfold failTuning
  extract_lets k s1 s2 nodes
  have h2 : Inner s s2 := ((endBatch_inner s).trans (Inner.onCarrier _ _)).trans
    (Inner.advanceGen.trans (ownRecomputeLink_inner _ _ _))
  split
  · exact h2.trans (loseCarrier_inner _ _ _ _)
  · split
    · exact h2.trans ((tuneBatch_inner _ _ _ _ _).trans (failOrder_inner _ _ _ _))
    · exact h2.trans ((phaseReport_inner _ _).trans (tuneBatch_inner _ _ _ _ _))

theorem endRevert_inner (o : Order) (s : State) : Inner s (endRevert o s) := by
  unfold endRevert
  simp only
  exact ((((closeBatch_inner s).trans (Inner.onCarrier _ _)).trans (leaveActive_inner _ _)).trans Inner.advanceGen).trans
    ((ownRecomputeLink_inner _ _ _).trans ((failedNote_inner _ _ _ _).trans ((phaseReport_inner _ _).trans (rteSettle_inner _))))

theorem failRevert_inner (o : Order) (s : State) : Inner s (failRevert o s) := (endBatch_inner s).trans (loseCarrier_inner _ _ _ _)

theorem tunedOk_inner (o : Order) (p : Phase) (src : Node) (s : State) : Inner s (tunedOk o p src s) := by
  unfold tunedOk
  have a : Inner s (s.onRte fun r => { r with active := some (o.mark src) }) := Inner.onRte _ id
  simp only
  split
  · split
    · exact a.trans (commit_inner _ _ _)
    · exact a.trans (endRevert_inner _ _)
    · exact a
  · exact a

theorem tunedFail_inner (o : Order) (p : Phase) (s : State) : Inner s (tunedFail o p s) := by
  unfold tunedFail
  split
  · exact failTuning_inner _ _ _
  · exact failRevert_inner _ _
  · exact Inner.refl s

theorem takeTuned_inner (src : Node) (l : List Byte) (s : State) : Inner s (takeTuned src l s) := by
  unfold takeTuned
  split
  · simp only
    split
    · split
      · exact tunedOk_inner _ _ _ _
      · split
        · exact tunedFail_inner _ _ _
        · exact Inner.refl s
    · exact Inner.refl s
  · exact Inner.refl s

theorem tuneExpiry_inner (s : State) : Inner s (tuneExpiry s) := by
  unfold tuneExpiry
  split
  · split
    · exact failTuning_inner _ _ _
    · exact failRevert_inner _ _
    · exact Inner.refl s
  · exact Inner.refl s

theorem resultForOrder_inner (o : Order) (r : PlannerResult) (s : State) : Inner s (resultForOrder o r s) := by
  unfold resultForOrder
  split
  · exact failOrder_inner _ _ _ _
  · simp only
    split
    · exact launch_inner _ _ _
    · split
      · exact (Inner.onRte _ id).trans (requestRte_inner _ _)
      · exact failOrder_inner _ _ _ _

theorem takeResult_inner (r : PlannerResult) (s : State) : Inner s (takeResult r s) := by
  unfold takeResult
  split
  · exact Inner.onRte _ id
  · split
    · split
      · exact resultForOrder_inner _ _ _
      · exact Inner.refl s
    · exact Inner.refl s

theorem stageOrder_inner (o : Order) (s : State) : Inner s (stageOrder o s) :=
  ((setWant_inner _ _ _).trans (Inner.onRte _ id)).trans ((setPhase_inner _ _ _).trans (rteSettle_inner _))

theorem removeWaiting_inner (k : LinkId) (s : State) : Inner s (removeWaiting k s) :=
  (Inner.onRte _ (fun h => (List.length_filter_le _ _).trans h)).trans (setPhase_inner _ _ _)

theorem withdrawRequest_inner (s : State) : Inner s (withdrawRequest s) := by
  unfold withdrawRequest
  split
  · exact Inner.onCpl _ id id
  · split
    · split
      · exact Inner.onRte _ id
      · exact Inner.refl s
    · exact Inner.refl s

theorem withdrawRecovered_inner (k : LinkId) (s : State) : Inner s (withdrawRecovered k s) := by
  unfold withdrawRecovered
  split
  · split
    · exact ((removeWaiting_inner _ _).trans (note_inner _ _ _)).trans (rteSettle_inner _)
    · exact Inner.refl s
  · exact Inner.refl s

theorem rteTally_inner (p q : LinkId → Bool) (s : State) : Inner s (rteTally p q s) := by
  unfold rteTally
  split
  · exact rteSettle_inner s
  · exact Inner.refl s

theorem idlePhases_inner (s : State) : Inner s (idlePhases s) := Inner.forEach _ _ (fun _ _ => setPhase_inner _ _ _) s

theorem abandonOrders_inner (s : State) : Inner s (abandonOrders s) := by
  unfold abandonOrders
  extract_lets active s1 s2
  have h1 : Inner s s1 := Inner.onRte _ (fun _ => Nat.zero_le _)
  have h2 : Inner s1 s2 := by
    unfold s2
    cases active
    · exact Inner.refl _
    · simp only
      split
      · exact ((Inner.onCarrier _ _).trans Inner.advanceGen).trans (ownRecomputeLink_inner _ _ _)
      · exact Inner.refl _
  exact (h1.trans h2).trans (idlePhases_inner _)

theorem moveLink_inner (l : List Byte) (s : State) : Inner s (moveLink l s).state := by
  unfold moveLink refuse accept
  simp only
  repeat' split
  all_goals first | exact Inner.refl s | exact stageOrder_inner _ _

theorem releaseLink_inner (l : List Byte) (s : State) : Inner s (releaseLink l s).state := by
  unfold releaseLink refuse accept
  simp only
  repeat' split
  all_goals first | exact Inner.refl s | exact stageOrder_inner _ _

theorem cancelMove_inner (l : List Byte) (s : State) : Inner s (cancelMove l s).state := by
  unfold cancelMove refuse accept
  repeat' split
  all_goals first
    | exact Inner.refl s
    | exact (((leaveActive_inner _ _).trans (phaseReport_inner _ _)).trans (withdrawRequest_inner _)).trans (rteSettle_inner _)
    | exact (removeWaiting_inner _ _).trans (rteSettle_inner _)

/-! ## Reports -/

theorem enterWant_inner (k : LinkId) (r : Reason) (s : State) : Inner s (enterWant k r s) :=
  (setWant_inner _ _ _).trans (rteSettle_inner _)

theorem batteryNote_inner (k : LinkId) (b : Bool) (v : Option Nat) (s : State) : Inner s (batteryNote k b v s) := by
  unfold batteryNote
  repeat' split
  all_goals first | exact Inner.refl s | exact note_inner _ _ _

theorem reportWants_inner (k : LinkId) (h : LinkHealth) (g : Health) (s : State) : Inner s (reportWants k h g s) := by
  unfold reportWants
  repeat' split
  all_goals first
    | exact Inner.refl s
    | exact (setWant_inner _ _ _).trans (withdrawRecovered_inner _ _)
    | exact enterWant_inner _ _ _

theorem digest_inner (k : LinkId) (r : Report) (s : State) : Inner s (digest k r s) := by
  unfold digest
  extract_lets l f graded grade s1 s2 s3 s4 s5
  have h4 : Inner s s4 := ((((Inner.onHealth k _).trans (startSilence_inner _ _)).trans (healthNote_inner _ _ _ _)).trans
    (batteryNote_inner _ _ _ _)).trans (healthDegrade_inner _ _ _ _)
  have h5 : Inner s4 s5 := by
    unfold s5
    split
    · exact reportWants_inner _ _ _ _
    · exact Inner.refl _
  exact (h4.trans h5).trans (healthLamp_inner _ _ _ _)

theorem takeLinkMeter_inner (src : Node) (l : List Byte) (s : State) : Inner s (takeLinkMeter src l s) := by
  unfold takeLinkMeter
  repeat' split
  all_goals first | exact Inner.refl s | exact digest_inner _ _ _

theorem silenceWants_inner (k : LinkId) (s : State) : Inner s (silenceWants k s) := by
  unfold silenceWants
  simp only
  repeat' split
  all_goals first | exact Inner.refl s | exact enterWant_inner _ _ _ | exact setWant_inner _ _ _

theorem silenceExpiry_inner (k : LinkId) (s : State) : Inner s (silenceExpiry k s) := by
  unfold silenceExpiry
  simp only
  split
  · exact Inner.refl s
  · have a : Inner s (s.onHealth k fun h => { h with silence := none }) := Inner.onHealth k _
    split
    · exact (((a.trans (setGrade_inner _ _ _)).trans (note_inner _ _ _)).trans (healthDegrade_inner _ _ _ _)).trans
        ((silenceWants_inner _ _).trans (healthLamp_inner _ _ _ _))
    · exact a

theorem verifyWants_inner (s : State) : Inner s (verifyWants s) := Inner.onLmn _

/-! ## Completions -/

theorem completeCheck_inner (op : ActiveOp) (s : State) : Inner s (completeCheck op s) := by
  unfold completeCheck
  extract_lets s1 s2
  have h2 : Inner s1 s2 := by
    unfold s2
    split
    · exact takeResult_inner _ _
    · exact answerOp_inner _ _ _ _
    · exact answerOp_inner _ _ _ _
  exact (finishLog_inner _ _ _).trans (h2.trans (arbiterNext_inner _))

theorem completeSearch_inner (s : State) : Inner s (completeSearch s) := by
  unfold completeSearch
  have a := searchRun_inner Config.listCapacity s
  simp only
  split
  · exact a.trans ((takeResult_inner _ _).trans (arbiterNext_inner _))
  · exact a

end Sys2Proof.Machine
end

