-- ==== Sys2Proof/Laws/Passes.lean ====
section
/-! SUPPORT. The cell order of a pass by position, and what taking the next cell comes to (R65, R69). -/

namespace Sys2Proof.Machine

/-- The pass order, position by position (R65). -/
theorem passOrder_get (c : SweepCfg) (n q : Nat) (h : c.start < n) : (passOrder c n)[q]? = c.cellAt n q := by
  simp only [passOrder, SweepCfg.cellAt, given]
  by_cases hs : c.start ≤ c.stop
  · simp only [hs, if_true]
    by_cases hq : q ≤ c.stop - c.start
    · simp [hq]; rw [List.getElem?_range (by omega)]; simp; omega
    · simp [hq]; omega
  · simp only [hs, if_false]
    by_cases hq : c.start + q < n
    · rw [List.getElem?_append_left (by simp; omega)]
      simp [hq]; rw [List.getElem?_range (by omega)]; simp; omega
    · rw [List.getElem?_append_right (by simp; omega)]
      by_cases hr : c.start + q - n ≤ c.stop
      · simp [hq, hr]; rw [List.getElem?_range (by omega)]; simp; omega
      · simp [hq, hr]; omega

/-- The first element from a position on that passes a test. -/
theorem find_from {α : Type} {l : List α} {n pos : Nat} {p : α → Bool} {x : α} (h1 : n ≤ pos) (h2 : l[pos]? = some x)
    (h3 : p x = true) (h4 : ∀ q y, n ≤ q → q < pos → l[q]? = some y → p y = false) :
    (l.zipIdx.drop n).find? (fun z => p z.1) = some (x, pos) := by
  rw [List.find?_eq_some_iff_append]
  have hlt : pos - n < (l.zipIdx.drop n).length := by
    have := (List.getElem?_eq_some_iff.1 h2).1
    simp; omega
  have he : (l.zipIdx.drop n)[pos - n] = (x, pos) := by
    obtain ⟨hh, he⟩ := List.getElem?_eq_some_iff.1 h2
    simp [show n + (pos - n) = pos by omega, he]
  refine ⟨h3, (l.zipIdx.drop n).take (pos - n), (l.zipIdx.drop n).drop (pos - n + 1), ?_, ?_⟩
  · rw [← he, ← List.drop_eq_getElem_cons hlt, List.take_append_drop]
  · intro a ha
    obtain ⟨i, hi, rfl⟩ := List.mem_iff_getElem.1 ha
    simp at hi
    have := h4 (n + i) (l[n + i]'(by omega)) (by omega) (by omega) (by simp)
    simpa using this

/-- No element from a position on passes a test. -/
theorem find_none_from {α : Type} {l : List α} {n : Nat} {p : α → Bool} (h : ∀ q y, n ≤ q → l[q]? = some y → p y = false) :
    (l.zipIdx.drop n).find? (fun z => p z.1) = none := by
  rw [List.find?_eq_none]
  intro a ha
  obtain ⟨i, hi, rfl⟩ := List.mem_iff_getElem.1 ha
  simp at hi
  have := h (n + i) (l[n + i]'(by omega)) (by omega) (by simp)
  simpa using this

/-- The next cell of a pass is the one that R65 names. -/
theorem nextCell_of_nextIs {s : State} {j pos : Nat} (h : s.nextIs j pos) : s.nextCell = some (j, pos) := by
  obtain ⟨h0, h1, h2, h3, h4⟩ := h
  simp only [State.nextCell, State.order]
  refine find_from (p := fun x => decide ((s.swp.cell s.swp.cfg.band x).state ≠ .own)) h1 ?_ (by simpa using h3) ?_
  · rw [passOrder_get _ _ _ h0]; exact h2
  · intro q y hq hq2 hy
    rw [passOrder_get _ _ _ h0] at hy
    simpa using h4 q y hq hq2 hy

/-- Where only OWN cells remain, no cell is next (R65). -/
theorem nextCell_of_passOver {s : State} (h0 : s.swp.cfg.start < (s.band s.swp.cfg.band).cellCount) (h : s.passOver) :
    s.nextCell = none := by
  simp only [State.nextCell, State.order]
  refine find_none_from (p := fun x => decide ((s.swp.cell s.swp.cfg.band x).state ≠ .own)) ?_
  intro q y hq hy
  rw [passOrder_get _ _ _ h0] at hy
  simpa using h q y hq hy

/-- A cell is probed, and a Control Queue with room takes the PROBE frame (R69). -/
theorem probeCell_room {s : State} {j pos : Nat} (h : s.rif.ctlQ.length < 24) :
    probeCell offerProbe j pos s = s.probedAt j pos := by
  simp [probeCell, offerProbe, Rif.admitted, Config.controlCapacity, State.onSwp, h, probeAccepted, State.onRif,
    State.probedAt, State.probeOf, State.probeFrame]
  exact ⟨⟨rfl, rfl⟩, rfl⟩

/-- A cell is probed, and its PROBE frame is kept for a queue-space event (R170). -/
theorem probeCell_kept (s : State) (j pos : Nat) : probeCell keepProbe j pos s = s.probeKeptAt j pos := rfl

/-- Everything the probing of a cell can come to (R69, R169, R170). -/
theorem probeCell_to {s t : State} {waits : Bool} {j pos : Nat} (h : s.probesTo t waits j pos) :
    probeCell (if waits then keepProbe else offerProbe) j pos s = t := by
  cases waits with
  | true => exact (probeCell_kept s j pos).trans (by simpa [State.probesTo] using h.symm)
  | false =>
    simp only [State.probesTo, Bool.false_eq_true, if_false] at h ⊢
    rcases h with ⟨hl, rfl⟩ | ⟨hl, hn, rfl⟩ | ⟨hl, r, hr, rfl⟩
    · exact probeCell_room hl
    · have ha : s.rif.admitted { cls := .probe, frame := (s.probeOf j).frame } = none := by
        simp only [Rif.admitted, Config.controlCapacity, Nat.not_lt.2 hl, if_false]
        rw [if_neg]
        simpa [Queued.isNote] using hn
      exact (show probeCell offerProbe j pos s = match s.rif.admitted { cls := .probe, frame := (s.probeOf j).frame } with
        | some r => _ | none => _ from rfl).trans (by rw [ha]; rfl)
    · exact (show probeCell offerProbe j pos s = match s.rif.admitted { cls := .probe, frame := (s.probeOf j).frame } with
        | some r => _ | none => _ from rfl).trans (by rw [hr]; rfl)

/-- Taking the next cell, where there is one, probes it (R65, R69). -/
theorem sweepTake_next {s t : State} {waits : Bool} {j pos n : Nat} (h : s.nextIs j pos) (ht : s.probesTo t waits j pos) :
    sweepTake (if waits then keepProbe else offerProbe) (n + 1) s = t := by
  simp only [sweepTake, nextCell_of_nextIs h]
  exact probeCell_to ht

end Sys2Proof.Machine
end

