-- ==== Sys2Proof/Laws/PerInstr.lean ====
section
/-! SUPPORT. The family Fits: the bytes on the ring of a well-formed command are at most the 246 of the longest frame (R161);
one lemma for each constructor. -/

namespace Sys2Proof.Laws.Fits

/-- The bytes a well-formed command stands for fit a frame: at most six beside a payload of 240 (R161). -/
def Statement (c : Instr) : Prop := c.WellFormed = true → ∀ raw, c.wireBytes = some raw → raw.length ≤ 246

/-- A frame has six bytes beside its payload (R161). -/
theorem wire_length (kind : Byte) (dst src : Node) (p : List Byte) (check : Half) :
    (Machine.wire kind dst src p check).length = p.length + 6 := by
  simp [Machine.wire, Machine.body, Machine.halfBytes]

/-- A CMD has eight bytes beside its parameters (R162). -/
theorem cmd_length (h : CmdHead) (code : Byte) (p : List Byte) : (h.wire code p).length = p.length + 8 := by
  simp [CmdHead.wire, wire_length]

/-- A WRITE has eleven bytes beside its record (R163). -/
theorem write_length (h : CmdHead) (table : Byte) (i : Half) (r : List Byte) : (h.wireWrite table i r).length = r.length + 11 := by
  simp [CmdHead.wireWrite, cmd_length, Machine.writeParams, Machine.halfBytes]

theorem resetNLow : Statement .resetNLow := by
  rintro - _ ⟨⟩

theorem coldReset (straps : Byte) : Statement (.coldReset straps) := by
  rintro - _ ⟨⟩

theorem ringInFrame (raw : List Byte) : Statement (.ringInFrame raw) := by
  rintro hw _ ⟨⟩
  exact of_decide_eq_true hw

theorem fillSlot : Statement .fillSlot := by
  rintro - _ ⟨⟩

theorem queueSpaceEvent : Statement .queueSpaceEvent := by
  rintro - _ ⟨⟩

theorem lampFrameBuild : Statement .lampFrameBuild := by
  rintro - _ ⟨⟩

theorem bypassEntry : Statement .bypassEntry := by
  rintro - _ ⟨⟩

theorem tally (h : FrameHead) (payload : List Byte) : Statement (.tally h payload) := by
  rintro hw _ ⟨⟩
  have hw : payload.length ≤ 240 := of_decide_eq_true hw
  rw [wire_length]; omega

theorem cycle (h : FrameHead) (payload : List Byte) : Statement (.cycle h payload) := by
  rintro hw _ ⟨⟩
  have hw : payload.length ≤ 240 := of_decide_eq_true hw
  rw [wire_length]; omega

theorem voice (h : FrameHead) (payload : List Byte) : Statement (.voice h payload) := by
  rintro hw _ ⟨⟩
  have hw : payload.length ≤ 240 := of_decide_eq_true hw
  rw [wire_length]; omega

theorem meterLinkForm (h : FrameHead) (fields : List Byte) : Statement (.meterLinkForm h fields) := by
  rintro hw _ ⟨⟩
  simp [Instr.WellFormed, maxPayload] at hw
  rw [wire_length]; simp; omega

theorem meterProbeForm (h : FrameHead) (fields : List Byte) : Statement (.meterProbeForm h fields) := by
  rintro hw _ ⟨⟩
  simp [Instr.WellFormed, maxPayload] at hw
  rw [wire_length]; simp; omega

theorem tuned (h : FrameHead) (payload : List Byte) : Statement (.tuned h payload) := by
  rintro hw _ ⟨⟩
  have hw : payload.length ≤ 240 := of_decide_eq_true hw
  rw [wire_length]; omega

theorem tuneTimerExpiry : Statement .tuneTimerExpiry := by
  rintro - _ ⟨⟩

theorem meterSilenceExpiry (link : LinkId) : Statement (.meterSilenceExpiry link) := by
  rintro - _ ⟨⟩

theorem switcherSilenceExpiry (slot : SlotId) : Statement (.switcherSilenceExpiry slot) := by
  rintro - _ ⟨⟩

theorem switcherHoldExpiry (slot : SlotId) : Statement (.switcherHoldExpiry slot) := by
  rintro - _ ⟨⟩

theorem probeTimeout : Statement .probeTimeout := by
  rintro - _ ⟨⟩

theorem lampRefreshExpiry : Statement .lampRefreshExpiry := by
  rintro - _ ⟨⟩

theorem sweepIntervalExpiry : Statement .sweepIntervalExpiry := by
  rintro - _ ⟨⟩

theorem checkCompletion : Statement .checkCompletion := by
  rintro - _ ⟨⟩

theorem searchCompletion : Statement .searchCompletion := by
  rintro - _ ⟨⟩

theorem auditCompletion : Statement .auditCompletion := by
  rintro - _ ⟨⟩

theorem refillCompletion : Statement .refillCompletion := by
  rintro - _ ⟨⟩

theorem signatureCompletion : Statement .signatureCompletion := by
  rintro - _ ⟨⟩

theorem identify (h : CmdHead) (params : List Byte) : Statement (.identify h params) := by
  rintro hw _ ⟨⟩
  simp [Instr.WellFormed, paramsFit, maxPayload] at hw
  rw [cmd_length]; omega

theorem status (h : CmdHead) (params : List Byte) : Statement (.status h params) := by
  rintro hw _ ⟨⟩
  simp [Instr.WellFormed, paramsFit, maxPayload] at hw
  rw [cmd_length]; omega

theorem read (h : CmdHead) (params : List Byte) : Statement (.read h params) := by
  rintro hw _ ⟨⟩
  simp [Instr.WellFormed, paramsFit, maxPayload] at hw
  rw [cmd_length]; omega

theorem writeBand (h : CmdHead) (index : Half) (record : List Byte) : Statement (.writeBand h index record) := by
  rintro hw _ ⟨⟩
  simp [Instr.WellFormed, recordFits, maxPayload] at hw
  rw [write_length]; omega

theorem writeLink (h : CmdHead) (index : Half) (record : List Byte) : Statement (.writeLink h index record) := by
  rintro hw _ ⟨⟩
  simp [Instr.WellFormed, recordFits, maxPayload] at hw
  rw [write_length]; omega

theorem writeWindow (h : CmdHead) (index : Half) (record : List Byte) : Statement (.writeWindow h index record) := by
  rintro hw _ ⟨⟩
  simp [Instr.WellFormed, recordFits, maxPayload] at hw
  rw [write_length]; omega

theorem writeSwitcher (h : CmdHead) (index : Half) (record : List Byte) : Statement (.writeSwitcher h index record) := by
  rintro hw _ ⟨⟩
  simp [Instr.WellFormed, recordFits, maxPayload] at hw
  rw [write_length]; omega

theorem writeSourcemap (h : CmdHead) (index : Half) (record : List Byte) : Statement (.writeSourcemap h index record) := by
  rintro hw _ ⟨⟩
  simp [Instr.WellFormed, recordFits, maxPayload] at hw
  rw [write_length]; omega

theorem writePalette (h : CmdHead) (index : Half) (record : List Byte) : Statement (.writePalette h index record) := by
  rintro hw _ ⟨⟩
  simp [Instr.WellFormed, recordFits, maxPayload] at hw
  rw [write_length]; omega

theorem writeCondition (h : CmdHead) (index : Half) (record : List Byte) : Statement (.writeCondition h index record) := by
  rintro hw _ ⟨⟩
  simp [Instr.WellFormed, recordFits, maxPayload] at hw
  rw [write_length]; omega

theorem writeTalksrc (h : CmdHead) (index : Half) (record : List Byte) : Statement (.writeTalksrc h index record) := by
  rintro hw _ ⟨⟩
  simp [Instr.WellFormed, recordFits, maxPayload] at hw
  rw [write_length]; omega

theorem writeDest (h : CmdHead) (index : Half) (record : List Byte) : Statement (.writeDest h index record) := by
  rintro hw _ ⟨⟩
  simp [Instr.WellFormed, recordFits, maxPayload] at hw
  rw [write_length]; omega

theorem writeXpoint (h : CmdHead) (index : Half) (record : List Byte) : Statement (.writeXpoint h index record) := by
  rintro hw _ ⟨⟩
  simp [Instr.WellFormed, recordFits, maxPayload] at hw
  rw [write_length]; omega

theorem writeSettings (h : CmdHead) (index : Half) (record : List Byte) : Statement (.writeSettings h index record) := by
  rintro hw _ ⟨⟩
  simp [Instr.WellFormed, recordFits, maxPayload] at hw
  rw [write_length]; omega

theorem check (h : CmdHead) (params : List Byte) : Statement (.check h params) := by
  rintro hw _ ⟨⟩
  simp [Instr.WellFormed, paramsFit, maxPayload] at hw
  rw [cmd_length]; omega

theorem audit (h : CmdHead) (params : List Byte) : Statement (.audit h params) := by
  rintro hw _ ⟨⟩
  simp [Instr.WellFormed, paramsFit, maxPayload] at hw
  rw [cmd_length]; omega

theorem refill (h : CmdHead) (params : List Byte) : Statement (.refill h params) := by
  rintro hw _ ⟨⟩
  simp [Instr.WellFormed, paramsFit, maxPayload] at hw
  rw [cmd_length]; omega

theorem signature (h : CmdHead) (params : List Byte) : Statement (.signature h params) := by
  rintro hw _ ⟨⟩
  simp [Instr.WellFormed, paramsFit, maxPayload] at hw
  rw [cmd_length]; omega

theorem readLog (h : CmdHead) (params : List Byte) : Statement (.readLog h params) := by
  rintro hw _ ⟨⟩
  simp [Instr.WellFormed, paramsFit, maxPayload] at hw
  rw [cmd_length]; omega

theorem moveLink (h : CmdHead) (params : List Byte) : Statement (.moveLink h params) := by
  rintro hw _ ⟨⟩
  simp [Instr.WellFormed, paramsFit, maxPayload] at hw
  rw [cmd_length]; omega

theorem releaseLink (h : CmdHead) (params : List Byte) : Statement (.releaseLink h params) := by
  rintro hw _ ⟨⟩
  simp [Instr.WellFormed, paramsFit, maxPayload] at hw
  rw [cmd_length]; omega

theorem cancelMove (h : CmdHead) (params : List Byte) : Statement (.cancelMove h params) := by
  rintro hw _ ⟨⟩
  simp [Instr.WellFormed, paramsFit, maxPayload] at hw
  rw [cmd_length]; omega

theorem sweepGo (h : CmdHead) (params : List Byte) : Statement (.sweepGo h params) := by
  rintro hw _ ⟨⟩
  simp [Instr.WellFormed, paramsFit, maxPayload] at hw
  rw [cmd_length]; omega

theorem sweepStop (h : CmdHead) (params : List Byte) : Statement (.sweepStop h params) := by
  rintro hw _ ⟨⟩
  simp [Instr.WellFormed, paramsFit, maxPayload] at hw
  rw [cmd_length]; omega

theorem lampTest (h : CmdHead) (params : List Byte) : Statement (.lampTest h params) := by
  rintro hw _ ⟨⟩
  simp [Instr.WellFormed, paramsFit, maxPayload] at hw
  rw [cmd_length]; omega

theorem showLock (h : CmdHead) (params : List Byte) : Statement (.showLock h params) := by
  rintro hw _ ⟨⟩
  simp [Instr.WellFormed, paramsFit, maxPayload] at hw
  rw [cmd_length]; omega

theorem showUnlock (h : CmdHead) (params : List Byte) : Statement (.showUnlock h params) := by
  rintro hw _ ⟨⟩
  simp [Instr.WellFormed, paramsFit, maxPayload] at hw
  rw [cmd_length]; omega

theorem bypass (h : CmdHead) (params : List Byte) : Statement (.bypass h params) := by
  rintro hw _ ⟨⟩
  simp [Instr.WellFormed, paramsFit, maxPayload] at hw
  rw [cmd_length]; omega

theorem resume (h : CmdHead) (params : List Byte) : Statement (.resume h params) := by
  rintro hw _ ⟨⟩
  simp [Instr.WellFormed, paramsFit, maxPayload] at hw
  rw [cmd_length]; omega

theorem restart (h : CmdHead) (params : List Byte) : Statement (.restart h params) := by
  rintro hw _ ⟨⟩
  simp [Instr.WellFormed, paramsFit, maxPayload] at hw
  rw [cmd_length]; omega

theorem unknownRequest (h : CmdHead) (code : Byte) (params : List Byte) : Statement (.unknownRequest h code params) := by
  rintro hw _ ⟨⟩
  simp [Instr.WellFormed, paramsFit, maxPayload] at hw
  rw [cmd_length]; omega

theorem powerLoss : Statement .powerLoss := by
  rintro - _ ⟨⟩

theorem searchEntryVerdict : Statement .searchEntryVerdict := by
  rintro - _ ⟨⟩

theorem conflictLogged : Statement .conflictLogged := by
  rintro - _ ⟨⟩

end Sys2Proof.Laws.Fits
end

