-- ==== Sys2Proof/Tests/Slice0.lean ====
section
/-! SUPPORT. Tests of the model: an ill-formed command for each check of WellFormed, the manual's worked cases, and for every
obligation with hypotheses a concrete state and operands that meet them. -/

namespace Sys2Proof.Tests

open Sys2Proof Sys2Proof.Machine

-- One theorem at a time: each is evaluated by the kernel on a thread of its own.
set_option Elab.async false

/-! ## Helpers -/

/-- A CMD from management node 200 to a part at node 20, with a right check. -/
def cmd (code : Byte) (params : List Byte) : CmdHead :=
  { dst := 20, src := 200, id := 7, check := crc16 (body Kind.cmd 20 200 (code :: 7 :: params)) }

/-- A WRITE from management node 200. -/
def wcmd (table : Byte) (index : Half) (record : List Byte) : CmdHead := cmd Req.write (writeParams table index record)

/-- The head of a frame with a right check. -/
def frm (kind : Byte) (dst src : Node) (p : List Byte) : FrameHead := { dst := dst, src := src, check := crc16 (body kind dst src p) }

/-- The bytes of a frame with a right check. -/
def raw (kind : Byte) (dst src : Node) (p : List Byte) : List Byte := Frame.bytes { kind := kind, dst := dst, src := src, payload := p }

/-- The state one command leaves. -/
def run (c : Instr) (s : State) : State :=
  match exec c s with
  | .next t => t
  | _ => s

/-- The payloads waiting in the Control Queue. -/
def said (s : State) : List (List Byte) := s.rif.ctlQ.map (·.frame.payload)

/-- The status byte of the RSP that waits last in the Control Queue. -/
def status (s : State) : Option Byte := s.rif.ctlQ.getLast?.bind fun q => q.frame.payload[2]?

/-- So many frames of a class in the Control Queue. -/
def queueOf (n : Nat) (c : CtlClass) : List Queued :=
  List.replicate n { cls := c, frame := { kind := Kind.rsp, dst := 9, src := 20, payload := [] } }

/-- Band 1 of the tests: 125 cells of 8 channels, probe node 50. -/
def testBand : BandEntry :=
  { enabled := true, base := 470000, step := 25, count := 1000, gcc := 0, gim := 0, threeTone := false, span := 8,
    threshold := -80, spareWidth := 200, probeNode := 50 }

/-- Link 22 of the tests: in use in band 1, lamp node 63, talkback destination 3, AUTO_RETUNE set, min level −85. -/
def testCfg : LinkCfg :=
  { LinkCfg.cold with
    inUse := true, band := 1, tx := 60, rx := 61, rx2 := 62, autoRetune := true, minLevel := -85, persistence := 3,
    lampNode := 63, lampEnable := true, talkback := some 3 }

/-- Link 22, COMMITTED at channel 100. -/
def testLink : Link :=
  { Link.cold with cfg := testCfg, carrier := { channel := some 100, state := .committed, forced := false, phase := .idle } }

/-- A part at node 20 with band 1 enabled, link 22 committed, and reports going to node 200. -/
def lab : State :=
  { State.reset with
    plan := { Plan.cold with bands := wr Plan.cold.bands 1 testBand, links := wr Plan.cold.links 22 testLink }
    mgr := { Mgr.cold with settings := { Settings.cold with reportNode := 200 } } }

/-- An order of the tests. -/
def order (k : LinkId) (target : Target) (reason : Reason) : Order := .fresh k target reason false

/-! ## Commands that the ring cannot carry -/

theorem test_ill_formed_ring_frame : Instr.WellFormed (.ringInFrame (List.replicate 247 0)) = false := by decide +kernel
theorem test_ill_formed_payload :
    Instr.WellFormed (.tally (frm 0 0 0 []) (List.replicate 241 0)) = false
    ∧ Instr.WellFormed (.cycle (frm 0 0 0 []) (List.replicate 241 0)) = false
    ∧ Instr.WellFormed (.voice (frm 0 0 0 []) (List.replicate 241 0)) = false
    ∧ Instr.WellFormed (.tuned (frm 0 0 0 []) (List.replicate 241 0)) = false := by decide +kernel
theorem test_ill_formed_meter :
    Instr.WellFormed (.meterLinkForm (frm 0 0 0 []) (List.replicate 240 0)) = false
    ∧ Instr.WellFormed (.meterProbeForm (frm 0 0 0 []) (List.replicate 240 0)) = false := by decide +kernel
theorem test_ill_formed_params : Instr.WellFormed (.read (cmd 0 []) (List.replicate 239 0)) = false := by decide +kernel
theorem test_ill_formed_record : Instr.WellFormed (.writeSourcemap (cmd 0 []) 0 (List.replicate 236 0)) = false := by decide +kernel
theorem test_ill_formed_unknown :
    Instr.WellFormed (.unknownRequest (cmd 0 []) 0x15 []) = false ∧ Instr.WellFormed (.unknownRequest (cmd 0 []) 0x01 []) = false
    ∧ Instr.WellFormed (.unknownRequest (cmd 0 []) 0x16 (List.replicate 239 0)) = false
    ∧ Instr.WellFormed (.unknownRequest (cmd 0 []) 0x0A []) = true := by decide +kernel

/-! ## The manual's worked cases -/

/-- The check value of the CRC-16 with polynomial 1021h and initial value FFFFh, over the digits 1 to 9 (00 Terms; a known
value of this CRC). -/
theorem test_crc_check_value : crc16 [0x31, 0x32, 0x33, 0x34, 0x35, 0x36, 0x37, 0x38, 0x39] = 0x29B1 := by decide +kernel

/-- The worked sequence of 05_link_health: F report by report, and the grades of steps 1 to 12. -/
theorem test_worked_levels :
    ([-80, -95, -95, -100, -88, -80, -82, -70, -60, -60] : List Int).foldl
      (fun fs l => fs ++ [filterLevel fs.getLast? l]) [filterLevel none (-70)]
    = [-280, -290, -312, -329, -346, -347, -341, -338, -324, -303, -288] := by decide +kernel
theorem test_worked_grades :
    (([(-280, 80), (-290, 78), (-312, 75), (-329, 60), (-346, 40), (-347, 45), (-341, 50), (-338, 60), (-324, 72), (-303, 85),
       (-288, 85)] : List (Int × Nat)).foldl (fun gs x => gs ++ [classify testCfg (gs.getLastD .unknown) x.1 x.2]) [])
    = [.good, .good, .marginal, .marginal, .poor, .poor, .poor, .poor, .marginal, .marginal, .good] := by decide +kernel

/-- The worked mix of 09_talkback_mixing: the terms, and the outputs of cases A, B, E, G. -/
theorem test_worked_mix :
    mixTerm 20000 (multiplier 8) = 5024 ∧ mixTerm 30000 (multiplier 4) = 15036 ∧ mixTerm (-20000) (multiplier 8) = -5024
    ∧ mixTerm (-30000) (multiplier 4) = -15036 ∧ mixTerm 25000 (multiplier 6) = 8871 ∧ mixTerm 20000 (multiplier 0) = 20000
    ∧ limit16 (5024 + 15036) = 20060 ∧ limit16 45060 = 32767 ∧ limit16 (-50000) = -32768 := by decide +kernel

/-- The worked sweep of 04_spectrum_sweep_and_occupancy: the order of the pass and the centre channels. -/
theorem test_worked_pass :
    passOrder { SweepCfg.zero with start := 247, stop := 2 } 250 = [247, 248, 249, 0, 1, 2]
    ∧ ({ testBand with count := 3990, span := 16 } : BandEntry).cellCount = 250
    ∧ ({ testBand with count := 3990, span := 16 } : BandEntry).cellCentre 249 = 3987
    ∧ ({ testBand with count := 3990, span := 16 } : BandEntry).cellCentre 247 = 3960 := by decide +kernel

/-- Step 2, 6, 7 and 8 of the same: the grade of a probe at threshold −80. -/
theorem test_worked_probe_grades :
    (Cell.measured { state := .quiet, last := some (-95), peak := some (-84), age := 2 } (-80) (-78)
      = { state := .busy, last := some (-78), peak := some (-78), age := 0 })
    ∧ (Cell.measured .cold (-80) (-88)).state = .quiet
    ∧ (Cell.measured { state := .quiet, last := some (-91), peak := some (-91), age := 1 } (-80) (-83)).state = .quiet
    ∧ (Cell.measured .cold (-80) (-84)).state = .busy := by decide +kernel

/-- The band of the worked cases of 02_compatibility_arithmetic. -/
def caseBand (threeTone : Bool) : BandEntry :=
  { enabled := true, base := 470000, step := 25, count := 8000, gcc := 300, gim := 50, threeTone := threeTone, span := 32,
    threshold := -80, spareWidth := 200, probeNode := 0 }

/-- A snapshot of those cases: links 4, 7 and 9, and link 12 where it stands. -/
def caseSnap (threeTone fourth : Bool) : Snapshot :=
  let at' (n : Nat) : SnapLink :=
    { carrier := { channel := some n, state := .committed, forced := false, phase := .idle }, band := 0, width := 200 }
  let none' : SnapLink := { carrier := .cold, band := 0, width := 200 }
  { band := some (caseBand threeTone)
    windows := wr (Vector.replicate 8 .cold) 3 { enabled := true, band := 0, anchor := .bottom, size := 5600, complement := true }
    links := tab fun k =>
      if k = 4 then at' 5440 else if k = 7 then at' 5472 else if k = 9 then at' 3000
      else if k = 12 && fourth then at' 5388 else none'
    order := none, cells := Vector.replicate 256 { Cell.cold with state := .quiet }, gen := 42 }

def im2 (a b v : Item) (p s : Int) : Conflict :=
  { kind := .im2, aggressors := [a, b], victim := .item v, product := some p, shortfall := some s }

def im3 (x y z v : Item) (p s : Int) : Conflict :=
  { kind := .im3, aggressors := [x, y, z], victim := .item v, product := some p, shortfall := some s }

/-- The checks of channels 5504, 5508 and 5524 between two microphones. -/
theorem test_worked_check :
    compatCheck (caseSnap false false) 0 5504 200 (some 9) .full = .conflicts
      [im2 (.link 7 false) .candidate (.link 4 false) 606000 450, im2 (.link 7 false) (.link 4 false) .candidate 607600 450]
    ∧ compatCheck (caseSnap false false) 0 5508 200 (some 9) .full = .conflicts
      [im2 (.link 7 false) .candidate (.link 4 false) 605900 350, im2 (.link 7 false) (.link 4 false) .candidate 607600 350]
    ∧ compatCheck (caseSnap false false) 0 5524 200 (some 9) .full = .conflicts [] := by decide +kernel

/-- The four three-tone hits of channel 5524, and the clean standing evaluation. -/
theorem test_worked_three_tone :
    compatCheck (caseSnap true true) 0 5524 200 (some 9) .full = .conflicts
      [im3 .candidate (.link 12 false) (.link 4 false) (.link 7 false) 606800 450,
       im3 .candidate (.link 12 false) (.link 7 false) (.link 4 false) 606000 450,
       im3 (.link 4 false) (.link 7 false) .candidate (.link 12 false) 604700 450,
       im3 (.link 4 false) (.link 7 false) (.link 12 false) .candidate 608100 450]
    ∧ standingEvaluation (caseSnap true true) 0 = .conflicts [] := by decide +kernel

/-- The forced move against a window: 5595 clears it, 5597 reaches across the half step, 8000 is out of range. -/
theorem test_worked_window :
    compatCheck (caseSnap true true) 0 5595 200 (some 9) .exclusionOnly = .conflicts []
    ∧ compatCheck (caseSnap true true) 0 5597 200 (some 9) .exclusionOnly = .conflicts
      [{ kind := .excluded, aggressors := [.candidate], victim := .window 3, product := none, shortfall := none }]
    ∧ compatCheck (caseSnap true true) 0 8000 200 (some 9) .exclusionOnly = .range := by decide +kernel

/-- The log of an audit that finds 400 conflicts: 16 records, overflow 255, total 400 (R36). -/
theorem test_log_counts :
    let log := (List.replicate 400 (im2 .candidate .candidate .candidate 0 1)).foldl ConflictLog.append .empty
    log.records.length = 16 ∧ log.overflow = 255 ∧ log.total = 400 := by decide +kernel

/-- The lamps of the worked sequence of 08_tally_lamps: trim −2, PREVIEW, PROGRAM blended, TUNING, OFF. -/
theorem test_worked_lamps :
    let at' (u : Buses) (p : Phase) : State := lab.onLink 22 fun l =>
      { l with cfg := { l.cfg with trim := -2, blendLamp := true }, tally := u, carrier := { l.carrier with phase := p } }
    let rgb (r g b : Byte) : Colour := { red := r, green := g, blue := b }
    (at' { program := false, preview := true, iso := false } .idle).lamp 22
      = { cadence := .steady, primary := rgb 0 255 0, secondary := rgb 0 0 0, brightness := 13 }
    ∧ (at' { program := true, preview := true, iso := false } .idle).lamp 22
      = { cadence := .alternate, primary := rgb 255 0 0, secondary := rgb 0 255 0, brightness := 13 }
    ∧ (at' .empty .tuning).lamp 22 = { cadence := .slow, primary := rgb 255 0 255, secondary := rgb 0 0 0, brightness := 6 }
    ∧ (at' .empty .idle).lamp 22 = { cadence := .steady, primary := rgb 0 0 0, secondary := rgb 0 0 0, brightness := 0 } := by
  decide +kernel

/-- Links 3, 17 and 40 pending with the next link at 20: link 40 is built first (08_tally_lamps). -/
theorem test_lamp_order :
    ({ Lmp.cold with next := 20, pending := tab fun k => k = 3 || k = 17 || k = 40 } : Lmp).nextDue = some 40 := by decide +kernel

/-- The settings of the worked sequence of 11_management_requests_and_notes, step 5: the tune timeout 5000 is brought to 2000
and the request answered CLAMPED with the record. -/
theorem test_settings_clamped :
    let r : List Byte := [200, 0x13, 0x88, 1, 0xF4, 0, 200, 0x07, 0xD0, 2, 0, 0]
    let t := run (.writeSettings (wcmd Table.settings 0 r) 0 r) lab
    t.mgr.settings.tuneTimeout = 2000
    ∧ said t = [[4, 7, 1, 200, 0x07, 0xD0, 1, 0xF4, 0, 200, 0x07, 0xD0, 2, 0, 0]] := by decide +kernel
theorem test_settings_own_node :
    let r : List Byte := [20, 0x13, 0x88, 1, 0xF4, 0, 200, 0x07, 0xD0, 2, 0, 0]
    said (run (.writeSettings (wcmd Table.settings 0 r) 0 r) lab) = [[4, 7, 7]] := by decide +kernel

/-- The worked sequence of 10_the_cue_ring, steps 1, 2 and 4: a note dropped by a full queue, the youngest NOTE displaced by a
TUNE frame, the Voice Queue served first. -/
theorem test_full_queue :
    let r : Rif := { Rif.cold 20 with ctlQ := queueOf 22 .lamp ++ queueOf 2 .note, voiceQ := wr (Rif.cold 20).voiceQ 3 (some fillFrame) }
    (r.admitNote fillFrame).notesLost = true ∧ (r.admitNote fillFrame).ctlQ = r.ctlQ
    ∧ (r.admitted { cls := .tune, frame := fillFrame }).map (fun x => x.ctlQ.map (·.cls))
        = some (List.replicate 22 CtlClass.lamp ++ [.note, .tune])
    ∧ (run .fillSlot { lab with rif := r }).rif.voicePtr = 4
    ∧ (run .fillSlot { lab with rif := r }).rif.ctlQ.length = 24 := by decide +kernel

/-- RESUME in NORMAL mode, IDENTIFY and a code that is no request (R174, R178, R175). -/
theorem test_identify : said (run (.identify (cmd Req.identify []) []) lab) = [[1, 7, 0, 0x2C, 0x19, 0x10, 1, 20]] := by
  decide +kernel
theorem test_unknown_request :
    said (run (.unknownRequest (cmd 0x0A [5]) 0x0A [5]) lab) = [[0x0A, 7, 0x0D]] := by decide +kernel

/-- A frame with a wrong check is forwarded and counted; a frame to another node goes on unchanged (R166). -/
theorem test_bad_check :
    (run (.ringInFrame [0x40, 20, 200, 0, 0, 0]) lab).rif.errors = 1
    ∧ (run (.ringInFrame [0x40, 20, 200, 0, 0, 0]) lab).ringOut = .forwarded [0x40, 20, 200, 0, 0, 0] := by decide +kernel

/-- A FILL slot with both queues empty carries a FILL frame (R167). -/
theorem test_fill_frame :
    (run .fillSlot lab).ringOut = .sent ([0, 0, 0, 0] ++ halfBytes (crc16 [0, 0, 0, 0])) := by decide +kernel

/-! ## States and operands that meet the hypotheses of the obligations -/

/-- The laboratory part in BYPASS. -/
def labBypass : State := { lab with rif := { lab.rif with mode := .bypass } }

/-- The bypass entry mark is set. -/
def labMarked : State :=
  { lab with rif := { lab.rif with entry := some { rsp := lab.rspTo (cmd Req.bypass []) Req.bypass .ok [], kept := [] } } }

/-- The Control Queue is full, its youngest frame a NOTE, or holds no NOTE. -/
def labFullNote : State := { lab with rif := { lab.rif with ctlQ := queueOf 23 .lamp ++ queueOf 1 .note } }
def labFull : State := { lab with rif := { lab.rif with ctlQ := queueOf 24 .rsp } }

theorem test_meets_StepRunsFrontCommand :
    ({ lab with pending := [.fillSlot, .powerLoss] } : State).pending = .fillSlot :: [.powerLoss] ∧ lab.pending = [] := by
  decide +kernel

theorem test_meets_ColdResetRecords :
    (1 ≤ (1 : Byte).toNat ∧ (239 : Byte).toNat ≤ 239) ∧ (0 : Byte).toNat = 0 ∧ 240 ≤ (240 : Byte).toNat
    ∧ (run (.coldReset 239) lab).rif.mode = .normal ∧ (run (.coldReset 1) lab).rif.mode = .normal
    ∧ (run (.coldReset 0) lab).rif.permanent = true ∧ (run (.coldReset 240) lab).rif.permanent = true := by decide +kernel

theorem test_meets_BandTableAtResets :
    lab.takes (cmd Req.restart []) Req.restart [] = true ∧ lab.mgr.locked = false
    ∧ rd (run (.restart (cmd Req.restart []) []) lab).plan.bands 1 = testBand := by decide +kernel

theorem test_meets_PartOutOfTheRing :
    (run .resetNLow lab).live = false ∧ (run .powerLoss lab).live = false
    ∧ (Instr.tally (frm Kind.tally 255 90 [0]) [0]).wireBytes = some (raw Kind.tally 255 90 [0])
    ∧ Instr.WellFormed (.tally (frm Kind.tally 255 90 [0]) [0]) = true
    ∧ (run (.coldReset 0) lab).live = true ∧ (run (.coldReset 0) lab).rif.permanent = true := by decide +kernel

theorem test_meets_FrameBytesAgree :
    (List.replicate 240 (0 : Byte)).length ≤ 240
    ∧ parseFrame (raw Kind.tally 255 90 [1, 12, 1] ++ [9])
      = some { kind := Kind.tally, dst := 255, src := 90, payload := [1, 12, 1] } := by decide +kernel

theorem test_meets_FrameCommandsAreTheirBytes :
    Instr.WellFormed (.read (cmd Req.read [1, 0, 1, 1]) [1, 0, 1, 1]) = true
    ∧ (Instr.read (cmd Req.read [1, 0, 1, 1]) [1, 0, 1, 1]).wireBytes = some (raw Kind.cmd 20 200 [3, 7, 1, 0, 1, 1]) := by
  decide +kernel

theorem test_meets_RecordsReadAsWritten :
    readBand testBand.bytes = some testBand ∧ readLinkCfg testCfg.bytes = some testCfg
    ∧ (readWindow [1, 3, 1, 0x40, 0, 1]).isSome ∧ (readPalette [1, 2, 3, 15]).isSome ∧ (readCondition [7, 3]).isSome
    ∧ (readTalkSource [239, 15, 1]).isSome ∧ (readXpoints (List.replicate 64 1)).isSome
    ∧ readSettings Settings.cold.bytes = some Settings.cold ∧ (readMapRecord (List.replicate 64 63)).isSome
    ∧ (readDest [1, 63, 239, 15, 15, 15]).isSome
    ∧ ([20, 1, 7] ++ List.replicate 24 (0xFF : Byte)).length = 27
    ∧ (readSlotCfg ([20, 1, 7] ++ List.replicate 24 0xFF)).isSome := by decide +kernel

theorem test_meets_ArrivalTable :
    lab.working = true ∧ parseFrame [1, 2, 3] = none
    ∧ (parseFrame (raw Kind.note 200 20 [1])).map (·.src) = some lab.rif.node
    ∧ (∀ k ∈ [Kind.cmd, Kind.voice, Kind.meter, Kind.tuned, Kind.fill, Kind.tally, Kind.cycle, Kind.mix],
        parseFrame (raw k 20 200 [0]) = some { kind := k, dst := 20, src := 200, payload := [0] })
    ∧ (200 : Node) ≠ lab.rif.node ∧ (20 : Node) = lab.rif.node := by decide +kernel

theorem test_meets_BypassArrivalTable :
    labBypass.onRing = true ∧ labBypass.rif.mode = .bypass ∧ labMarked.onRing = true ∧ labMarked.rif.entry ≠ none
    ∧ ([Req.status, 7] : List Byte).head? = some Req.status ∧ ([0, 22] : List Byte).head? = some 0
    ∧ (parseFrame (raw Kind.cmd 20 200 [Req.resume, 7])).isSome ∧ (parseFrame (raw Kind.fill 0 0 [])).isSome
    ∧ (parseFrame (raw Kind.voice 20 200 [])).isSome := by decide +kernel

/-- MIX frames wait for destinations 3 and 31, the voice pointer at 4. -/
def labVoice : State :=
  { lab with rif := { lab.rif with voiceQ := wr (wr lab.rif.voiceQ 3 (some fillFrame)) 31 (some fillFrame), voicePtr := 4 } }

theorem test_meets_ArbiterTurn :
    lab.onRing = true ∧ lab.rif.entry = none
    ∧ (rd labVoice.rif.voiceQ 31).isSome = true
    ∧ (∀ j : DestId, (j - labVoice.rif.voicePtr).val < ((31 : DestId) - labVoice.rif.voicePtr).val →
        (rd labVoice.rif.voiceQ j).isSome = false)
    ∧ (∀ d, rd labFullNote.rif.voiceQ d = none)
    ∧ (∃ q : Queued, q.cls = .lamp ∧ labFullNote.rif.ctlQ = [] ++ q :: (queueOf 22 .lamp ++ queueOf 1 .note)
        ∧ ∀ x ∈ queueOf 22 .lamp ++ queueOf 1 .note, q.cls.rank ≤ x.cls.rank)
    ∧ lab.rif.ctlQ = [] := by
  refine ⟨by decide +kernel, by decide +kernel, by decide +kernel, by decide +kernel, by decide +kernel,
    ⟨{ cls := .lamp, frame := { kind := Kind.rsp, dst := 9, src := 20, payload := [] } }, rfl, ?_, ?_⟩, by decide +kernel⟩
  · decide +kernel
  · decide +kernel

/-- An event still owed is served before the next departure, from a queue that is empty or full; a departure owes one. -/
theorem test_meets_ArbiterTurn_owed :
    let owes (s : State) : State := { s with
      rif := { s.rif with spaceOwed := true }, rte := { s.rte with hold := [{ frame := fillFrame, awaited := true }] } }
    (run .fillSlot (owes lab)).rif.ctlQ = [] ∧ (run .fillSlot (owes lab)).rte.hold = []
    ∧ (run .fillSlot (owes lab)).rif.spaceOwed = true
    ∧ (run .fillSlot (owes labFull)).rif.ctlQ = queueOf 23 .rsp ∧ (run .fillSlot (owes labFull)).rte.hold.length = 1
    ∧ (run .fillSlot labFull).rif.spaceOwed = true ∧ (run .fillSlot lab).rif.spaceOwed = false := by decide +kernel

theorem test_meets_VoiceServedWithin32 :
    labVoice.onRing = true ∧ labVoice.rif.entry = none ∧ rd labVoice.rif.voiceQ 3 = some fillFrame := by decide +kernel

theorem test_meets_ControlQueueAdmission :
    lab.rif.ctlQ.length < 24 ∧ 24 ≤ labFullNote.rif.ctlQ.length ∧ 24 ≤ labFull.rif.ctlQ.length
    ∧ (∀ x ∈ labFull.rif.ctlQ, x.cls ≠ .note)
    ∧ (labFullNote.rif.ctlQ = queueOf 23 .lamp ++ (queueOf 1 .note).head (by decide) :: [])
    ∧ (lab.rif.admitted { cls := .rsp, frame := fillFrame }).isSome ∧ labFull.rif.admitted { cls := .rsp, frame := fillFrame } = none
    ∧ lab.mgr.settings.reportNode ≠ 0 ∧ lab.rif.mode = .normal ∧ State.reset.mgr.settings.reportNode = 0
    ∧ labBypass.rif.mode = .bypass := by decide +kernel

/-- The output hold of the MGR at its two bounds: a sixth RSP is kept, a seventh is lost. -/
theorem test_meets_ControlQueueAdmission_hold :
    let holding (n : Nat) : State := { labFull with mgr := { lab.mgr with hold := List.replicate n fillFrame } }
    (holding 5).mgr.hold.length < 6 ∧ (offerRsp fillFrame (holding 5)).mgr.hold.length = 6
    ∧ 6 ≤ (holding 6).mgr.hold.length ∧ (offerRsp fillFrame (holding 6)).mgr.hold.length = 6 := by decide +kernel

/-- The producers that may wait for a place: an RTE batch, a pending lamp, a held PROBE, a held RSP, a held CELL report. -/
def labHold : State := { lab with rte := { lab.rte with hold := [{ frame := fillFrame, awaited := true }] } }
def labLamp : State := { lab with lmp := { lab.lmp with pending := wr lab.lmp.pending 22 true } }
def labProbe : State :=
  { lab with swp := { lab.swp with
      probeHold := some { frame := fillFrame, probe := { tag := 1, band := 1, cell := 0, channel := 4 } } } }
def labRsp : State := { lab with mgr := { lab.mgr with hold := [fillFrame] } }
def labCell : State := { lab with swp := { lab.swp with reportHold := some fillFrame } }

theorem test_meets_QueueSpaceServesInOrder :
    lab.live = true ∧ 24 ≤ labFull.rif.ctlQ.length
    ∧ (labHold.rif.ctlQ.length < 24 ∧ labHold.rte.hold = { frame := fillFrame, awaited := true } :: [])
    ∧ (labLamp.rte.hold = [] ∧ labLamp.rif.mode = .normal ∧ labLamp.lmp.due 22 = true
        ∧ ∀ j : LinkId, (j - labLamp.lmp.next).val < ((22 : LinkId) - labLamp.lmp.next).val → labLamp.lmp.due j = false)
    ∧ (labProbe.rte.hold = [] ∧ (∀ k, labProbe.lmp.due k = false) ∧ labProbe.swp.probeHold.isSome)
    ∧ (labRsp.rte.hold = [] ∧ (∀ k, labRsp.lmp.due k = false) ∧ labRsp.swp.probeHold = none ∧ labRsp.mgr.hold = fillFrame :: [])
    ∧ (labCell.mgr.hold = [] ∧ (∀ k, labCell.lmp.due k = false) ∧ labCell.swp.reportHold = some fillFrame)
    ∧ (lab.swp.reportHold = none ∧ lab.mgr.hold = [] ∧ lab.swp.probeHold = none ∧ ∀ k, lab.lmp.due k = false) := by decide +kernel

/-- A NOTE and a waiting producer at one departure from a full queue (R170): the NOTE offered first takes the place, and the
producer waits for the next event; the producer served first leaves no place to the NOTE. Without an event owed nothing is served. -/
theorem test_meets_QueueSpaceServesInOrder_note :
    let left := run .fillSlot { labFull with mgr := { labFull.mgr with hold := [fillFrame] } }
    let noteFirst := run .queueSpaceEvent (note .sweepDone [] left)
    let servedFirst := note .sweepDone [] (run .queueSpaceEvent left)
    left.rif.ctlQ.length = 23 ∧ left.rif.spaceOwed = true
    ∧ (noteFirst.rif.ctlQ.any Queued.isNote, noteFirst.mgr.hold.length, noteFirst.rif.notesLost, noteFirst.rif.spaceOwed)
        = (true, 1, false, false)
    ∧ (servedFirst.rif.ctlQ.any Queued.isNote, servedFirst.mgr.hold.length, servedFirst.rif.notesLost) = (false, 0, true)
    ∧ (run .queueSpaceEvent (run .fillSlot noteFirst)).mgr.hold = [] ∧ (run .queueSpaceEvent labRsp).mgr.hold = [fillFrame] := by
  decide +kernel

theorem test_meets_BypassRequestAndEntry :
    lab.takes (cmd Req.bypass []) Req.bypass [] = true ∧ lab.takes (cmd Req.bypass [0]) Req.bypass [0] = true
    ∧ labMarked.takesMarked (cmd Req.resume []) Req.resume [] = true
    ∧ labMarked.takesMarked (cmd Req.identify []) Req.identify [] = true
    ∧ labMarked.onRing = true ∧ (∃ e, labMarked.rif.entry = some e ∧ (∀ x ∈ e.kept, x.resume = false) ∧ e.kept.length ≤ 24) :=
  ⟨by decide +kernel, by decide +kernel, by decide +kernel, by decide +kernel, by decide +kernel,
    ⟨{ rsp := lab.rspTo (cmd Req.bypass []) Req.bypass .ok [], kept := [] }, by decide +kernel⟩⟩

/-- BYPASS with an UNCERTAIN carrier and an RSP of an abandoned request to send. -/
def labUncertain : State :=
  { labBypass.onCarrier 22 fun c => { c with state := .uncertain } with
    cpl := { lab.cpl with answers := [{ kind := .audit, asker := { id := 9, src := 200 } }] } }

theorem test_meets_ResumeReturnsToNormal :
    lab.takes (cmd Req.resume []) Req.resume [] = true
    ∧ labUncertain.takesInBypass (cmd Req.resume []) Req.resume [] = true ∧ (labUncertain.link 22).carrier.state = .uncertain
    ∧ labBypass.takesInBypass (cmd Req.resume []) Req.resume [] = true
    ∧ (∀ k, (labBypass.link k).carrier.state ≠ .uncertain ∧ labBypass.want k = none)
    ∧ labBypass.rte.staged = none ∧ labBypass.rte.deferred = [] ∧ (∀ b, rd labBypass.cpl.flags b = false)
    ∧ labBypass.cpl.active = none ∧ labBypass.cpl.rtePlace = none ∧ labBypass.cpl.mgrPlace = none
    ∧ labBypass.rif.ctlQ.length + labBypass.cpl.answers.length < 24
    ∧ ((run (.resume (cmd Req.resume []) []) labUncertain).rif.ctlQ.filter (·.cls = .rsp)).map (·.frame.payload)
      = [[6, 9, 12], [0x14, 7, 0]] := by decide +kernel

/-- The show lock engaged with the key 0102 0304 0506 0708. -/
def labLocked : State :=
  { lab with mgr := { lab.mgr with locked := true, key := { w0 := 0x0102, w1 := 0x0304, w2 := 0x0506, w3 := 0x0708 } } }

def key : List Byte := [1, 2, 3, 4, 5, 6, 7, 8]

/-- An AUDIT of management runs, begun at the snapshot of the moment. -/
def audited (s : State) : State :=
  let q : MgrRequest :=
    { kind := .audit, band := 1, channel := 0, width := 0, mover := none, asker := { id := 7, src := 200 } }
  { s with cpl := { s.cpl with active := some (s.opOf (.mgr q)) } }

theorem test_meets_RestartIsWarm :
    (audited lab).takes (cmd Req.restart []) Req.restart [] = true ∧ (audited lab).mgr.locked = false
    ∧ (audited lab).cpl.cutShort ≠ []
    ∧ ((run (.restart (cmd Req.restart []) []) (audited lab)).rif.ctlQ.filter (·.cls = .rsp)).map (·.frame.payload)
      = [[6, 7, 12], [0x15, 7, 0]] := by decide +kernel

/-- A STATUS taken under the mark; an IDENTIFY and a RESUME taken under it, an AUDIT cut short at the entry, and the RSP frames in
their order. -/
theorem test_meets_BypassRequestAndEntry_resume :
    let s : State := { audited labMarked with rif := { labMarked.rif with notesLost := true } }
    let s1 := run (.identify (cmd Req.identify []) []) s
    let s2 := run (.resume (cmd Req.resume []) []) s1
    s.takesMarked (cmd Req.status []) Req.status [] = true ∧ s.rif.mode = .normal
    ∧ (run (.status (cmd Req.status []) []) s).rif.notesLost = false ∧ s.statusBytes.length = 20
    ∧ s2.onRing = true ∧ (s2.rif.entry.map fun e => e.kept.map (·.resume)) = some [false, true]
    ∧ s2.cpl.answers.length + s2.cpl.cutShort.length + 2 ≤ 21
    ∧ (run .fillSlot s2).rif.mode = .normal ∧ (run .fillSlot s2).rif.entry = none
    ∧ said (run .fillSlot s2) = [[1, 7, 0, 0x2C, 0x19, 0x10, 1, 20], [6, 7, 12], [0x14, 7, 0]] := by decide +kernel

theorem test_meets_IdentifyAndRefusedRequests :
    lab.takes (cmd Req.identify []) Req.identify [] = true
    ∧ labBypass.takesInBypass (cmd Req.identify []) Req.identify [] = true
    ∧ knownCode 0x0A = false ∧ knownCode 0x16 = false ∧ knownCode 0 = false ∧ lab.takes (cmd 0x16 []) 0x16 [] = true
    ∧ (∀ c ∈ [Req.identify, Req.status, Req.signature, Req.readLog, Req.sweepStop, Req.resume, Req.restart, Req.releaseLink,
        Req.read, Req.moveLink, Req.check, Req.showLock, Req.showUnlock, Req.sweepGo], lab.takes (cmd c [0]) c [0] = true)
    ∧ (∀ c ∈ [Req.audit, Req.refill, Req.cancelMove, Req.lampTest], lab.takes (cmd c []) c [] = true) := by decide +kernel

/-- A WRITE of two bytes, to no table of the part's, and to the HEALTH table, which is read only (R180). -/
theorem test_meets_IdentifyAndRefusedRequests_write :
    let sent (p : List Byte) : State := run (.ringInFrame ((cmd Req.write p).wire Req.write p)) lab
    lab.takes (cmd Req.write [1, 0]) Req.write [1, 0] = true ∧ lab.takes (cmd Req.write [255, 0, 0]) Req.write [255, 0, 0] = true
    ∧ status (sent [1, 0]) = some 7 ∧ status (sent [255, 0, 0]) = some 10
    ∧ status (sent [Table.health, 0, 0, 1]) = some 10 := by decide +kernel

/-- Link 22's order is Active in TUNING to channel 200, tag 9, nodes 60, 61 and 62; node 60 has answered. -/
def labTuning : State :=
  { lab.onCarrier 22 fun c => { c with phase := .tuning } with
    rte := { lab.rte with
      tuneTag := 9, tuneTimer := some 300
      active := some { order 22 .spare .health with
        chosen := some (.channel 200), previous := some 100, tag := some 9
        nodes := [{ node := 60, ok := true }, { node := 61, ok := false }, { node := 62, ok := false }] } } }

theorem test_meets_StatusReading :
    labTuning.takes (cmd Req.status []) Req.status [] = true ∧ labBypass.takesInBypass (cmd Req.status []) Req.status [] = true
    ∧ labTuning.rte.active.isSome
    ∧ said (run (.status (cmd Req.status []) []) labTuning)
      = [[2, 7, 0, 0, 0, 0, 0, 0, 0xFF, 0xFF, 0, 0, 22, 3, 0xFF, 0, 0, 0, 0xFF, 0xFF, 0, 0, 0]] := by decide +kernel

/-- An order in TUNING at a restart: its carrier UNCERTAIN, the generation advanced, a VERIFY order made at once. -/
theorem test_meets_RestartIsWarm_uncertain :
    let t := run (.restart (cmd Req.restart []) []) labTuning
    labTuning.takes (cmd Req.restart []) Req.restart [] = true ∧ (t.link 22).carrier.state = .uncertain
    ∧ (t.rte.active.map fun o => (o.link, o.reason)) = some (22, .verify) ∧ t.plan.gen = 2 := by decide +kernel

theorem test_meets_ReadAndReadLog :
    (∀ p ∈ ([[1, 0, 1, 1], [12, 1, 124, 255], [12, 1, 125, 1], [2, 0, 63, 0], [16, 0, 0, 1]] : List (List Byte)),
      lab.takes (cmd Req.read p) Req.read p = true)
    ∧ lab.entry 12 (1 * 256 + 125) = none ∧ lab.entry 16 0 = none ∧ lab.entry 15 0 = none
    ∧ lab.entry 12 (1 * 256 + 124) ≠ none ∧ lab.entry 2 63 ≠ none
    ∧ lab.takes (cmd Req.readLog []) Req.readLog [] = true ∧ lab.cpl.log = .empty
    ∧ said (run (.read (cmd Req.read [1, 0, 1, 1]) [1, 0, 1, 1]) lab) = [[3, 7, 0, 1, 0, 1, 1] ++ testBand.bytes] := by
  decide +kernel

theorem test_meets_ShowLock :
    lab.takes (cmd Req.showLock key) Req.showLock key = true ∧ lab.takes (cmd Req.showUnlock key) Req.showUnlock key = true
    ∧ labLocked.mgr.locked = true ∧ labLocked.mgr.key = { w0 := half 1 2, w1 := half 3 4, w2 := half 5 6, w3 := half 7 8 }
    ∧ status (run (.showUnlock (cmd Req.showUnlock key) key) labLocked) = some 0
    ∧ labLocked.takesWrite (wcmd Table.band 3 (List.replicate 18 0)) Table.band 3 (List.replicate 18 0) = true
    ∧ labLocked.takesWrite (wcmd Table.switcher 3 (List.replicate 27 0)) Table.switcher 3 (List.replicate 27 0) = true
    ∧ (labLocked.link 22).cfg.inUse = true
    ∧ labLocked.takes (cmd Req.moveLink [22, 0, 0, 1]) Req.moveLink [22, 0, 0, 1] = true
    ∧ labLocked.takes (cmd Req.releaseLink [22, 0]) Req.releaseLink [22, 0] = true
    ∧ labLocked.takes (cmd Req.restart []) Req.restart [] = true := by decide +kernel

theorem test_meets_ShowLockKeyStaysSecret :
    Instr.status (cmd Req.status []) [] ∈ [Instr.read (cmd Req.status []) [], .status (cmd Req.status []) [],
      .identify (cmd Req.status []) [], .readLog (cmd Req.status []) []]
    ∧ exec (.status (cmd Req.status []) []) labLocked = .next (run (.status (cmd Req.status []) []) labLocked) := by
  constructor
  · simp
  · rfl

/-- A record of band 1 with another geometry, and with another threshold alone. -/
def newGeometry : List Byte := { testBand with span := 16 }.bytes
def newThreshold : List Byte := { testBand with threshold := -60 }.bytes

/-- The laboratory part with a window of 300 channels over the top of band 1, a sweep of band 1 at work. -/
def labWindow : State :=
  { lab with plan := { lab.plan with
      windows := wr lab.plan.windows 7 { enabled := true, band := 1, anchor := .top, size := 300, complement := false } } }
def labSweeping : State :=
  { lab with swp := { lab.swp with
      cfg := { SweepCfg.zero with band := 1, start := 123, stop := 1, report := true }, state := .probing
      probe := some { tag := 5, band := 1, cell := 124, channel := 996 }, probeTimer := some 22, probeTag := 5, cursor := 1 } }

theorem test_meets_BandWrite :
    lab.takesWrite (wcmd Table.band 1 newGeometry) Table.band 1 newGeometry = true ∧ newGeometry.length = 18
    ∧ readBand newThreshold = some { testBand with threshold := -60 }
    ∧ lab.takesWrite (wcmd Table.band 1 newThreshold) Table.band 1 newThreshold = true
    ∧ labSweeping.swp.state ≠ .idle ∧ labSweeping.swp.cfg.band = 1
    ∧ status (run (.writeBand (wcmd Table.band 1 newGeometry) 1 newGeometry) lab) = some 8
    ∧ (run (.writeBand (wcmd Table.band 1 newThreshold) 1 newThreshold) lab).plan.gen = 1
    ∧ (run (.writeBand (wcmd Table.band 0 newGeometry) 0 newGeometry) lab).band 0 = { testBand with span := 16 }
    ∧ (∃ w, (rd labWindow.plan.windows w).enabled = true ∧ (rd labWindow.plan.windows w).band = 1) := by decide +kernel

/-- Records of link 22: with another lamp node, retired, and with AUTO_RETUNE off and too wide for a window beside it. -/
def otherLamp : List Byte := { testCfg with lampNode := 64 }.bytes
def retired : List Byte := { testCfg with inUse := false }.bytes

/-- A window that ends one half step below link 22's channel. -/
def labBeside : State :=
  { lab with plan := { lab.plan with
      windows := wr lab.plan.windows 0 { enabled := true, band := 1, anchor := .bottom, size := 90, complement := false } } }

theorem test_meets_LinkWrite :
    lab.takesWrite (wcmd Table.link 22 otherLamp) Table.link 22 otherLamp = true
    ∧ readLinkCfg retired = some { testCfg with inUse := false } ∧ (labTuning.link 22).carrier.phase ≠ .idle
    ∧ (run (.writeLink (wcmd Table.link 22 retired) 22 retired) lab).link 22
        = { testLink with cfg := { testCfg with inUse := false }, carrier := .cold }
    ∧ rd (run (.writeLink (wcmd Table.link 22 otherLamp) 22 otherLamp) lab).lmp.debts 22 = some 63
    ∧ (let wide := { testCfg with width := 700 }.bytes
       labBeside.takesWrite (wcmd Table.link 22 wide) Table.link 22 wide = true
       ∧ status (run (.writeLink (wcmd Table.link 22 wide) 22 wide) labBeside) = some 4) := by decide +kernel

/-- A wider carrier makes the cells beside its own OWN and the spare in one of them leaves; a retirement unmarks the cell and
withdraws the MIX frame; a write that changes no lamp field sets the pending flag. -/
theorem test_meets_LinkWrite_reports :
    let wide := { testCfg with width := 1000 }.bytes
    let s := { lab with
      swp := { lab.swp with cells := wr lab.swp.cells 1 (wr (rd lab.swp.cells 1) 12 { Cell.cold with state := .own }) }
      cpl := { lab.cpl with spares := wr lab.cpl.spares 1 [{ channel := 92, level := -99 }, { channel := 300, level := -98 }] }
      tbm := { lab.tbm with dests := wr lab.tbm.dests 3 { enabled := true, link := some 22, wired := 0, feed := none, gain := 0, duck := 8 } }
      rif := { lab.rif with voiceQ := wr lab.rif.voiceQ 3 (some fillFrame) } }
    let u := run (.writeLink (wcmd Table.link 22 wide) 22 wide) s
    let v := run (.writeLink (wcmd Table.link 22 retired) 22 retired) s
    (u.swp.cell 1 11).state = .own ∧ (u.swp.cell 1 300).state ≠ .own ∧ (rd u.cpl.spares 1).map (·.channel) = [300]
    ∧ rd u.rif.voiceQ 3 = some fillFrame ∧ rd u.lmp.pending 22 = true
    ∧ (v.swp.cell 1 12).state = .unmeasured ∧ (rd v.cpl.spares 1).length = 2 ∧ rd v.rif.voiceQ 3 = none := by decide +kernel

theorem test_meets_WindowWrite :
    lab.takesWrite (wcmd Table.window 7 [1, 1, 0, 0, 100, 0]) Table.window 7 [1, 1, 0, 0, 100, 0] = true
    ∧ (readWindow [1, 1, 0, 0, 90, 0]).isSome
    ∧ status (run (.writeWindow (wcmd Table.window 7 [1, 1, 0, 0, 101, 0]) 7 [1, 1, 0, 0, 101, 0]) lab) = some 4
    ∧ status (run (.writeWindow (wcmd Table.window 7 [1, 1, 0, 0, 90, 0]) 7 [1, 1, 0, 0, 90, 0]) lab) = some 0
    ∧ status (run (.writeWindow (wcmd Table.window 7 [1, 1, 0, 3, 0xE9, 0]) 7 [1, 1, 0, 3, 0xE9, 0]) lab) = some 7 := by
  decide +kernel

/-- A switcher at node 90 in slot 0, ONLINE, source 12 mapped to link 22 and stated on PROGRAM. -/
def slotRecord (node en : Byte) : List Byte := [node, en, 7] ++ List.replicate 24 0
def labSlot : State :=
  let t : Slot := { Slot.cold with
    cfg := { Slot.cold.cfg with node := 90, enabled := true }, map := wr Slot.cold.map 12 (some 22), state := .online,
    contrib := wr emptyContribution 12 { program := true, preview := false, iso := false }, silence := some 200 }
  { lab.onLink 22 fun l => { l with tally := { program := true, preview := false, iso := false } } with
    tly := { slots := wr lab.tly.slots 0 t } }

theorem test_meets_SwitcherAndMapWrites :
    labSlot.takesWrite (wcmd Table.switcher 3 (slotRecord 90 1)) Table.switcher 3 (slotRecord 90 1) = true
    ∧ (readSlotCfg (slotRecord 91 1)).isSome ∧ (readSlotCfg (slotRecord 0 0)).isSome ∧ (slotRecord 20 0).length = 27
    ∧ status (run (.writeSwitcher (wcmd Table.switcher 3 (slotRecord 90 1)) 3 (slotRecord 90 1)) labSlot) = some 8
    ∧ ((run (.writeSwitcher (wcmd Table.switcher 0 (slotRecord 91 1)) 0 (slotRecord 91 1)) labSlot).slot 0).state = .offline
    ∧ ((run (.writeSwitcher (wcmd Table.switcher 0 (slotRecord 91 1)) 0 (slotRecord 91 1)) labSlot).link 22).tally = .empty
    ∧ (∀ i, ((labSlot.slot i).cfg.enabled = true → (labSlot.slot i).state = .online))
    ∧ ((run (.writeSourcemap (wcmd Table.sourcemap 15 (List.replicate 64 63)) 15 (List.replicate 64 63)) labSlot).slot 3).map
        = tab (fun n => if 192 ≤ n.val then some 63 else none)
    ∧ labSlot.takesWrite (wcmd Table.sourcemap 15 (List.replicate 64 64)) Table.sourcemap 15 (List.replicate 64 64) = true := by
  decide +kernel

theorem test_meets_LampWrites :
    lab.takesWrite (wcmd Table.palette 7 [1, 2, 3, 15]) Table.palette 7 [1, 2, 3, 15] = true
    ∧ lab.takesWrite (wcmd Table.condition 5 [7, 3]) Table.condition 5 [7, 3] = true
    ∧ lab.takes (cmd Req.lampTest [1]) Req.lampTest [1] = true ∧ lab.takes (cmd Req.lampTest [2]) Req.lampTest [2] = true
    ∧ rd (run (.writePalette (wcmd Table.palette 7 [1, 2, 3, 15]) 7 [1, 2, 3, 15]) lab).lmp.pending 22 = true
    ∧ status (run (.writePalette (wcmd Table.palette 7 [1, 2, 3, 16]) 7 [1, 2, 3, 16]) lab) = some 7
    ∧ rd (run (.writeCondition (wcmd Table.condition 5 [7, 3]) 5 [7, 3]) lab).lmp.conditions 5
        = { palette := 7, cadence := .alternate }
    ∧ status (run (.writeCondition (wcmd Table.condition 6 [7, 3]) 6 [7, 3]) lab) = some 10
    ∧ (run (.lampTest (cmd Req.lampTest [1]) [1]) lab).lmp.test = true
    ∧ lab.takesWrite (wcmd Table.palette 7 [1, 2, 3]) Table.palette 7 [1, 2, 3] = true
    ∧ status (run (.writePalette (wcmd Table.palette 7 [1, 2, 3]) 7 [1, 2, 3]) lab) = some 7
    ∧ lab.takesWrite (wcmd Table.condition 6 [7, 3, 0]) Table.condition 6 [7, 3, 0] = true
    ∧ status (run (.writeCondition (wcmd Table.condition 6 [7, 3, 0]) 6 [7, 3, 0]) lab) = some 7 := by decide +kernel

/-- Talk source 2 is key 4 of node 120, and source 15, the feed of destination 3, key 0 of node 130; source 2 speaks to
destination 3 at code 4. -/
def labTalk : State :=
  { lab with tbm := { lab.tbm with
      sources := wr (wr lab.tbm.sources 2 { node := 120, key := 4, enabled := true }) 15 { node := 130, key := 0, enabled := true }
      dests := wr lab.tbm.dests 3 { enabled := true, link := some 22, wired := 0, feed := some 15, gain := 0, duck := 8 }
      xpoints := wr lab.tbm.xpoints 2 (wr (rd lab.tbm.xpoints 2) 3 { on := true, gain := 4 })
      call := wr lab.tbm.call 3 true } }

theorem test_meets_TalkbackWrites :
    labTalk.takesWrite (wcmd Table.talksrc 15 [120, 4, 1]) Table.talksrc 15 [120, 4, 1] = true
    ∧ (readTalkSource [120, 15, 0]).isSome ∧ readTalkSource [120, 16, 0] = none
    ∧ status (run (.writeTalksrc (wcmd Table.talksrc 15 [120, 4, 1]) 15 [120, 4, 1]) labTalk) = some 8
    ∧ labTalk.takesWrite (wcmd Table.dest 3 [0, 22, 0, 15, 0, 8]) Table.dest 3 [0, 22, 0, 15, 0, 8] = true
    ∧ (readDest [0, 22, 0, 15, 0, 8]).isSome ∧ readDest [1, 64, 0, 15, 0, 8] = none
    ∧ rd (run (.writeDest (wcmd Table.dest 3 [0, 22, 0, 15, 0, 8]) 3 [0, 22, 0, 15, 0, 8]) labTalk).tbm.call 3 = false
    ∧ rd (run (.writeDest (wcmd Table.dest 3 [0, 22, 0, 15, 0, 8]) 3 [0, 22, 0, 15, 0, 8]) labTalk).lmp.pending 22 = true
    ∧ labTalk.takesWrite (wcmd Table.xpoint 15 (List.replicate 64 1)) Table.xpoint 15 (List.replicate 64 1) = true
    ∧ rd (rd (run (.writeXpoint (wcmd Table.xpoint 15 (List.replicate 64 1)) 15 (List.replicate 64 1)) labTalk).tbm.xpoints 15) 31
        = { on := true, gain := 1 }
    ∧ status (run (.writeXpoint (wcmd Table.xpoint 15 (List.replicate 64 2)) 15 (List.replicate 64 2)) labTalk) = some 7 := by
  decide +kernel

theorem test_meets_SettingsWrite :
    let r := Settings.cold.bytes
    lab.takesWrite (wcmd Table.settings 0 r) Table.settings 0 r = true ∧ r.length = 12 ∧ lab.mgr.locked = false
    ∧ lab.takesWrite (wcmd Table.settings 1 r) Table.settings 1 r = true
    ∧ status (run (.writeSettings (wcmd Table.settings 1 r) 1 r) lab) = some 10
    ∧ status (run (.writeSettings (wcmd Table.settings 0 r) 0 r) lab) = some 0
    ∧ lab.takesWrite (wcmd Table.settings 1 [0]) Table.settings 1 [0] = true
    ∧ status (run (.writeSettings (wcmd Table.settings 1 [0]) 1 [0]) lab) = some 7 := by decide +kernel

/-! ## The planner -/

/-- The request of a CHECK of channel 300 of band 1 by link 22. -/
def askCheck : MgrRequest :=
  { kind := .check, band := 1, channel := 300, width := 200, mover := some 22, asker := { id := 7, src := 200 } }

def checkParams : List Byte := [1, 1, 44, 0, 200, 22]

/-- The same request waits behind a running operation. -/
def labWaiting : State := { audited lab with cpl := { (audited lab).cpl with mgrPlace := some askCheck } }

theorem test_meets_PlannerRequests :
    lab.takes (cmd Req.check checkParams) Req.check checkParams = true ∧ lab.cpl.active = none
    ∧ lab.takes (cmd Req.audit [1]) Req.audit [1] = true ∧ lab.takes (cmd Req.refill [1]) Req.refill [1] = true
    ∧ lab.takes (cmd Req.signature []) Req.signature [] = true ∧ (lab.band 1).enabled = true ∧ (lab.band 0).enabled = false
    ∧ (u16 1 44 = 300 ∧ u16 0 200 = 200)
    ∧ (audited lab).takes (cmd Req.audit [1]) Req.audit [1] = true
    ∧ (audited lab).cpl.active ≠ none ∧ (audited lab).cpl.mgrPlace = none ∧ labWaiting.cpl.mgrPlace ≠ none
    ∧ (run (.check (cmd Req.check checkParams) checkParams) lab).cpl.log.header
      = some { operation := .check, requester := .management, link := some 22, band := 1, channel := some 300, width := some 200
               mode := .full, gen := 0 }
    ∧ status (run (.refill (cmd Req.refill [0]) [0]) lab) = some 7
    ∧ status (run (.audit (cmd Req.audit [1]) [1]) labWaiting) = some 2 := by decide +kernel

theorem test_meets_ArbiterTakesNextWork :
    (∃ r : RteRequest, r = { kind := .search, link := 22, channel := none, mode := .full } ∧ r.kind ≠ .refill)
    ∧ labWaiting.cpl.rtePlace = none ∧ labWaiting.cpl.mgrPlace = some askCheck ∧ askCheck.kind ≠ .refill
    ∧ (let s : State := { lab with cpl := { lab.cpl with flags := wr lab.cpl.flags 1 true } }
       s.cpl.rtePlace = none ∧ s.cpl.mgrPlace = none ∧ rd s.cpl.flags 1 = true
       ∧ (∀ c : BandId, c < 1 → rd s.cpl.flags c = false) ∧ (s.band 1).enabled = true
       ∧ (arbiterNext s).cpl.active.map (·.kind) = some .refill)
    ∧ (∀ b, rd lab.cpl.flags b = false) := by
  refine ⟨⟨_, rfl, by decide⟩, ?_⟩
  decide +kernel

theorem test_meets_ConflictLogCounts :
    ConflictLog.empty.records = [] ∧ ConflictLog.empty.total = 0 ∧ ConflictLog.empty.overflow = 0 := by decide

/-- A second link at the channel of link 22, so that a check of channel 100 by link 22 finds a conflict. -/
def labCrowded : State :=
  { lab with plan := { lab.plan with
      links := wr lab.plan.links 23 { testLink with cfg := { testCfg with tx := 70, rx := 71, rx2 := 0, lampEnable := false } } } }

/-- A CHECK of management, and a CHECK of the RTE, of link 22 at channel 100. -/
def checking (s : State) (origin : Origin) (channel : Nat) : State :=
  let op := s.opOf (.mgr { askCheck with channel := channel })
  let asker : Option Asker := if origin = .management then some { id := 7, src := 200 } else none
  let header : LogHeader :=
    { operation := .check, requester := origin, link := some 22, band := 1, channel := some channel, width := some 200
      mode := .full, gen := s.plan.gen }
  { s with cpl := { s.cpl with
      active := some { op with origin := origin, asker := asker }, log := { ConflictLog.empty with header := some header } } }

theorem test_meets_CheckRunsToItsVerdict :
    (checking labCrowded .management 100).live = true
    ∧ ((checking labCrowded .management 100).cpl.active.map fun op => (op.logged, op.findings.list.map (·.kind)))
      = some (0, [.spacing])
    ∧ said (run .checkCompletion (checking labCrowded .management 100)) = [[5, 7, 5, 0, 1, 0, 0]]
    ∧ said (run .checkCompletion (checking lab .management 100)) = [[5, 7, 0, 0, 0, 0, 0]]
    ∧ said (run .checkCompletion (checking lab .management 1000)) = [[5, 7, 7, 0, 0, 0, 0]]
    ∧ (run .conflictLogged (checking labCrowded .management 100)).cpl.log.total = 1
    ∧ ((checking lab .retune 100).cpl.active.map (·.origin)) = some .retune
    ∧ (run .checkCompletion (checking lab .retune 100)).cpl.log.verdict = some .clear := by decide +kernel

/-- The bounds of R22: the last channel, the least and the greatest width, the last link; and one beyond each. -/
theorem test_meets_CheckRunsToItsVerdict_bounds :
    let snap := caseSnap false false
    let found (n w : Nat) (mover : Option Nat) : Findings := compatCheck snap 0 n w mover .exclusionOnly
    snap.band = some (caseBand false) ∧ (caseBand false).enabled = true ∧ (caseBand false).count = 8000
    ∧ (found 7999 200 (some 63)).list.map (·.victim) = [.window 3] ∧ found 5524 1 (some 63) = .conflicts []
    ∧ (found 5524 40000 none).list.map (·.victim) = [.window 3]
    ∧ found 8000 200 none = .range ∧ found 5524 0 none = .range ∧ found 5524 40001 none = .range
    ∧ found 5524 200 (some 64) = .range ∧ compatCheck { snap with band := none } 0 0 200 none .full = .range
    ∧ compatCheck { snap with band := some { caseBand false with enabled := false } } 0 0 200 none .full = .range
    ∧ standingEvaluation { snap with band := none } 0 = .range := by decide +kernel

/-- The tests of R27, R29 and R33 on two and three entries, by their items. -/
theorem test_orders_of_R27_R29_R33 :
    let entry (i : Nat) : Tone := (.link i false, 0, 0)
    let c : Tone := (.candidate, 0, 0)
    let items2 (l : List (Tone × Tone × Tone)) := l.map fun x => (x.1.1, x.2.1.1, x.2.2.1)
    items2 (twoToneTests 2 entry c) =
      [(.candidate, .link 0 false, .link 1 false), (.link 0 false, .candidate, .link 1 false),
       (.candidate, .link 1 false, .link 0 false), (.link 1 false, .candidate, .link 0 false),
       (.link 0 false, .link 1 false, .candidate), (.link 1 false, .link 0 false, .candidate)]
    ∧ (threeToneTests 2 entry c).map (fun x => (x.1.1, x.2.1.1, x.2.2.1.1, x.2.2.2.1)) = []
    ∧ (standingTwoTone 3 entry).length = 6 ∧ (standingThreeTone 4 entry).length = 12 := by decide +kernel

/-- A SIGNATURE of management runs. -/
def signing (s : State) : State :=
  let q : MgrRequest :=
    { kind := .signature, band := 0, channel := 0, width := 0, mover := none, asker := { id := 7, src := 200 } }
  { s with cpl := { s.cpl with active := some (s.opOf (.mgr q)) } }

theorem test_meets_AuditAndSignatureComplete :
    (audited labCrowded).live = true
    ∧ ((audited labCrowded).cpl.active.map fun op => (op.kind, op.asker)) = some (.audit, some { id := 7, src := 200 })
    ∧ said (run .auditCompletion (audited lab)) = [[6, 7, 0, 0, 0, 0, 0]]
    ∧ said (run .auditCompletion (audited labCrowded)) = [[6, 7, 5, 0, 1, 0, 0]]
    ∧ said (run .signatureCompletion (signing lab))
      = [[8, 7, 0] ++ halfBytes (crc16 [22, 1, 0, 100, 0, 200]) ++ [1, 0, 0]] := by decide +kernel

/-- The Spare List of band 1 holds link 22's own channel, a channel beside the second link, and a clear one. -/
def labSpares : State :=
  let s := { labCrowded with cpl := { labCrowded.cpl with
    spares := wr labCrowded.cpl.spares 1 [{ channel := 100, level := -99 }, { channel := 101, level := -98 },
      { channel := 500, level := -97 }, { channel := 600, level := -96 }] } }
  { s with cpl := { s.cpl with active := some (s.opOf (.rte { kind := .search, link := 22, channel := none, mode := .full })) } }

theorem test_meets_SearchWalksSpareList :
    labSpares.live = true
    ∧ (labSpares.cpl.active.map fun op => (op.kind, op.found, op.band, op.currentChannel)) = some (.search, none, 1, some 100)
    ∧ ((rd labSpares.cpl.spares 1).map (·.channel)).Nodup ∧ (rd labSpares.cpl.spares 1).length ≤ 16
    ∧ (rd (run .searchEntryVerdict labSpares).cpl.spares 1).map (·.channel) = [100, 500, 600]
    ∧ (rd (run .searchCompletion labSpares).cpl.spares 1).map (·.channel) = [100, 600] := by decide +kernel

/-- A SEARCH with a CLEAR entry found already. -/
theorem test_meets_SearchWalksSpareList_found :
    let s : State := { labSpares with cpl := { labSpares.cpl with
      active := labSpares.cpl.active.map fun op => { op with found := some 500 } } }
    (s.cpl.active.map fun op => (op.kind, op.found)) = some (.search, some 500)
    ∧ exec .searchEntryVerdict s = .next s.quieted ∧ (run .searchCompletion s).cpl.spares = s.cpl.spares := by
  refine ⟨by decide +kernel, rfl, by decide +kernel⟩

/-- A REFILL of band 1 by management; cell 62, centre 500, is QUIET at −97 and cell 75, centre 604, at −99. -/
def labRefill : State :=
  let q : MgrRequest := { askCheck with kind := .refill, channel := 0, width := 0, mover := none }
  let quiet (l : Int) : Cell := { Cell.cold with state := .quiet, last := some l }
  let s := { lab with swp := (lab.swp.setCell 1 62 (quiet (-97))).setCell 1 75 (quiet (-99)) }
  { s with cpl := { s.cpl with active := some (s.opOf (.mgr q)) } }

theorem test_meets_RefillReplacesSpareList :
    labRefill.live = true
    ∧ (labRefill.cpl.active.map fun op => (op.kind, op.band, op.snap.band, op.asker))
      = some (.refill, 1, some testBand, some { id := 7, src := 200 })
    ∧ testBand.enabled = true
    ∧ rd (run .refillCompletion labRefill).cpl.spares 1 = [{ channel := 604, level := -99 }, { channel := 500, level := -97 }]
    ∧ said (run .refillCompletion labRefill) = [[7, 7, 0, 2, 0, 0]] := by decide +kernel

/-- A REFILL that a band write emptied meanwhile, and a walk that ends at the sixteenth CLEAR candidate. -/
theorem test_meets_RefillReplacesSpareList_more :
    let emptied : State := { labRefill with cpl := { labRefill.cpl with
      active := labRefill.cpl.active.map fun op => { op with emptied := true } } }
    ((emptied.cpl.active.map fun op => (op.kind, op.emptied)) = some (.refill, true))
    ∧ rd (run .refillCompletion emptied).cpl.spares 1 = [] ∧ said (run .refillCompletion emptied) = [[7, 7, 0, 0, 0, 0]]
    ∧ (refillWalk (lab.snapshot 1) testBand 1 ((List.range 17).map fun j => (j + 20, -99)) 16).map (·.channel)
      = (List.range 16).map fun j => testBand.cellCentre (j + 20) := by decide +kernel

/-! ## Retuning -/

def onAir : Buses := { program := true, preview := false, iso := false }

/-- Link 22 is on PROGRAM. -/
def labOnAir : State := lab.onLink 22 fun l => { l with tally := onAir }

theorem test_meets_OperatorOrdersStaged :
    lab.takes (cmd Req.moveLink [22, 1, 44, 0]) Req.moveLink [22, 1, 44, 0] = true
    ∧ lab.takes (cmd Req.releaseLink [22, 0]) Req.releaseLink [22, 0] = true
    ∧ lab.takes (cmd Req.releaseLink [64, 0]) Req.releaseLink [64, 0] = true ∧ (lab.link 63).cfg.inUse = false
    ∧ (lab.link 22).cfg.inUse = true ∧ lab.rte.holds 22 = false ∧ labTuning.rte.holds 22 = true ∧ lab.rte.staged = none
    ∧ (labOnAir.link 22).tally.program = true
    ∧ status (run (.moveLink (cmd Req.moveLink [22, 3, 0xE8, 0]) [22, 3, 0xE8, 0]) lab) = some 7
    ∧ status (run (.moveLink (cmd Req.moveLink [22, 3, 0xE7, 0]) [22, 3, 0xE7, 0]) lab) = some 0
    ∧ status (run (.moveLink (cmd Req.moveLink [22, 3, 0xE7, 0]) [22, 3, 0xE7, 0]) labOnAir) = some 6
    ∧ status (run (.releaseLink (cmd Req.releaseLink [22, 1]) [22, 1]) labOnAir) = some 0
    ∧ status (run (.releaseLink (cmd Req.releaseLink [22, 0]) [22, 0]) labTuning) = some 2
    ∧ ((run (.moveLink (cmd Req.moveLink [22, 1, 44, 0]) [22, 1, 44, 0]) lab).link 22).carrier.phase = .checking := by
  decide +kernel

/-- Link 22's order is Active in CHECKING, its SEARCH running. -/
def labChecking : State :=
  let s := { lab.onCarrier 22 fun c => { c with phase := .checking } with
    rte := { lab.rte with active := some (order 22 .spare .operator) } }
  { s with cpl := { s.cpl with active := some (s.opOf (.rte { kind := .search, link := 22, channel := none, mode := .full })) } }

/-- Link 22's order is staged behind an order of link 23 that is Active, or deferred. -/
def labStaged : State :=
  { labCrowded.onCarrier 22 fun c => { c with phase := .queued } with
    rte := { lab.rte with active := some (order 23 .spare .operator), staged := some (order 22 .spare .operator) } }

theorem test_meets_CancelMoveWithdraws :
    lab.takes (cmd Req.cancelMove [64]) Req.cancelMove [64] = true ∧ lab.takes (cmd Req.cancelMove [22]) Req.cancelMove [22] = true
    ∧ lab.rte.holds 22 = false ∧ labTuning.takes (cmd Req.cancelMove [22]) Req.cancelMove [22] = true
    ∧ (labTuning.link 22).carrier.phase ≠ .checking ∧ (labChecking.link 22).carrier.phase = .checking
    ∧ labChecking.cpl.rtePlace = none ∧ (labChecking.cpl.active.map (·.origin)) = some .retune
    ∧ labStaged.rte.holds 22 = true ∧ (labStaged.rte.active.map (·.link)) = some 23
    ∧ status (run (.cancelMove (cmd Req.cancelMove [22]) [22]) labTuning) = some 2
    ∧ (run (.cancelMove (cmd Req.cancelMove [22]) [22]) labChecking).rte.owed = true
    ∧ ((run (.cancelMove (cmd Req.cancelMove [22]) [22]) labStaged).link 22).carrier.phase = .idle := by decide +kernel

/-- Link 22 is wanted for HEALTH and link 23 for RESCUE. -/
def labWanted : State :=
  { labCrowded with lmn := { wants := wr (wr lab.lmn.wants 22 (some .health)) 23 (some .rescue) } }

theorem test_meets_StagedSlotAndPromotion :
    labBypass.rif.mode = .bypass ∧ labStaged.rif.mode = .normal ∧ labStaged.rte.active.isSome ∧ labStaged.rte.staged.isSome
    ∧ (let s := { labOnAir with rte := { lab.rte with
        active := some (order 1 .spare .operator), deferred := [order 22 .spare .health, order 23 .spare .health] } }
       (s.rte.deferred.map (·.link)).Nodup ∧ (s.link 22).tally.program = true ∧ (s.link 23).tally.program = false
       ∧ (rteSettle s).rte.staged = some (order 23 .spare .health))
    ∧ (let s := { labWanted with rte := { lab.rte with active := some (order 1 .spare .operator) } }
       s.rte.staged = none ∧ s.want 23 = some .rescue ∧ s.want 22 = some .health ∧ Reason.rescue.rank < Reason.health.rank
       ∧ (rteSettle s).rte.staged = some (order 23 .spare .rescue))
    ∧ (∀ k, lab.want k = none)
    ∧ (let s := { labOnAir with rte := { lab.rte with staged := some (order 22 .spare .health) } }
       s.rte.active = none ∧ s.want 22 = none ∧ (s.link 22).tally.program = true
       ∧ (rteSettle s).rte.deferred = [order 22 .spare .health])
    ∧ (let s := { labOnAir with rte := { lab.rte with
        staged := some (order 22 .spare .health), deferred := List.replicate 8 (order 22 .spare .health) } }
       8 ≤ s.rte.deferred.length ∧ (rteSettle s).rte.staged = s.rte.staged)
    ∧ (let s := { labOnAir with rte := { lab.rte with staged := some (order 22 .spare .rescue) } }
       (rteSettle s).rte.active = some (order 22 .spare .rescue)) := by decide +kernel

/-- The promotions of R102 by target and reason, the RTE place behind a running operation, and a deferral with its note. -/
theorem test_meets_StagedSlotAndPromotion_requests :
    let with' (o : Order) (s : State) : State := { s with rte := { lab.rte with staged := some o } }
    let op (s : State) := (rteSettle s).cpl.active.map fun op => (op.kind, op.channel, op.mode)
    op (with' (order 22 .spare .health) lab) = some (.search, none, .full)
    ∧ op (with' (order 22 (.channel 999) .operator) lab) = some (.check, some 999, .full)
    ∧ op (with' (.fresh 22 (.channel 999) .operator true) lab) = some (.check, some 999, .exclusionOnly)
    ∧ ((rteSettle (with' (order 22 .spare .health) (audited lab))).cpl.rtePlace.map (·.kind)) = some .search
    ∧ ((rteSettle (with' (order 22 .off .operator) lab)).link 22).carrier.phase = .tuning
    ∧ ((rteSettle (with' (order 22 (.channel 100) .verify) lab)).link 22).carrier.phase = .tuning
    ∧ said (rteSettle (with' (order 22 .spare .health) labOnAir)) = [[4, 22, 0]]
    ∧ lab.orderOf 22 .verify = { order 22 (.channel 100) .verify with force := false } := by decide +kernel

theorem test_meets_SettlingComesToRest :
    labWanted.rte.deferred.length ≤ 8 ∧ labWanted.rif.mode = .normal
    ∧ ((rteSettle labWanted).rte.active.map (·.link)) = some 23 ∧ ((rteSettle labWanted).rte.staged.map (·.link)) = some 22 := by
  decide +kernel

theorem test_meets_PlannerResultTaken :
    ({ lab.rte with owed := true } : Rte).owed = true ∧ lab.rte.owed = false ∧ lab.rte.active = none
    ∧ labChecking.rte.owed = false ∧ labChecking.rte.active.isSome ∧ (labChecking.link 22).carrier.phase = .checking
    ∧ (0 : Half) = labChecking.plan.gen ∧ (1 : Half) ≠ labChecking.plan.gen
    ∧ ((takeResult (.clear 300 0) labChecking).link 22).carrier.phase = .tuning
    ∧ ((takeResult (.clear 300 1) labChecking).rte.active.map (·.confirms)) = some 1
    ∧ said (takeResult (.failed .noSpare 0) labChecking) = [[2, 22, 3, 0xFF, 0xFE, 2, 0, 0]] := by decide +kernel

/-- An Active order past CHECKING awaits no planner result. -/
theorem test_meets_PlannerResultTaken_none :
    labTuning.rte.owed = false ∧ (labTuning.rte.active.map fun o => (labTuning.link o.link).carrier.phase) = some .tuning
    ∧ (takeResult (.failed .noSpare 0) labTuning).rte = labTuning.rte := by decide +kernel

theorem test_meets_LaunchSendsTuneBatch :
    lab.rte.hold = [] ∧ (launch (order 22 .spare .health) (.channel 300) lab).rte.hold = []
    ∧ (launch (order 22 .spare .health) (.channel 300) lab).rte.tuneTimer = some 300
    ∧ (launch (order 22 .spare .health) (.channel 300) lab).rif.ctlQ.map (fun q => (q.frame.dst, q.frame.payload))
      = [(60, [22, 1, 1, 1, 44, 0, 200]), (61, [22, 1, 1, 1, 44, 0, 200]), (62, [22, 1, 1, 1, 44, 0, 200])] := by decide +kernel

/-- A TUNED frame from a node about link 22. -/
def answer (src : Node) (tag : Byte) (channel : Nat) (result : Byte) : Instr :=
  let p : List Byte := [22, tag] ++ n16 channel ++ [result]
  .tuned (frm Kind.tuned 20 src p) p

/-- The same order in REVERTING to channel 100, and as a VERIFY order, and with no previous channel. -/
def labReverting : State :=
  { labTuning.onCarrier 22 fun c => { c with phase := .reverting } with
    rte := { labTuning.rte with active := labTuning.rte.active.map fun o => { o with cause := some .tuneFail } } }
def labVerify : State := { labTuning with rte := { labTuning.rte with
  active := labTuning.rte.active.map fun o => { o with reason := .verify } } }
def labFirst : State := { labTuning with rte := { labTuning.rte with
  active := labTuning.rte.active.map fun o => { o with previous := none } } }

/-- Node 61 alone has still to answer. -/
def lastOf (s : State) : State := { s with rte := { s.rte with
  active := s.rte.active.map fun o => { o with nodes := o.nodes.map fun n => { n with ok := n.node ≠ 61 } } } }

theorem test_meets_TunedAnswersMarked :
    labTuning.consumes Kind.tuned (frm Kind.tuned 20 61 [22, 9, 0, 200, 0]) [22, 9, 0, 200, 0] = true
    ∧ labTuning.consumes Kind.tuned (frm Kind.tuned 20 61 [22, 9]) [22, 9] = true
    ∧ lab.rte.active = none
    ∧ (run (answer 61 9 200 0) labTuning).rte.active.map (fun o => o.nodes.map (·.ok)) = some [true, true, false]
    ∧ (run (answer 60 9 200 1) labTuning).rte = labTuning.rte ∧ (run (answer 61 8 200 1) labTuning).rte = labTuning.rte
    ∧ (run (answer 61 9 201 1) labTuning).rte = labTuning.rte ∧ (run (answer 61 9 200 2) labTuning).rte = labTuning.rte := by
  decide +kernel

theorem test_meets_TunedOrderDoesNotMatter :
    (61 : Node) ≠ 62 ∧ (labTuning.link 22).carrier.phase = .tuning
    ∧ labTuning.consumes Kind.tuned (frm Kind.tuned 20 61 [22, 9, 0, 200, 0]) [22, 9, 0, 200, 0] = true
    ∧ labTuning.consumes Kind.tuned (frm Kind.tuned 20 62 [22, 9, 0, 200, 0]) [22, 9, 0, 200, 0] = true
    ∧ (labTuning.rte.active.map fun o => (o.accepts .tuning 61 22 9 200, o.accepts .tuning 62 22 9 200)) = some (true, true) := by
  decide +kernel

theorem test_meets_LastAnswerCommits :
    (lastOf labTuning).consumes Kind.tuned (frm Kind.tuned 20 61 [22, 9, 0, 200, 0]) [22, 9, 0, 200, 0] = true
    ∧ (lastOf labTuning).rte.active.map (fun o => (o.chosen, o.accepts .tuning 61 22 9 200,
        o.nodes.all fun n => n.node = 61 || n.ok)) = some (some (.channel 200), true, true)
    ∧ ((run (answer 61 9 200 0) (lastOf labTuning)).link 22).carrier
      = { channel := some 200, state := .committed, forced := false, phase := .idle }
    ∧ said (run (answer 61 9 200 0) (lastOf labTuning)) = [[1, 22, 0, 100, 0, 200, 0, 0, 0, 1]] := by decide +kernel

theorem test_meets_FailedTuningReverts :
    labTuning.consumes Kind.tuned (frm Kind.tuned 20 61 [22, 9, 0, 200, 1]) [22, 9, 0, 200, 1] = true
    ∧ labTuning.rte.active.map (·.accepts .tuning 61 22 9 200) = some true ∧ labTuning.live = true
    ∧ labTuning.rte.tuneTimer ≠ none
    ∧ ((run (answer 61 9 200 1) labTuning).link 22).carrier.phase = .reverting
    ∧ (run .tuneTimerExpiry labTuning).rte.active.bind (·.cause) = some .tuneTimeout
    ∧ ((run .tuneTimerExpiry labVerify).link 22).carrier.state = .lost
    ∧ ((run (answer 61 9 200 1) labFirst).link 22).carrier.phase = .idle := by decide +kernel

theorem test_meets_RevertEnds :
    (lastOf labReverting).consumes Kind.tuned (frm Kind.tuned 20 61 [22, 9, 0, 100, 0]) [22, 9, 0, 100, 0] = true
    ∧ labReverting.consumes Kind.tuned (frm Kind.tuned 20 61 [22, 9, 0, 100, 1]) [22, 9, 0, 100, 1] = true
    ∧ labReverting.rte.active.map (·.accepts .reverting 61 22 9 100) = some true ∧ labReverting.rte.tuneTimer ≠ none
    ∧ (lastOf labReverting).rte.active.map (fun o => o.nodes.all fun n => n.node = 61 || n.ok) = some true
    ∧ ((run (answer 61 9 100 0) (lastOf labReverting)).link 22).carrier = testLink.carrier
    ∧ ((run (answer 61 9 100 1) labReverting).link 22).carrier.state = .lost
    ∧ ((run .tuneTimerExpiry labReverting).link 22).health.grade = .down := by decide +kernel

/-- A failed tuning and the two ends of a revert with one frame of the batch and one of an earlier batch held; the cells of the
leaving target and of the previous channel marked anew. -/
theorem test_meets_FailedTuning_and_RevertEnds_holds :
    let held (s : State) : State := { s with
      rif := labFull.rif
      rte := { s.rte with hold := [{ frame := fillFrame, awaited := true }, { frame := fillFrame, awaited := false }] } }
    let own (s : State) : State := { s with swp := s.swp.setCell 1 25 { Cell.cold with state := .own } }
    ((run (answer 61 9 200 1) (held labTuning)).rte.hold.map (·.awaited)) = [false, true, true, true]
    ∧ (run (answer 61 9 200 1) (held labTuning)).rte.tuneTimer = none
    ∧ (run (answer 61 9 200 1) labTuning).rte.tuneTimer = some 300
    ∧ ((run .tuneTimerExpiry (held labVerify)).rte.hold.map (·.awaited)) = [false]
    ∧ ((run (answer 61 9 200 1) (held labFirst)).rte.hold.map (·.awaited)) = [false, false, false, false]
    ∧ ((run (answer 61 9 100 1) (held labReverting)).rte.hold.map (·.awaited)) = [false]
    ∧ ((run (answer 61 9 100 0) (held (lastOf labReverting))).rte.hold.map (·.awaited)) = [false, false]
    ∧ ((run (answer 61 9 200 1) (own labTuning)).swp.cell 1 25).state = .unmeasured
    ∧ ((run (answer 61 9 100 1) labReverting).swp.cell 1 12).state = .own := by decide +kernel

/-- The refill that follows a commit in an enabled band; the notes of a failed tuning and of the two ends of a revert. -/
theorem test_meets_RetuneNotes :
    (run (answer 61 9 200 0) (lastOf labTuning)).cpl.active.map (fun op => (op.kind, op.band)) = some (.refill, 1)
    ∧ said (run .tuneTimerExpiry labVerify) = [[5, 22, 1, 0, 100, 5]]
    ∧ (said (run (answer 61 9 200 1) labFirst)).getLast? = some [2, 22, 0, 0xFF, 0xFE, 4, 0, 0]
    ∧ said (run (answer 61 9 100 0) (lastOf labReverting)) = [[2, 22, 0, 0xFF, 0xFE, 4, 0, 0]]
    ∧ said (run (answer 61 9 100 1) labReverting) = [[5, 22, 1, 0, 100, 4]]
    ∧ said (run .tuneTimerExpiry labReverting) = [[5, 22, 1, 0, 100, 4]] := by decide +kernel

/-! ## Tally -/

/-- A TALLY frame from a switcher. -/
def tally (src : Node) (p : List Byte) : Instr := .tally (frm Kind.tally 255 src p) p

/-- Slot 0 HOLDING, its hold timer running. -/
def labHolding : State :=
  { labSlot with tly := { slots := wr labSlot.tly.slots 0 { labSlot.slot 0 with
      state := .holding, silence := none, hold := some 2000 } } }

theorem test_meets_TallyFramesAndSlotTimers :
    labSlot.observes Kind.tally (frm Kind.tally 255 90 [1, 12, 2]) [1, 12, 2] = true
    ∧ labSlot.observes Kind.tally (frm Kind.tally 255 91 [0]) [0] = true
    ∧ (∀ i, (labSlot.slot i).cfg.enabled = true → i = 0) ∧ (labSlot.slot 0).cfg.node = 90
    ∧ ((run (tally 90 [1, 12, 2]) labSlot).link 22).tally = { program := false, preview := true, iso := false }
    ∧ ((run (tally 90 [1, 12]) labSlot).link 22).tally = onAir ∧ (120 : Byte).toNat > 119
    ∧ labSlot.live = true ∧ (labSlot.slot 0).silence ≠ none ∧ (labSlot.slot 0).state = .online
    ∧ (labSlot.slot 1).silence = none ∧ labSlot.mgr.settings.switcherHold ≠ 0
    ∧ ((run (.switcherSilenceExpiry 0) labSlot).slot 0).state = .holding
    ∧ (labHolding.slot 0).hold ≠ none ∧ (labHolding.slot 0).state = .holding
    ∧ ((run (.switcherHoldExpiry 0) labHolding).link 22).tally = .empty
    ∧ ((run (.switcherHoldExpiry 0) labHolding).slot 0).state = .offline
    ∧ (let s := { labSlot with mgr := { lab.mgr with settings := { lab.mgr.settings with switcherHold := 0 } } }
       ((run (.switcherSilenceExpiry 0) s).slot 0).state = .offline) := by decide +kernel

/-- A tally change that removes PROGRAM from a deferred order's link, and one about the staged order's link. -/
theorem test_meets_TallyFramesAndSlotTimers_fills :
    let deferred := { labSlot with rte := { lab.rte with deferred := [order 22 .spare .health] } }
    (deferred.link 22).tally.program = true ∧ deferred.rte.staged = none
    ∧ (run (tally 90 [0]) deferred).rte.active = some (order 22 .spare .health) := by decide +kernel

/-- TALLY frames heard in BYPASS and under the entry mark, from any source and to any destination. -/
theorem test_meets_TallyFramesAndSlotTimers_bypass :
    let bypassed : State := { labSlot with rif := labBypass.rif }
    let marked : State := { labSlot with rif := labMarked.rif }
    bypassed.hearsTally (frm Kind.tally 20 90 [0]) [0] = true ∧ marked.hearsTally (frm Kind.tally 255 90 [0]) [0] = true
    ∧ bypassed.hearsTally (frm Kind.tally 255 20 [0]) [0] = true ∧ labSlot.hearsTally (frm Kind.tally 255 90 [0]) [0] = false
    ∧ ((run (tally 90 [0]) bypassed).link 22).tally = .empty ∧ ((run (tally 90 [0]) marked).link 22).tally = .empty
    ∧ (run (tally 90 [0]) bypassed).ringOut = .forwarded (raw Kind.tally 255 90 [0]) := by decide +kernel

theorem test_meets_MergeRule :
    labSlot.tallyMerged ∧ (labSlot.link 22).tally.program = true ∧ (labSlot.slot 3).cfg.enabled = false := by
  unfold State.tallyMerged
  decide +kernel

/-! ## Talkback -/

/-- A VOICE frame from a node with one sample value. -/
def voice (src : Node) (k talk : Byte) (x : Int) : Instr :=
  let p : List Byte := [k, talk] ++ (List.replicate 48 (i16 x)).flatten
  .voice (frm Kind.voice 20 src p) p

/-- The CYCLE frame of epoch 500. -/
def cycle : Instr := .cycle (frm Kind.cycle 255 1 [1, 0xF4]) [1, 0xF4]

def spoken : State := run (voice 120 4 1 30000) (run (voice 130 0 0 20000) labTalk)

theorem test_meets_VoiceBlocks :
    (let p : List Byte := [4, 1] ++ List.replicate 96 0
     p.length = 98 ∧ labTalk.consumes Kind.voice (frm Kind.voice 20 120 p) p = true)
    ∧ labTalk.consumes Kind.voice (frm Kind.voice 20 120 [4]) [4] = true
    ∧ (rd labTalk.tbm.sources 2 = { node := 120, key := 4, enabled := true })
    ∧ (∀ j, (rd labTalk.tbm.sources j).enabled = true → (rd labTalk.tbm.sources j).node = 120 → j = 2)
    ∧ (rd labTalk.tbm.buffers 2).arrived = none ∧ (rd spoken.tbm.buffers 2).arrived ≠ none
    ∧ (rd (run (voice 120 4 0 1) spoken).tbm.buffers 2).arrived.map (·.talk) = some true
    ∧ (rd (run (voice 120 5 0 1) labTalk).tbm.buffers 2).arrived = none
    ∧ (rd (run cycle spoken).tbm.buffers 2).misses = 0
    ∧ (rd (run cycle (run cycle spoken)).tbm.buffers 2).misses = 1 := by decide +kernel

theorem test_meets_EpochClose :
    labTalk.observes Kind.cycle (frm Kind.cycle 255 1 [1, 0xF4]) [1, 0xF4] = true
    ∧ labTalk.observes Kind.cycle (frm Kind.cycle 255 1 [1]) [1] = true
    ∧ (rd labTalk.tbm.dests 3).enabled = true ∧ (rd labTalk.tbm.dests 4).enabled = false
    ∧ (rd (run cycle spoken).rif.voiceQ 3).map (fun f => (f.dst, f.payload.take 6)) = some (60, [3, 1, 0xF4, 3, 0x4E, 0x5C])
    ∧ (rd (run cycle labTalk).rif.voiceQ 3).map (fun f => f.payload.take 6) = some [3, 1, 0xF4, 0, 0, 0]
    ∧ rd (run cycle labTalk).tbm.call 3 = false ∧ rd (run cycle labTalk).lmp.pending 22 = true
    ∧ (let held := spoken.onCarrier 22 fun c => { c with phase := .tuning }
       rd (run cycle held).rif.voiceQ 3 = none ∧ rd (run cycle held).tbm.held 3 = true ∧ rd (run cycle held).tbm.call 3 = true) := by
  decide +kernel

theorem test_meets_MixTermRule :
    (-32768 : Int) ≤ -32768 ∧ (32767 : Int) ≤ 32767 ∧ mixTerm (-32768) (multiplier 0) = -32768
    ∧ mixTerm 32767 (multiplier 15) < 32767 ∧ multiplier 8 = 8231 ∧ multiplier 15 = 2457 := by decide +kernel

/-! ## Link health -/

/-- A link-form METER frame about link 22. -/
def report (src : Node) (p : List Byte) : Instr := .meterLinkForm (frm Kind.meter 20 src (0 :: p)) p

/-- Link 22 at F = −341 and POOR after a count of 2, and GOOD. -/
def graded (g : Health) (f : Int) (n : Nat) : State :=
  lab.onHealth 22 fun h => { h with grade := g, level := some f, persist := n, silence := some 500 }

theorem test_meets_HealthGrading :
    classify testCfg .poor (-338) 60 = .poor ∧ classify testCfg .marginal (-338) 60 = .marginal
    ∧ classify testCfg .poor (-300) 70 = .good ∧ persistCount 15 .poor = 15
    ∧ batteryFlag false 20 20 = false ∧ batteryFlag true 20 24 = true ∧ batteryFlag true 20 25 = false
    ∧ batteryFlag false 20 19 = true ∧ filterLevel (some (-243)) (-60) = -243 ∧ filterLevel (some (-244)) (-60) = -243 := by
  decide +kernel

theorem test_meets_MeterReportsAndSilence :
    lab.consumes Kind.meter (frm Kind.meter 20 62 [0, 22, 3, 0xAE, 0xB0, 78, 59]) [0, 22, 3, 0xAE, 0xB0, 78, 59] = true
    ∧ lab.consumes Kind.meter (frm Kind.meter 20 62 [0, 22]) [0, 22] = true
    ∧ (lab.link 22).cfg.inUse = true ∧ (lab.link 22).carrier.state = .committed ∧ (lab.link 22).cfg.rx2 = 62
    ∧ (lab.link 21).cfg.inUse = false
    ∧ ((run (report 62 [22, 3, 0xAE, 0xB0, 78, 59]) (graded .good (-280) 0)).link 22).health.level = some (-290)
    ∧ ((run (report 63 [22, 3, 0xAE, 0xB0, 78, 59]) (graded .good (-280) 0)).link 22).health.level = some (-280)
    ∧ ((run (report 61 [22, 2, 0xB0, 0, 50, 17]) (graded .poor (-347) 2)).link 22).health.persist = 3
    ∧ ((run (report 61 [22, 2, 0xB0, 0, 50, 17]) (graded .poor (-347) 2)).rte.active.map fun o => (o.link, o.reason))
      = some (22, .health)
    ∧ (labUncertain.link 22).carrier.state ≠ .committed
    ∧ (graded .good (-288) 0).live = true ∧ ((graded .good (-288) 0).link 22).health.silence ≠ none
    ∧ (lab.link 22).health.silence = none
    ∧ ((run (.meterSilenceExpiry 22) (graded .good (-288) 0)).link 22).health
      = { (graded .good (-288) 0).link 22 with health := { testLink.health with grade := .down, level := some (-288) } }.health := by
  decide +kernel

/-- Reports heard in BYPASS and under the entry mark, and the notes of a grade and of a battery that runs low. -/
theorem test_meets_MeterReportsAndSilence_bypass_and_notes :
    let p : List Byte := [22, 3, 0xAE, 0xB0, 78, 19]
    labBypass.hearsInBypass (frm Kind.meter 20 62 (0 :: p)) p = true
    ∧ labMarked.hearsInBypass (frm Kind.meter 20 62 (0 :: p)) p = true
    ∧ ((run (report 62 p) labBypass).link 22).health.level = some (-320)
    ∧ (run (report 62 p) labBypass).ringOut = .forwarded (raw Kind.meter 20 62 (0 :: p))
    ∧ said (run (report 62 p) lab) = [[7, 22, 0, 2, 0xFE, 0xC0, 78], [8, 22, 19]] := by decide +kernel

/-- A recovery to GOOD: a HEALTH want is removed, a staged HEALTH order withdrawn. -/
theorem test_meets_MeterReportsAndSilence_recovers :
    let good := report 61 [22, 0, 0xBA, 0, 80, 0]
    let wanted : State := { graded .marginal (-280) 0 with lmn := { wants := wr lab.lmn.wants 22 (some .health) } }
    let staged : State := { (graded .marginal (-280) 0).onCarrier 22 fun c => { c with phase := .queued } with
      rte := { lab.rte with active := some (order 23 .spare .operator), staged := some (order 22 .spare .health) } }
    ((run good wanted).link 22).health.grade = .good ∧ (run good wanted).want 22 = none
    ∧ (run good staged).rte.staged = none ∧ ((run good staged).link 22).carrier.phase = .idle
    ∧ said (run good staged) = [[7, 22, 2, 1, 0xFE, 0xE8, 80], [3, 22, 0]] := by decide +kernel

/-- Expiries of the silence timer: a want entered, a HEALTH want raised to RESCUE, a link DOWN already, a DEGRADE trigger. -/
theorem test_meets_MeterReportsAndSilence_silence :
    let s := graded .good (-288) 0
    let rescue := s.onLink 22 fun l => { l with cfg := { l.cfg with rescueOnAir := true } }
    let wanted : State := { rescue with lmn := { wants := wr lab.lmn.wants 22 (some .health) } }
    let sweeping : State := { s with swp := { s.swp with cfg := { labSweeping.swp.cfg with degrade := true } } }
    ((run (.meterSilenceExpiry 22) s).rte.active.map fun o => (o.link, o.reason)) = some (22, .health)
    ∧ (run (.meterSilenceExpiry 22) wanted).want 22 = some .rescue
    ∧ said (run (.meterSilenceExpiry 22) (graded .down (-288) 0)) = [[6, 22, 1, 0, 100]]
    ∧ ((run (.meterSilenceExpiry 22) (graded .down (-288) 0)).rte.active.map (·.link)) = some 22
    ∧ (run (.meterSilenceExpiry 22) sweeping).swp.state = .probing := by decide +kernel

/-! ## The sweep -/

/-- SWEEP_GO parameters: band 1, cells 123 to 1, ONCE, dwell 2, report flag on. -/
def goParams (mode : Byte) : List Byte := [1, 123, 1, mode, 2, 1, 0, 0]

/-- A TIMER sweep is configured and the interval runs. -/
def labTimer : State :=
  { lab with swp := { lab.swp with
      cfg := { SweepCfg.zero with band := 1, start := 123, stop := 1, timer := true }, interval := some 60000 } }

theorem test_meets_SweepRequests :
    lab.takes (cmd Req.sweepGo (goParams 1)) Req.sweepGo (goParams 1) = true
    ∧ lab.takes (cmd Req.sweepGo []) Req.sweepGo [] = true ∧ lab.takes (cmd Req.sweepGo [1]) Req.sweepGo [1] = true
    ∧ (lab.band 1).cellCount = 125 ∧ (lab.band 1).enabled = true ∧ (lab.band 0).enabled = false
    ∧ (run (.sweepGo (cmd Req.sweepGo (goParams 1)) (goParams 1)) lab).swp.probe
      = some { tag := 1, band := 1, cell := 123, channel := 988 }
    ∧ status (run (.sweepGo (cmd Req.sweepGo [1, 125, 1, 1, 2, 1, 0, 0]) [1, 125, 1, 1, 2, 1, 0, 0]) lab) = some 7
    ∧ status (run (.sweepGo (cmd Req.sweepGo []) []) labSweeping) = some 2
    ∧ lab.takes (cmd Req.sweepStop []) Req.sweepStop [] = true
    ∧ (run (.sweepStop (cmd Req.sweepStop []) []) labSweeping).swp.state = .idle
    ∧ labTimer.swp.interval ≠ none ∧ labTimer.swp.cfg.timer = true ∧ lab.swp.interval = none ∧ labTimer.rif.ctlQ.length < 24
    ∧ (run .sweepIntervalExpiry labTimer).swp.state = .probing := by decide +kernel

/-- The modes of the other clauses: ONCE_R at work restarts, STEP waiting goes on. -/
theorem test_meets_SweepRequests_modes :
    let go := Instr.sweepGo (cmd Req.sweepGo []) []
    let with' (m : SweepMode) (st : SweepState) : State :=
      { labSweeping with swp := { labSweeping.swp with cfg := { labSweeping.swp.cfg with mode := m }, state := st } }
    (run go (with' .onceR .probing)).swp.probe.map (·.cell) = some 123
    ∧ (run go (with' .step .waiting)).swp.probe.map (·.cell) = some 124
    ∧ (run go (with' .step .probing)).swp.probe.map (·.cell) = some 124
    ∧ (with' .step .waiting).swp.cursor ≠ 0 := by decide +kernel

/-- The triggers at a STEP sweep that waits at the start cell, an ONCE_R sweep at work, a full queue, a queue whose NOTE gives
way, a pass that is over at once, and a link that degrades. -/
theorem test_meets_SweepRequests_triggers :
    let go := Instr.sweepGo (cmd Req.sweepGo []) []
    let with' (m : SweepMode) (st : SweepState) : State :=
      { labSweeping with swp := { labSweeping.swp with
        cfg := { labSweeping.swp.cfg with mode := m, timer := true, degrade := true }, state := st, cursor := 0
        interval := some 1 } }
    let own : State := { with' .once .idle with swp := { (with' .once .idle).swp with
      cells := wr lab.swp.cells 1 (Vector.replicate 256 { Cell.cold with state := .own }) } }
    (run go (with' .step .waiting)).swp.probe.map (·.cell) = some 123
    ∧ (run .sweepIntervalExpiry (with' .onceR .paused)).swp.probe.map (·.cell) = some 123
    ∧ (run .sweepIntervalExpiry (with' .once .probing)).swp.probe.map (·.cell) = some 124
    ∧ (run go { with' .once .idle with rif := labFull.rif }).swp.probeHold.map (·.probe.cell) = some 123
    ∧ ((run go { with' .once .idle with rif := labFullNote.rif }).rif.ctlQ.filter (·.cls = .probe)).length = 1
    ∧ (run go own).swp.state = .idle ∧ (run go own).cpl.active.map (·.kind) = some .refill
    ∧ (degradeReport 22 (with' .once .idle)).swp.probe.map (·.cell) = some 123
    ∧ (degradeReport 21 (with' .once .idle)).swp.state = .idle := by decide +kernel

/-- A probe-form METER frame from the scan receiver at node 50. -/
def measured (tag : Byte) (channel : Nat) (level : Byte) : Instr :=
  let f : List Byte := [tag, 1] ++ n16 channel ++ [level]
  .meterProbeForm (frm Kind.meter 20 50 (1 :: f)) f

theorem test_meets_ProbeExchange :
    labSweeping.consumes Kind.meter (frm Kind.meter 20 50 [1, 5, 1, 3, 0xE4, 0xB2]) [1, 5, 1, 3, 0xE4, 0xB2] = true
    ∧ u16 3 0xE4 = 996 ∧ lab.swp.probe = none ∧ labSweeping.swp.cfg.report = true
    ∧ ((run (measured 5 996 0xB2) labSweeping).swp.cell 1 124) = { state := .busy, last := some (-78), peak := some (-78), age := 0 }
    ∧ said (run (measured 5 996 0xB2) labSweeping) = [[10, 1, 124, 2, 0xB2, 5], [6, 1, 0, 4, 2]]
    ∧ (run (measured 4 996 0xB2) labSweeping).swp.probe.map (·.tag) = some 5
    ∧ labSweeping.live = true ∧ labSweeping.swp.probeTimer ≠ none
    ∧ (run .probeTimeout labSweeping).swp.probe.map (·.cell) = some 0
    ∧ (let s := { labSweeping with swp := { labSweeping.swp with timeouts := 2 } }
       (run .probeTimeout s).swp.state = .idle ∧ said (run .probeTimeout s) = [[11, 1, 124, 50]])
    ∧ (let s := { labSweeping with rif := { lab.rif with ctlQ := queueOf 24 .rsp } }
       (run (measured 5 996 0xB2) s).swp.state = .paused ∧ (run (measured 5 996 0xB2) s).swp.reportHold.isSome) := by
  decide +kernel

/-- The end of a pass: SWEEP_DONE with its counts, the refill of the band under way. -/
theorem test_meets_ProbeExchange_end :
    let s := { labSweeping with swp := { labSweeping.swp with
      cfg := { labSweeping.swp.cfg with report := false }, cursor := 3
      probe := some { tag := 5, band := 1, cell := 1, channel := 12 } } }
    said (run (measured 5 12 0xA6) s) = [[9, 1, 0, 1, 0, 0]] ∧ (run (measured 5 12 0xA6) s).swp.state = .idle
    ∧ (run (measured 5 12 0xA6) s).cpl.active.map (·.kind) = some .refill := by decide +kernel

/-- After a measured pass a CYCLE sweep begins the next. -/
def labCycling : State :=
  { labSweeping with swp := { labSweeping.swp with
      cfg := { labSweeping.swp.cfg with mode := .cycle, report := false }, cursor := 3
      probe := some { tag := 5, band := 1, cell := 1, channel := 12 } } }
theorem test_meets_ProbeExchange_cycle :
    (run (measured 5 12 0xA6) labCycling).swp.state = .probing ∧ (run (measured 5 12 0xA6) labCycling).swp.cursor = 0 := by
  decide +kernel

/-- The sweep at the probe of cell 12, the cell of link 22's carrier, the probe outstanding or held. -/
def labAtOwn (waits : Bool) : State :=
  let probe : Probe := { tag := 5, band := 1, cell := 12, channel := 100 }
  { labSweeping with swp := { labSweeping.swp with
      cfg := { labSweeping.swp.cfg with start := 11, stop := 14 }
      probe := if waits then none else some probe
      probeHold := if waits then some { frame := fillFrame, probe := probe } else none } }

/-- At a queue-space event the PROBE frame waits; a cell that becomes OWN ends its probe, outstanding or held. -/
theorem test_meets_ProbeExchange_on :
    let after (s : State) : State := ownRecompute 1 (touching [testBand.channelSpan 100 200]) s
    (sweepOnBy keepProbe labSweeping).swp.probeHold.map (·.probe.cell) = some 0
    ∧ ((after (labAtOwn false)).swp.cell 1 12).state = .own
    ∧ (after (labAtOwn false)).swp.probe.map (·.cell) = some 14
    ∧ (after (labAtOwn true)).swp.probe.map (·.cell) = some 14 ∧ (after (labAtOwn true)).swp.probeHold = none
    ∧ (after labSweeping).swp.probe.map (·.cell) = some 124 := by decide +kernel

/-- The worked queue after its step 4: 2 TUNE and 22 LAMP frames, the MGR's RSP held, one link pending. -/
def labWorked : State :=
  { labLamp with
    rif := { lab.rif with ctlQ := queueOf 2 .tune ++ queueOf 22 .lamp }
    mgr := { lab.mgr with hold := [fillFrame] } }

/-- The classes of the Control Queue, one number each. -/
def classes (s : State) (c : CtlClass) : Nat := (s.rif.ctlQ.filter (·.cls = c)).length

/-- The worked sequence of 10_the_cue_ring, steps 5 to 8: the lamp takes the place of the first TUNE, the RSP that of the second,
the CELL report that of a LAMP; the sweep resumes with its next PROBE held and NOTES_LOST clear. -/
theorem test_worked_queue_space :
    let s5 := run .queueSpaceEvent (run .fillSlot labWorked)
    let s6 := run .queueSpaceEvent (run .fillSlot s5)
    let s7 : State := { s6 with swp := { labSweeping.swp with probe := none, state := .paused, reportHold := some fillFrame } }
    let s8 := run .queueSpaceEvent (run .fillSlot s7)
    (classes s5 .tune, classes s5 .lamp, s5.mgr.hold.length) = (1, 23, 1)
    ∧ (classes s6 .tune, classes s6 .lamp, classes s6 .rsp, s6.mgr.hold.length) = (0, 23, 1, 0)
    ∧ (classes s8 .lamp, classes s8 .rsp, classes s8 .note, s8.rif.notesLost) = (22, 1, 1, false)
    ∧ s8.swp.state = .probing ∧ s8.swp.probeHold.isSome ∧ s8.swp.reportHold = none := by decide +kernel

/-- The clauses of a held CELL report: a cell left in ONCE and in STEP mode, and a pass over. -/
theorem test_meets_QueueSpaceServesInOrder_cell :
    let held (m : SweepMode) (cursor : Nat) : State :=
      { labSweeping with swp := { labSweeping.swp with
        cfg := { labSweeping.swp.cfg with mode := m }, probe := none, state := .paused, reportHold := some fillFrame
        cursor := cursor } }
    (queueSpace (held .once 0)).swp.probeHold.map (·.probe.cell) = some 124
    ∧ (queueSpace (held .step 0)).swp.state = .waiting ∧ (queueSpace (held .step 3)).swp.cursor = 0
    ∧ (queueSpace (held .once 3)).swp.state = .idle
    ∧ (∀ j : Nat, (held .once 3).order[4 + j]? = none) := by
  refine ⟨by decide +kernel, by decide +kernel, by decide +kernel, by decide +kernel, ?_⟩
  intro j
  exact List.getElem?_eq_none (Nat.le_add_right 4 j)

/-! ## Lamps and invariants -/

theorem test_meets_LampFramesBuilt :
    lab.live = true ∧ (∀ k, lab.lmp.due k = false) ∧ labLamp.rif.mode = .normal ∧ labLamp.lmp.due 22 = true
    ∧ (∀ j : LinkId, (j - labLamp.lmp.next).val < ((22 : LinkId) - labLamp.lmp.next).val → labLamp.lmp.due j = false)
    ∧ said (run .lampFrameBuild labLamp) = [[22, 0, 0, 0, 0, 0, 0, 0, 0]]
    ∧ (run .lampFrameBuild labLamp).lmp.next = 23
    ∧ (let owing := { labLamp with lmp := { labLamp.lmp with debts := wr lab.lmp.debts 22 (some 63) } }
       (run .lampFrameBuild owing).lmp.next = 22 ∧ rd (run .lampFrameBuild owing).lmp.debts 22 = none
       ∧ rd (run .lampFrameBuild owing).lmp.pending 22 = true)
    ∧ labFull.rif.admitted { cls := .lamp, frame := fillFrame } = none
    ∧ lab.lmp.refresh ≠ none ∧ rd (run .lampRefreshExpiry lab).lmp.pending 22 = true
    ∧ (let s := { labTalk.onLink 22 fun l => { l with tally := { Buses.empty with preview := true } } with
         tbm := { labTalk.tbm with call := wr lab.tbm.call 3 true } }
       (s.lamp 22).primary = { red := 0, green := 0, blue := 255 } ∧ (s.lamp 22).cadence = .fast) := by decide +kernel

theorem test_meets_BoundsAndTalliesKept :
    (labSlot.withinCapacity ∧ labSlot.pendingEligible ∧ labSlot.tallyMerged)
    ∧ step { labSlot with pending := [tally 90 [0]] } = exec (tally 90 [0]) { labSlot with pending := [] } := by
  refine ⟨?_, rfl⟩
  unfold State.withinCapacity State.pendingEligible State.tallyMerged
  decide +kernel

/-- Link 22's SEARCH runs, link 23 waits to be verified at channel 300, band 1 has a window and a spare. -/
def labKept : State :=
  let carrier : LinkCarrier := { channel := some 300, state := .uncertain, forced := false, phase := .queued }
  let s := { labBeside.onCarrier 22 fun c => { c with phase := .checking } with
    rte := { lab.rte with
      active := some (order 22 .spare .operator), staged := some (order 23 (.channel 300) .verify) } }
  let s := s.onLink 23 fun _ => { testLink with cfg := { testCfg with tx := 70, rx := 71, rx2 := 0 }, carrier := carrier }
  { s with cpl := { s.cpl with
      spares := wr s.cpl.spares 1 [{ channel := 500, level := -99 }]
      active := some (s.opOf (.rte { kind := .search, link := 22, channel := none, mode := .full })) } }

/-- The laws of orders, requests, carriers and windows hold in a part at work, and its next step launches the order. -/
theorem test_meets_BoundsAndTalliesKept_orders :
    (labKept.sparesDistinct ∧ labKept.callsClear ∧ labKept.ordersPlaced ∧ labKept.requestsKept ∧ labKept.carriersRegular
      ∧ labKept.snapshotCurrent ∧ labKept.windowsClear)
    ∧ (rd labKept.plan.windows 0).enabled = true ∧ bandCarriers labKept.plan labKept.rte 1 ≠ []
    ∧ tuningTarget (run .searchCompletion labKept).plan (run .searchCompletion labKept).rte = some (22, 500) := by
  refine ⟨⟨?_, ?_, ⟨?_, ?_, ?_, ?_, ?_, ?_⟩, ⟨?_, ?_, ?_⟩, ⟨?_, ?_⟩, ?_, ?_⟩, ?_, ?_, ?_⟩
  · unfold State.sparesDistinct; decide +kernel
  · unfold State.callsClear; decide +kernel
  · decide +kernel
  · decide +kernel
  · decide +kernel
  · rintro o (h | h)
    · cases h; decide +kernel
    · cases h
  · rintro o h; cases h; decide +kernel
  · intro h; exact absurd h (by decide +kernel)
  · intro r h; cases h
  · intro op h _ _
    cases h
    exact ⟨order 22 .spare .operator, rfl, by decide +kernel, by decide +kernel, by decide +kernel, by decide +kernel,
      fun n h => by cases h⟩
  · intro h; cases h
  · decide +kernel
  · rintro o n (h | h) _ ht
    · cases h; cases ht; decide +kernel
    · cases h
  · intro op b h _ _ hb
    cases h
    obtain rfl : b = 1 := Fin.ext hb
    exact ⟨rfl, rfl⟩
  · unfold State.windowsClear; decide +kernel
  · decide +kernel
  · decide +kernel
  · decide +kernel

theorem test_meets_NoMixWhileHeldKept :
    lab.noHeldMix ∧ rd (run cycle spoken).rif.voiceQ 3 ≠ none
    ∧ rd (takeResult (.clear 300 0) { labChecking with rif := (run cycle spoken).rif, tbm := labTalk.tbm }).rif.voiceQ 3 = none := by
  unfold State.noHeldMix
  decide +kernel

end Sys2Proof.Tests
end

section
/-! Proofs of the family of bands, links and exclusion windows: the Band Table at a cold reset and at a warm restart (R4). -/

namespace Sys2Proof.Machine

/-! ## What COLD_RESET and RESTART come to -/

/-- COLD_RESET is the cold start with the straps as read (R165). -/
theorem exec_coldReset (straps : Byte) (s : State) : exec (.coldReset straps) s = .next (coldStart straps s) := rfl

/-- RESTART arrives as a CMD (R186). -/
theorem exec_restart (h : CmdHead) (params : List Byte) (s : State) :
    exec (.restart h params) s = .next (receiveCmd h Req.restart params takeRestart s) := rfl

/-- With the show lock released RESTART restarts every block, sends the BYPASSED answers, and answers OK (R184, R186). -/
theorem takeRestart_released {s : State} (hl : s.mgr.locked = false) (a : Asker) :
    takeRestart a [] s =
      (let t := sendBypassed s.cpl.cutShort (restartBlocks s)
       answerCmd (t.rspFrame Req.restart a .ok []) false t) := by
  simp [takeRestart, hl]

/-- A RESTART that is taken with the show lock released runs the restart from the state it is handed in. -/
theorem exec_restart_taken {h : CmdHead} {s : State} (ht : s.takes h Req.restart [] = true) (hl : s.mgr.locked = false) :
    exec (.restart h []) s =
      .next (let t := sendBypassed s.cpl.cutShort (restartBlocks s.handed)
             answerCmd (t.rspFrame Req.restart h.asker .ok []) false t) := by
  have handedReleased : s.handed.mgr.locked = false := hl
  rw [exec_restart, receiveCmd_taken _ ht, takeRestart_released handedReleased]
  rfl

/-! ## What leaves the Band Table as it stands -/

section
variable (s : State)

@[simp] theorem handed_plan : s.handed.plan = s.plan := rfl

/-- An RSP kept apart (R173) or offered (R176) leaves the Band Table. -/
theorem answerCmd_bands (f : Frame) (resume : Bool) : (answerCmd f resume s).plan.bands = s.plan.bands := by
  cases he : s.rif.entry with
  | none =>
    rw [answerCmd_offers he]
    exact (offerRsp_inner f s).bands
  | some e => simp [answerCmd, he]

/-- The sweeper's restart changes its own records only (R62, R63, R68). -/
theorem sweepReset_inner : Inner s (sweepReset s) := by
  unfold sweepReset intervalStart
  exact (Inner.onSwp _).trans (Inner.onSwp _)

/-- R95: the Link Table's health fields, not the Band Table. -/
theorem monitorRestart_bands : (monitorRestart s).plan.bands = s.plan.bands := rfl

/-- R131: the Link Table's merged tallies, not the Band Table. -/
theorem tallyRestart_bands : (tallyRestart s).plan.bands = s.plan.bands := rfl

theorem talkbackSilence_plan : (talkbackSilence s).plan = s.plan := rfl

theorem lampRestart_plan : (lampRestart s).plan = s.plan := rfl

/-- The warm restart goes through every block (R186), and none of them writes the Band Table (R4). -/
theorem restartBlocks_bands : (restartBlocks s).plan.bands = s.plan.bands := by
  unfold restartBlocks
  extract_lets emptied abandoned remarked restarted
  have workDropped : Inner emptied abandoned :=
    ((sweepHalt_inner _).trans (abandonOrders_inner _)).trans (plannerRestart_inner _)
  have cellsReset : Inner abandoned remarked := (sweepReset_inner _).trans (ownRecomputeAll_inner _)
  calc (rteSettle restarted).plan.bands
      = restarted.plan.bands := (rteSettle_inner _).bands
    _ = (monitorRestart remarked).plan.bands := by
        simp only [restarted, lampRestart_plan, talkbackSilence_plan, tallyRestart_bands]
    _ = remarked.plan.bands := monitorRestart_bands _
    _ = emptied.plan.bands := (workDropped.trans cellsReset).bands
    _ = s.plan.bands := rfl

/-- Every Band Table entry at a cold reset is the cold one (R4). -/
theorem coldStart_band (straps : Byte) (b : BandId) : rd (coldStart straps s).plan.bands b = .cold :=
  rd_replicate _ b

end

/-- Settles O4: the cold reset writes the cold entry everywhere, and no part of a warm restart, nor the RSP frames sent after it,
writes the Band Table. -/
theorem bandTableAtResets : Obligations.BandTableAtResets := by
  refine ⟨fun straps s => ⟨_, exec_coldReset straps s, coldStart_band s straps⟩, fun h s ht hl => ?_⟩
  have kept : (sendBypassed s.cpl.cutShort (restartBlocks s.handed)).plan.bands = s.plan.bands := by
    rw [(sendBypassed_inner _ _).bands, restartBlocks_bands, handed_plan]
  refine ⟨_, exec_restart_taken ht hl, fun b => ?_⟩
  rw [answerCmd_bands, kept]

end Sys2Proof.Machine
end

section
/-! Proofs of the family of compatibility arithmetic: the Conflict Log's counts and records (R36). -/

namespace Sys2Proof.Machine

namespace ConflictLog

/-! ## One conflict -/

section
variable {l : ConflictLog}

/-- Below sixteen records the conflict becomes a record (R36). -/
theorem append_of_room (c : Conflict) (room : l.records.length < 16) :
    l.append c = { l with total := min 65535 (l.total + 1), records := l.records ++ [c] } :=
  if_pos room

/-- At sixteen records the conflict is counted as overflow (R36). -/
theorem append_of_full (c : Conflict) (full : 16 ≤ l.records.length) :
    l.append c = { l with total := min 65535 (l.total + 1), overflow := min 255 (l.overflow + 1) } :=
  if_neg (Nat.not_lt.mpr full)

/-- A conflict raises the total whether or not it becomes a record. -/
theorem append_total (l : ConflictLog) (c : Conflict) : (l.append c).total = min 65535 (l.total + 1) := by
  rcases Nat.lt_or_ge l.records.length 16 with room | full
  · rw [append_of_room c room]
  · rw [append_of_full c full]

end

/-! ## A list of conflicts -/

/-- The log with its counts and records those of the conflicts found since it was cleared. -/
def holding (l : ConflictLog) (found : List Conflict) : ConflictLog :=
  { l with total := min 65535 found.length, overflow := min 255 (found.length - 16), records := found.take 16 }

variable (l : ConflictLog)

/-- A cleared log holds no conflicts. -/
theorem holding_nil (hr : l.records = []) (ht : l.total = 0) (ho : l.overflow = 0) : l.holding [] = l := by
  cases l
  simp_all [holding]

/-- A log that holds the conflicts found so far holds the next one with them once it is appended. -/
theorem holding_append (found : List Conflict) (c : Conflict) :
    (l.holding found).append c = l.holding (found ++ [c]) := by
  have total : min 65535 (min 65535 found.length + 1) = min 65535 (found.length + 1) := by omega
  rcases Nat.lt_or_ge found.length 16 with room | full
  · have records : (found ++ [c]).take 16 = found.take 16 ++ [c] := by
      rw [List.take_of_length_le (by simp; omega), List.take_of_length_le room.le]
    have overflow : found.length + 1 - 16 = found.length - 16 := by omega
    rw [append_of_room c (by simp [holding, room])]
    simp only [holding, List.length_append, List.length_singleton, total, records, overflow]
  · have records : (found ++ [c]).take 16 = found.take 16 := List.take_append_of_le_length full
    have overflow : min 255 (min 255 (found.length - 16) + 1) = min 255 (found.length + 1 - 16) := by omega
    rw [append_of_full c (by simp [holding, full])]
    simp only [holding, List.length_append, List.length_singleton, total, records, overflow]

/-- Conflicts appended in turn are held after those held before. -/
theorem foldl_holding (held found : List Conflict) :
    found.foldl append (l.holding held) = l.holding (held ++ found) := by
  induction found generalizing held with
  | nil => rw [List.foldl_nil, List.append_nil]
  | cons c found ih => rw [List.foldl_cons, holding_append, ih, List.append_cons held c found]

/-- A cleared log holds exactly the conflicts appended to it. -/
theorem foldl_append_of_cleared (found : List Conflict) (hr : l.records = []) (ht : l.total = 0)
    (ho : l.overflow = 0) : found.foldl append l = l.holding found := by
  calc found.foldl append l
      = found.foldl append (l.holding []) := by rw [holding_nil l hr ht ho]
    _ = l.holding found := foldl_holding l [] found

end ConflictLog

/-- Settles O32: one conflict by the room the log has, a list of them by what the log holds after each. -/
theorem conflictLogCounts : Obligations.ConflictLogCounts := by
  refine ⟨fun l c => ⟨l.append_total c, fun room => ?_, fun full => ?_⟩, fun l found hr ht ho => ?_⟩
  · rw [ConflictLog.append_of_room c room]
    exact ⟨rfl, rfl⟩
  · rw [ConflictLog.append_of_full c full]
    exact ⟨rfl, rfl⟩
  · rw [l.foldl_append_of_cleared found hr ht ho]
    exact ⟨rfl, rfl, rfl, rfl, rfl⟩

end Sys2Proof.Machine
end

section
/-! Proofs of the family of the planner: the compatibility check stage by stage, and its events (R19 to R32, R36, R44). -/

namespace Sys2Proof.Machine

/-! ## Entries by their positions -/

/-- The numbers of a list of entries are 0 to n - 1 in order, and `entry` gives for each number the tone of its entry. -/
structure Numbered (ps : List (Carrier × Nat)) (n : Nat) (entry : Nat → Tone) : Prop where
  numbers : ps.map Prod.snd = List.range n
  tones : ∀ k ∈ ps, k.1.tone = entry k.2

/-- The entries of a checked set by their positions, as the stages take them. -/
theorem numbered_zipIdx {p : List Carrier} {entry : Nat → Tone}
    (atPositions : ∀ i x, p[i]? = some x → entry i = (.link x.link x.target, x.freq, x.width)) :
    Numbered p.zipIdx p.length entry where
  numbers := by rw [List.zipIdx_map_snd, List.range_eq_range']
  tones k hk := (atPositions _ _ (List.mk_mem_zipIdx_iff_getElem?.mp hk)).symm

/-- The pairs of a list whose numbers rise are the pairs of its numbers that rise (R29). -/
theorem numbers_of_pairs {ps : List (Carrier × Nat)} (rising : (ps.map Prod.snd).Pairwise (· < ·)) :
    (pairs ps).map (fun x => (x.1.2, x.2.2)) =
      (ps.map Prod.snd).flatMap fun i => ((ps.map Prod.snd).filter (i < ·)).map fun j => (i, j) := by
  induction ps with
  | nil => rfl
  | cons k rest ih =>
    rw [List.map_cons, List.pairwise_cons] at rising
    obtain ⟨below, rising⟩ := rising
    have fromHead : (k.2 :: rest.map Prod.snd).filter (k.2 < ·) = rest.map Prod.snd := by
      rw [List.filter_cons_of_neg (by simp), List.filter_eq_self.mpr (by simpa using below)]
    have fromRest : ∀ i ∈ rest.map Prod.snd,
        (k.2 :: rest.map Prod.snd).filter (i < ·) = (rest.map Prod.snd).filter (i < ·) := fun i hi =>
      List.filter_cons_of_neg (by simpa using (below i hi).le)
    calc (pairs (k :: rest)).map (fun x => (x.1.2, x.2.2))
        = (rest.map Prod.snd).map (fun j => (k.2, j)) ++ (pairs rest).map (fun x => (x.1.2, x.2.2)) := by
          simp [pairs]
      _ = _ := by
          rw [ih rising, List.map_cons, List.flatMap_cons, fromHead]
          exact congrArg _ (List.flatMap_congr fun i hi => by rw [fromRest i hi])

/-- Both members of a pair are members of the list. -/
theorem mem_of_mem_pairs {ps : List (Carrier × Nat)} {x : (Carrier × Nat) × (Carrier × Nat)} (hx : x ∈ pairs ps) :
    x.1 ∈ ps ∧ x.2 ∈ ps := by
  induction ps with
  | nil => cases hx
  | cons k rest ih =>
    rcases List.mem_append.mp hx with fromHead | fromRest
    · obtain ⟨y, hy, rfl⟩ := List.mem_map.mp fromHead
      exact ⟨List.mem_cons_self, List.mem_cons_of_mem k hy⟩
    · exact ⟨List.mem_cons_of_mem k (ih fromRest).1, List.mem_cons_of_mem k (ih fromRest).2⟩

/-- A stage over a list is the stage over the image of the list where the two agree. -/
theorem flatMap_eq_flatMap_image {α β γ : Type} {l : List α} {m : List β} {h : α → β} {f : α → List γ} {g : β → List γ}
    (image : l.map h = m) (agree : ∀ x ∈ l, f x = g (h x)) : l.flatMap f = m.flatMap g := by
  rw [← image, List.flatMap_map]
  exact List.flatMap_congr agree

/-- A stage that makes one record where a test holds makes the records of those that pass it. -/
theorem flatMap_ite_singleton {α γ : Type} (l : List α) (test : α → Bool) (record : α → γ) :
    (l.flatMap fun x => if test x then [record x] else []) = (l.filter test).map record := by
  induction l with
  | nil => rfl
  | cons x l ih => cases holds : test x <;> simp [holds, ih]

namespace Numbered

variable {ps : List (Carrier × Nat)} {n : Nat} {entry : Nat → Tone} (num : Numbered ps n entry) {γ : Type}
include num

/-- A stage over the entries is a stage over their positions. -/
theorem flatMap {f : Carrier × Nat → List γ} {g : Nat → List γ} (agree : ∀ k ∈ ps, f k = g k.2) :
    ps.flatMap f = (List.range n).flatMap g :=
  flatMap_eq_flatMap_image num.numbers agree

/-- A stage over the other entries is a stage over the other positions. -/
theorem others_flatMap {skip : List Nat} {f : Carrier × Nat → List γ} {g : Nat → List γ}
    (agree : ∀ k ∈ ps, f k = g k.2) : (others ps skip).flatMap f = (positions n skip).flatMap g := by
  have numbers : (others ps skip).map Prod.snd = positions n skip := by
    rw [positions, ← num.numbers, List.filter_map]
    rfl
  exact flatMap_eq_flatMap_image numbers fun k hk => agree k (List.mem_of_mem_filter hk)

/-- A stage over the pairs of entries is a stage over the pairs of positions (R29). -/
theorem pairs_flatMap {f : (Carrier × Nat) × (Carrier × Nat) → List γ} {g : Nat × Nat → List γ}
    (agree : ∀ x ∈ ps, ∀ y ∈ ps, f (x, y) = g (x.2, y.2)) : (pairs ps).flatMap f = (positionPairs n).flatMap g := by
  have numbers : (pairs ps).map (fun x => (x.1.2, x.2.2)) = positionPairs n := by
    rw [numbers_of_pairs (by rw [num.numbers]; exact List.pairwise_lt_range), num.numbers]
    rfl
  exact flatMap_eq_flatMap_image numbers fun x hx =>
    agree x.1 (mem_of_mem_pairs hx).1 x.2 (mem_of_mem_pairs hx).2

/-- Tests of every entry are tests of every position. -/
theorem hits {f : Carrier × Nat → List γ} {hit : Nat → Option γ} (agree : ∀ k ∈ ps, f k = (hit k.2).toList) :
    ps.flatMap f = (List.range n).filterMap hit := by
  rw [List.filterMap_eq_flatMap_toList]
  exact num.flatMap agree

/-- Tests of the other entries are tests of the other positions. -/
theorem others_hits {skip : List Nat} {f : Carrier × Nat → List γ} {hit : Nat → Option γ}
    (agree : ∀ k ∈ ps, f k = (hit k.2).toList) : (others ps skip).flatMap f = (positions n skip).filterMap hit := by
  rw [List.filterMap_eq_flatMap_toList]
  exact num.others_flatMap agree

end Numbered

/-! ## The tests (R25, R26, R28, R30) -/

section
variable (e : BandEntry)

/-- A spacing test finds the record of R25, or nothing. -/
theorem spacingTest_eq (agg : Item) (f w : Int) (k : Carrier) :
    spacingTest e agg f w k = (spacingHit e.gcc (agg, f, w) k.tone).toList := by
  unfold spacingHit
  rw [apply_ite Option.toList]
  rfl

/-- A product test finds the record of R26 and R28, or nothing. -/
theorem productTest_eq (kind : ConflictKind) (formers : List Item) (p wp : Int) (v : Tone) :
    productTest e kind formers p wp v.1 v.2.1 v.2.2 = (productHit e.gim kind formers p wp v).toList := by
  unfold productHit
  rw [apply_ite Option.toList]
  unfold productTest
  simp only [Bool.and_eq_true, decide_eq_true_eq]
  rfl

theorem im2Test_eq (a b v : Tone) : im2Test e a b v = (twoToneHit e.gim (a, b, v)).toList :=
  productTest_eq e _ _ _ _ v

theorem im3Test_eq (x y z v : Tone) : im3Test e x y z v = (threeToneHit e.gim (x, y, z, v)).toList :=
  productTest_eq e _ _ _ _ v

end

/-! ## The stages over the checked set (R25, R27, R29) -/

section
variable {ps : List (Carrier × Nat)} {n : Nat} {entry : Nat → Tone} (num : Numbered ps n entry) (e : BandEntry)
include num

/-- The spacing stage makes the test of each entry in order (R25). -/
theorem spacingStage_eq (agg : Item) (f w : Int) :
    (ps.flatMap fun k => spacingTest e agg f w k.1)
      = (List.range n).filterMap fun i => spacingHit e.gcc (agg, f, w) (entry i) :=
  num.hits fun k hk => by rw [spacingTest_eq, num.tones k hk]

/-- The two-tone stage makes the tests of R27 in their order. -/
theorem twoToneStage_eq (c : Tone) :
    twoToneStage e ps c = (twoToneTests n entry c).filterMap (twoToneHit e.gim) := by
  have asFormer : ∀ i ∈ ps, ((others ps [i.2]).flatMap fun k => im2Test e c i.1.tone k.1.tone)
      = (positions n [i.2]).filterMap fun k => twoToneHit e.gim (c, entry i.2, entry k) := fun i hi =>
    num.others_hits fun k hk => by rw [im2Test_eq, num.tones i hi, num.tones k hk]
  have asSecond : ∀ i ∈ ps, ((others ps [i.2]).flatMap fun k => im2Test e i.1.tone c k.1.tone)
      = (positions n [i.2]).filterMap fun k => twoToneHit e.gim (entry i.2, c, entry k) := fun i hi =>
    num.others_hits fun k hk => by rw [im2Test_eq, num.tones i hi, num.tones k hk]
  have asVictim : ∀ i ∈ ps, ((others ps [i.2]).flatMap fun j => im2Test e i.1.tone j.1.tone c)
      = (positions n [i.2]).filterMap fun j => twoToneHit e.gim (entry i.2, entry j, c) := fun i hi =>
    num.others_hits fun j hj => by rw [im2Test_eq, num.tones i hi, num.tones j hj]
  simp only [twoToneTests, List.filterMap_append, List.filterMap_flatMap, List.filterMap_map]
  exact congrArg₂ (· ++ ·) (num.flatMap fun i hi => congrArg₂ (· ++ ·) (asFormer i hi) (asSecond i hi))
    (num.flatMap asVictim)

/-- The three-tone stage makes the tests of R29 in their order. -/
theorem threeToneStage_eq (c : Tone) :
    threeToneStage e ps c = (threeToneTests n entry c).filterMap (threeToneHit e.gim) := by
  have asFormer : ∀ y ∈ ps, ∀ z ∈ ps,
      ((others ps [y.2, z.2]).flatMap fun k => im3Test e c y.1.tone z.1.tone k.1.tone)
        = (positions n [y.2, z.2]).filterMap fun k => threeToneHit e.gim (c, entry y.2, entry z.2, entry k) :=
    fun y hy z hz => num.others_hits fun k hk => by rw [im3Test_eq, num.tones y hy, num.tones z hz, num.tones k hk]
  have asThird : ∀ x ∈ ps, ∀ y ∈ ps,
      ((others ps [x.2, y.2]).flatMap fun k => im3Test e x.1.tone y.1.tone c k.1.tone)
        = (positions n [x.2, y.2]).filterMap fun k => threeToneHit e.gim (entry x.2, entry y.2, c, entry k) :=
    fun x hx y hy => num.others_hits fun k hk => by rw [im3Test_eq, num.tones x hx, num.tones y hy, num.tones k hk]
  have asVictim : ∀ x ∈ ps, ∀ y ∈ ps,
      ((others ps [x.2, y.2]).flatMap fun z => im3Test e x.1.tone y.1.tone z.1.tone c)
        = (positions n [x.2, y.2]).filterMap fun z => threeToneHit e.gim (entry x.2, entry y.2, entry z, c) :=
    fun x hx y hy => num.others_hits fun z hz => by rw [im3Test_eq, num.tones x hx, num.tones y hy, num.tones z hz]
  simp only [threeToneTests, List.filterMap_append, List.filterMap_flatMap, List.filterMap_map]
  exact congrArg₂ (· ++ ·)
    (congrArg₂ (· ++ ·) (num.flatMap fun y hy => num.others_flatMap (asFormer y hy)) (num.pairs_flatMap asThird))
    (num.pairs_flatMap asVictim)

end

/-! ## The occupancy stage (R24) -/

/-- One OCCUPIED record where the cell of the channel exists and is BUSY. -/
theorem occupancyStage_eq (snap : Snapshot) (e : BandEntry) (n : Nat)
    [Decidable (∃ j : Fin 256, j.val = n / e.span ∧ (rd snap.cells j).state = .busy)] :
    occupancyStage snap e n =
      if ∃ j : Fin 256, j.val = n / e.span ∧ (rd snap.cells j).state = .busy then
        [{ kind := .occupied, aggressors := [.candidate], victim := .cell (n / e.span), product := none,
           shortfall := none }]
      else [] := by
  unfold occupancyStage
  by_cases inRange : e.cellOf n < 256
  · have theCell : (rd snap.cells ⟨e.cellOf n, inRange⟩).state = .busy
        ↔ ∃ j : Fin 256, j.val = n / e.span ∧ (rd snap.cells j).state = .busy :=
      ⟨fun busy => ⟨_, rfl, busy⟩, fun ⟨j, here, busy⟩ => (Fin.ext here : j = ⟨e.cellOf n, inRange⟩) ▸ busy⟩
    rw [dif_pos inRange]
    exact if_congr theCell rfl rfl
  · have noCell : ¬∃ j : Fin 256, j.val = n / e.span ∧ (rd snap.cells j).state = .busy :=
      fun ⟨j, here, _⟩ => inRange (here.ge.trans_lt j.isLt)
    rw [dif_neg inRange, if_neg noCell]

/-! ## The exclusion stage (R13, R23) -/

/-- Two spans overlap where each begins below the other's end (R12). -/
theorem Span.overlaps_iff (a b : Span) : a.overlaps b = true ↔ a.lo < b.hi ∧ b.lo < a.hi := by
  simp [Span.overlaps]

/-- A channel range overlaps a carrier's span where it is not empty and each begins below the other's end (R12). -/
theorem meets_rangeSpan_iff (e : BandEntry) (first last f w : Int) :
    meets (e.rangeSpan first last) (carrierSpan f w) = true ↔
      first ≤ last ∧ 2 * (e.base + first * e.step) - e.step < 2 * f + w
        ∧ 2 * f - w < 2 * (e.base + last * e.step) + e.step := by
  by_cases nonempty : first ≤ last
  · rw [BandEntry.rangeSpan, if_pos nonempty]
    exact (Span.overlaps_iff _ _).trans (and_iff_right nonempty).symm
  · simp [BandEntry.rangeSpan, nonempty, meets]

section
variable (w : Window)

/-- The base range of a window has as many channels as its size (R13). -/
theorem Window.base_last (count : Nat) : (w.base count).2 = (w.base count).1 + w.size - 1 := by
  unfold Window.base
  cases w.anchor
  · simp
  · simp

/-- The channel ranges of a window by the first channel of its base range (R13). -/
theorem Window.mem_ranges_iff (count : Nat) (first last : Int) :
    (first, last) ∈ w.ranges count ↔
      w.complement = false ∧ first = (w.base count).1 ∧ last = (w.base count).1 + w.size - 1
      ∨ w.complement = true ∧ (first = 0 ∧ last = (w.base count).1 - 1
          ∨ first = (w.base count).1 + w.size ∧ last = count - 1) := by
  unfold Window.ranges
  cases w.complement
  · simp [Window.base_last]
  · simp [Window.base_last]

/-- A window reaches a tone by one of its channel ranges (R23). -/
theorem Window.reaches_iff (e : BandEntry) (b : Nat) (a : Tone) :
    w.reaches e b a ↔ w.enabled = true ∧ w.band.val = b
      ∧ ∃ r ∈ w.ranges e.count, meets (e.rangeSpan r.1 r.2) (carrierSpan a.2.1 a.2.2) = true := by
  simp only [Prod.exists, meets_rangeSpan_iff, mem_ranges_iff, Window.reaches, exists_eq_left, Window.base]
  cases w.anchor
  · rfl
  · rfl

/-- A window of the band covers a tone's span exactly where it reaches the tone (R13, R23). -/
theorem Window.covers_iff_reaches (e : BandEntry) (b : Nat) (a : Tone) :
    (w.band.val = b ∧ w.covers e (carrierSpan a.2.1 a.2.2) = true) ↔ w.reaches e b a := by
  rw [reaches_iff, and_left_comm]
  simp only [Window.covers, Bool.and_eq_true, List.any_eq_true]

end

/-- The exclusion stage makes one record for each window the tone reaches, in window order (R23). -/
theorem exclusionStage_excludes (snap : Snapshot) (e : BandEntry) (b : Nat) (a : Tone) :
    snap.excludes e b a (exclusionStage snap e b a.1 (carrierSpan a.2.1 a.2.2)) := by
  refine ⟨(List.finRange 8).filter fun w =>
    (rd snap.windows w).band.val = b && (rd snap.windows w).covers e (carrierSpan a.2.1 a.2.2), ?_, fun w => ?_, ?_⟩
  · exact (List.sortedLT_finRange 8).pairwise.filter _
  · simp [← Window.covers_iff_reaches]
  · exact flatMap_ite_singleton _ _ _

/-! ## The checked set (R21) -/

section
variable {snap : Snapshot} {e : BandEntry} {b : Nat} {mover : Option Nat} {k : LinkId}

/-- The COMMITTED entry of a link: not the mover's, of the band, in a state other than NONE, with a channel (R21). -/
theorem mem_committedEntry {x : Carrier} :
    x ∈ committedEntry snap e b mover k ↔ mover ≠ some k.val ∧ (rd snap.links k).band.val = b
      ∧ (rd snap.links k).carrier.state ≠ .none ∧ ∃ n, (rd snap.links k).carrier.channel = some n
        ∧ x = { link := k.val, freq := e.freq n, width := (rd snap.links k).width, target := false } := by
  unfold committedEntry
  cases channel : (rd snap.links k).carrier.channel with
  | none => simp [channel]
  | some n => simp [channel, and_assoc]

/-- The TARGET entry of a link: the Active order's in TUNING, not the mover's, of the band, at the chosen channel (R21). -/
theorem mem_targetEntry {x : Carrier} :
    x ∈ targetEntry snap e b mover k ↔ ∃ o, snap.order = some o ∧ o.link = k ∧ o.phase = .tuning ∧ mover ≠ some k.val
      ∧ (rd snap.links k).band.val = b ∧ ∃ n, o.chosen = some (.channel n)
        ∧ x = { link := k.val, freq := e.freq n, width := (rd snap.links k).width, target := true } := by
  unfold targetEntry
  cases snap.order with
  | none => simp
  | some o =>
    rcases chosen : o.chosen with _ | ⟨n⟩ | _
    · simp [chosen]
    · simp [chosen, and_assoc]
    · simp [chosen]

/-- A link has at most one COMMITTED entry. -/
theorem committedEntry_pairwise (r : Carrier → Carrier → Prop) : (committedEntry snap e b mover k).Pairwise r := by
  unfold committedEntry
  dsimp only
  split
  · split
    · exact List.pairwise_singleton _ _
    · exact .nil
  · exact .nil

/-- A link has at most one TARGET entry. -/
theorem targetEntry_pairwise (r : Carrier → Carrier → Prop) : (targetEntry snap e b mover k).Pairwise r := by
  unfold targetEntry
  split
  · split
    · split
      · exact List.pairwise_singleton _ _
      · exact .nil
    · exact .nil
  · exact .nil

/-- The entries of a link name it. -/
theorem link_of_mem_entries {x : Carrier} (hx : x ∈ committedEntry snap e b mover k ++ targetEntry snap e b mover k) :
    x.link = k.val := by
  rcases List.mem_append.mp hx with hx | hx
  · obtain ⟨-, -, -, n, -, rfl⟩ := mem_committedEntry.mp hx
    rfl
  · obtain ⟨o, -, -, -, -, -, n, -, rfl⟩ := mem_targetEntry.mp hx
    rfl

end

section
variable (snap : Snapshot) (e : BandEntry) (b : Nat) (mover : Option Nat)

/-- The checked set is in link order, a link's TARGET entry after its COMMITTED one (R21). -/
theorem checkedSet_pairwise : (checkedSet snap e b mover).Pairwise
    fun x y => x.link < y.link ∨ (x.link = y.link ∧ x.target = false ∧ y.target = true) := by
  refine List.pairwise_flatMap.mpr ⟨fun k _ => List.pairwise_append.mpr
    ⟨committedEntry_pairwise _, targetEntry_pairwise _, fun x hx y hy => .inr ?_⟩, ?_⟩
  · obtain ⟨-, -, -, n, -, rfl⟩ := mem_committedEntry.mp hx
    obtain ⟨o, -, -, -, -, -, m, -, rfl⟩ := mem_targetEntry.mp hy
    exact ⟨rfl, rfl, rfl⟩
  · refine (List.sortedLT_finRange 64).pairwise.imp fun {j k} before x hx y hy => .inl ?_
    rw [link_of_mem_entries hx, link_of_mem_entries hy]
    exact before

/-- The checked set holds the entries R21 names, in their order. -/
theorem checkedSet_checks : snap.checks e b mover (checkedSet snap e b mover) := by
  refine ⟨checkedSet_pairwise snap e b mover, fun x => ?_⟩
  simp only [checkedSet, List.mem_flatMap, List.mem_finRange, List.mem_append, true_and, mem_committedEntry,
    mem_targetEntry]
  constructor
  · rintro ⟨k, ⟨unmoved, band, stands, n, channel, rfl⟩ | ⟨o, order, link, tuning, unmoved, band, n, chosen, rfl⟩⟩
    · exact ⟨k, n, rfl, unmoved, band, rfl, rfl, .inl ⟨rfl, stands, channel⟩⟩
    · exact ⟨k, n, rfl, unmoved, band, rfl, rfl, .inr ⟨rfl, o, order, link, tuning, chosen⟩⟩
  · obtain ⟨xlink, xfreq, xwidth, xtarget⟩ := x
    rintro ⟨k, n, rfl, unmoved, band, rfl, rfl, ⟨rfl, stands, channel⟩ | ⟨rfl, o, order, link, tuning, chosen⟩⟩
    · exact ⟨k, .inl ⟨unmoved, band, stands, n, channel, rfl⟩⟩
    · exact ⟨k, .inr ⟨o, order, link, tuning, unmoved, band, n, chosen, rfl⟩⟩

end

/-! ## The check (R19, R22, R32) -/

section
variable {snap : Snapshot} {b n w : Nat} {mover : Option Nat}

/-- The band a snapshot opens to a check is its band, enabled (R22). -/
theorem openBand_eq_some_iff {e : BandEntry} : snap.openBand = some e ↔ snap.band = some e ∧ e.enabled = true := by
  unfold Snapshot.openBand
  cases snap.band with
  | none => simp
  | some f =>
    constructor
    · intro h
      cases enabled : f.enabled <;> simp_all
    · rintro ⟨⟨⟩, enabled⟩
      simp [enabled]

/-- A check is RANGE where an input is out of its range (R22). -/
theorem compatCheck_range (mode : CheckMode)
    (bad : snap.band = none ∨ (∃ e, snap.band = some e ∧ (e.enabled = false ∨ e.count ≤ n)) ∨ w < 1 ∨ 40000 < w
      ∨ (∃ m, mover = some m ∧ 64 ≤ m)) :
    compatCheck snap b n w mover mode = .range := by
  unfold compatCheck
  cases opened : snap.openBand with
  | none => rfl
  | some e =>
    obtain ⟨band, enabled⟩ := openBand_eq_some_iff.mp opened
    refine if_neg fun inputs => ?_
    simp only [Bool.and_eq_true, decide_eq_true_eq, Option.all_eq_true] at inputs
    obtain ⟨⟨⟨channel, least⟩, greatest⟩, moved⟩ := inputs
    rcases bad with missing | ⟨f, found, disabled | beyond⟩ | narrow | wide | ⟨m, mover, above⟩
    · simp [missing] at band
    · simp_all
    · simp_all
      omega
    · omega
    · omega
    · exact absurd (moved m mover) (by omega)

/-- Inputs in their ranges pass the tests of R22. -/
theorem inputs_pass {e : BandEntry} (channel : n < e.count) (least : 1 ≤ w) (greatest : w ≤ 40000)
    (moved : ∀ m, mover = some m → m < 64) : (n < e.count && 1 ≤ w && w ≤ 40000 && mover.all (· < 64)) = true := by
  simpa [channel, least, greatest, Option.all_eq_true] using moved

section
variable {e : BandEntry} (band : snap.band = some e) (enabled : e.enabled = true) (channel : n < e.count) (least : 1 ≤ w)
  (greatest : w ≤ 40000) (moved : ∀ m, mover = some m → m < 64)
include band enabled channel least greatest moved

/-- With its inputs in range a check of EXCLUSION_ONLY mode makes the exclusion stage (R19, R22). -/
theorem compatCheck_exclusionOnly :
    compatCheck snap b n w mover .exclusionOnly =
      .conflicts (exclusionStage snap e b .candidate (carrierSpan (e.freq n) w)) := by
  unfold compatCheck
  rw [openBand_eq_some_iff.mpr ⟨band, enabled⟩]
  exact if_pos (inputs_pass channel least greatest moved)

/-- With its inputs in range a check of FULL mode makes every stage in order, by the positions of the checked set (R19, R22 to
R29). -/
theorem compatCheck_full {c : Tone} (hc : c = (.candidate, e.freq n, (w : Int))) {count : Nat} {entry : Nat → Tone}
    (num : Numbered (checkedSet snap e b mover).zipIdx count entry) :
    compatCheck snap b n w mover .full =
      .conflicts (exclusionStage snap e b .candidate (carrierSpan (e.freq n) w) ++ occupancyStage snap e n
        ++ ((List.range count).filterMap fun i => spacingHit e.gcc c (entry i))
        ++ (twoToneTests count entry c).filterMap (twoToneHit e.gim)
        ++ (if e.threeTone then (threeToneTests count entry c).filterMap (threeToneHit e.gim) else [])) := by
  unfold compatCheck
  rw [openBand_eq_some_iff.mpr ⟨band, enabled⟩]
  refine (if_pos (inputs_pass channel least greatest moved)).trans ?_
  subst hc
  rw [← spacingStage_eq num, ← twoToneStage_eq num, ← threeToneStage_eq num]

end

end

/-! ## The events of a check (R36, R44) -/

theorem exec_conflictLogged (s : State) : exec .conflictLogged s = .next (event (whileRunning OpKind.logs logConflict) s) :=
  rfl

theorem exec_checkCompletion (s : State) :
    exec .checkCompletion s = .next (event (whileRunning (fun k => k = .check || k = .confirm) completeCheck) s) := rfl

section
variable {op : ActiveOp} {s : State}

/-- An event of the active operation of a live part acts from a quiet Ring Out (R43). -/
theorem event_whileRunning (live : s.live = true) (active : s.cpl.active = some op) {kinds : OpKind → Bool}
    (kind : kinds op.kind = true) (f : ActiveOp → State → State) : event (whileRunning kinds f) s = f op s.quieted := by
  have activeQuiet : s.quieted.cpl.active = some op := active
  rw [event_live live, whileRunning, activeQuiet]
  exact if_pos kind

/-- The next conflict found is appended to the log and counted by the operation (R36). -/
theorem logConflict_found {f : Conflict} (next : op.findings.list[op.logged]? = some f) :
    logConflict op s =
      s.onCpl fun c => { c with log := c.log.append f, active := some { op with logged := op.logged + 1 } } := by
  rw [logConflict, next]

/-- What a CHECK or a CONFIRM finds is what its check finds (R44). -/
theorem findings_of_check (kind : op.kind = .check ∨ op.kind = .confirm) :
    op.findings = compatCheck op.snap op.band (op.channel.getD 0) (op.width.getD 0) op.link op.mode := by
  unfold ActiveOp.findings
  rcases kind with kind | kind
  · rw [kind]
  · rw [kind]

/-- A CHECK or a CONFIRM is answered under the request code of CHECK (R162). -/
theorem request_of_check (kind : op.kind = .check ∨ op.kind = .confirm) : op.kind.request = Req.check := by
  rcases kind with kind | kind
  · rw [kind]; rfl
  · rw [kind]; rfl

/-- CHECK, CONFIRM and AUDIT write the Conflict Log (R34). -/
theorem logs_of_mem (kind : op.kind ∈ [OpKind.check, .confirm, .audit]) : op.kind.logs = true := by
  simp only [List.mem_cons, List.not_mem_nil, or_false] at kind
  rcases kind with kind | kind | kind
  · rw [kind]; rfl
  · rw [kind]; rfl
  · rw [kind]; rfl

/-- A check of origin RETUNE hands its result to the RTE before the arbiter picks (R44, notes/assumptions/40). -/
theorem completeCheck_retune (origin : op.origin = .retune) :
    completeCheck op s = arbiterNext (takeResult op.checkResult (finishLog op .clear s)) := by
  rw [completeCheck, origin]

/-- A check of management is answered before the arbiter picks (R44). -/
theorem completeCheck_management (origin : op.origin = .management) {a : Asker} (asker : op.asker = some a) :
    completeCheck op s = arbiterNext (offerRsp
      (s.rspFrame op.kind.request a op.checkStatus (n16 op.findings.total ++ halfBytes op.snap.gen))
      (finishLog op .clear s)) := by
  rw [completeCheck, origin]
  dsimp only
  rw [answerOp, asker]
  rfl

end

/-- The verdict of a check: RANGE, CLEAR without a conflict, CONFLICT with one (R32). -/
theorem verdict_of_outcome {found : Findings} {v : Verdict}
    (outcome : found = .range ∧ v = .range ∨ found = .conflicts [] ∧ v = .clear
      ∨ (∃ x l, found = .conflicts (x :: l)) ∧ v = .conflict) : found.verdict .clear = v := by
  rcases outcome with ⟨rfl, rfl⟩ | ⟨rfl, rfl⟩ | ⟨⟨x, l, rfl⟩, rfl⟩
  · rfl
  · rfl
  · rfl

/-- Settles O33: the check by its stages, each in the words of its rule, and the two events by what they do to the log and whom
they hand the result. -/
theorem checkRunsToItsVerdict : Obligations.CheckRunsToItsVerdict := by
  refine ⟨fun snap b n w mover => ⟨fun mode bad => compatCheck_range mode bad,
    fun e band enabled channel least greatest moved c hc => ⟨checkedSet snap e b mover, _,
      checkedSet_checks snap e b mover, hc ▸ exclusionStage_excludes snap e b (.candidate, e.freq n, (w : Int)),
      compatCheck_exclusionOnly band enabled channel least greatest moved, fun entry atPositions => ?_⟩⟩,
    fun op s live active => ⟨fun f kind next => ?_, fun kind found v u hfound outcome hu => ?_⟩⟩
  · rw [compatCheck_full band enabled channel least greatest moved hc (numbered_zipIdx atPositions), occupancyStage_eq]
  · rw [exec_conflictLogged, event_whileRunning live active (logs_of_mem kind), logConflict_found next]
    rfl
  · have findings : op.findings = found := (findings_of_check kind).trans hfound.symm
    have verdict : op.findings.verdict .clear = v := findings ▸ verdict_of_outcome outcome
    have finished : finishLog op .clear s.quieted = u := by
      rw [hu, finishLog, verdict, findings]
      rfl
    have completes : exec .checkCompletion s = .next (completeCheck op s.quieted) := by
      rw [exec_checkCompletion, event_whileRunning live active (by simpa using kind)]
    refine ⟨fun origin => ?_, fun a origin asker => ?_⟩
    · rw [completes, completeCheck_retune origin, finished, ActiveOp.checkResult, verdict, findings]
      cases v <;> rfl
    · rw [completes, completeCheck_management origin asker, finished, ActiveOp.checkStatus, verdict, findings,
        request_of_check kind]
      cases v <;> rfl

end Sys2Proof.Machine
end

section
/-! Proofs of the family of the spectrum sweep: the taking of the next cell and the end of a pass (R65, R75), requests and
triggers (R64, R67, R68, R76). -/

namespace Sys2Proof.Machine

/-! ## The end of a pass (R75) -/

section
variable (s : State)

theorem offerRsp_swp (f : Frame) : (offerRsp f s).swp = s.swp := by
  unfold offerRsp
  split
  · rfl
  · rfl

theorem answerOp_swp (op : ActiveOp) (st : RspStatus) (results : List Byte) : (answerOp op st results s).swp = s.swp := by
  unfold answerOp
  split
  · exact offerRsp_swp _ _
  · rfl

theorem beginOp_swp (w : Work) : (beginOp w s).swp = s.swp := rfl

/-- The planner's arbiter leaves the sweep, however many operations end at once (R42). -/
theorem arbitrate_swp (n : Nat) : (arbitrate n s).swp = s.swp := by
  induction n generalizing s with
  | zero => rfl
  | succ n ih =>
    unfold arbitrate
    split
    · rfl
    · dsimp only
      split
      · split
        · rw [ih, answerOp_swp, beginOp_swp]; rfl
        · rfl
      · rfl

/-- A refill flag, set while the planner is IDLE, starts planner work only (R41, R42). -/
theorem setRefillFlag_swp (b : BandId) : (setRefillFlag b s).swp = s.swp := by
  unfold setRefillFlag
  dsimp only
  split
  · rw [arbiterNext, arbitrate_swp]; rfl
  · rfl

/-- The end of a pass leaves the configuration (R75). -/
theorem passClosed_cfg : s.passClosed.swp.cfg = s.swp.cfg := by
  unfold State.passClosed
  rw [setRefillFlag_swp]
  rfl

/-- What the model does at the end of a pass is R75's aging, SWEEP_DONE and refill flag. -/
theorem passEnd_eq : passEnd s = s.passClosed := by
  have aged : ageCells s = { s with
      swp := { s.swp with
        cells := wr s.swp.cells s.swp.cfg.band (tab fun j =>
          if j.val < (s.band s.swp.cfg.band).cellCount ∧ (rd (rd s.swp.cells s.swp.cfg.band) j).state ≠ .own
              ∧ rd s.swp.marks j = false then
            (rd (rd s.swp.cells s.swp.cfg.band) j).aged
          else rd (rd s.swp.cells s.swp.cfg.band) j) } } := by
    simp only [ageCells, Bool.and_eq_true, decide_eq_true_eq, Bool.not_eq_true', and_assoc]
    rfl
  rw [passEnd, aged]
  rfl

/-- No cell was measured in a pass when no mark is set (R75). -/
theorem measured_eq_zero_iff (w : Swp) : w.measured = 0 ↔ ∀ j, rd w.marks j = false := by
  have marks : w.measured = 0 ↔ ∀ x ∈ w.marks.toList, x = false := by simp [Swp.measured]
  rw [marks]
  constructor
  · intro clear j
    exact clear _ (by simp [rd])
  · intro clear x mem
    obtain ⟨i, bound, rfl⟩ := List.mem_iff_getElem.mp mem
    exact clear ⟨i, by simpa using bound⟩

end

/-! ## Taking the next cell (R65, R75) -/

section
variable {s : State} {offer : ProbeOffer} {n : Nat} (exhausted : s.nextCell = none)
include exhausted

/-- A pass that is over leaves the sweep IDLE, except in STEP mode and in CYCLE mode after a measured pass (R75). -/
theorem sweepTake_ends (mode : s.swp.cfg.mode = .once ∨ s.swp.cfg.mode = .onceR
      ∨ (s.swp.cfg.mode = .cycle ∧ ∀ j, rd s.swp.marks j = false)) :
    sweepTake offer (n + 1) s = s.passClosed.onSwp fun w => { w with state := .idle } := by
  rw [sweepTake, exhausted]
  simp only [passEnd_eq, passClosed_cfg]
  rcases mode with once | onceR | ⟨cycle, clear⟩
  · rw [once]
  · rw [onceR]
  · rw [cycle]
    exact if_pos ((measured_eq_zero_iff _).mpr clear)

/-- A STEP sweep whose pass is over waits at the start cell (R75). -/
theorem sweepTake_waits (step : s.swp.cfg.mode = .step) :
    sweepTake offer (n + 1) s = s.passClosed.onSwp fun w => { w with state := .waiting, cursor := 0 } := by
  rw [sweepTake, exhausted]
  simp only [passEnd_eq, passClosed_cfg, step]

/-- A CYCLE sweep begins the next pass after one in which a cell was measured (R75). -/
theorem sweepTake_cycles (cycle : s.swp.cfg.mode = .cycle) (marked : ∃ j, rd s.swp.marks j = true) :
    sweepTake offer (n + 1) s = sweepTake offer n s.passClosed.passBegun := by
  have measured : s.swp.measured ≠ 0 := fun zero => by
    obtain ⟨j, set⟩ := marked
    exact absurd ((measured_eq_zero_iff _).mp zero j) (by simp [set])
  rw [sweepTake, exhausted]
  simp only [passEnd_eq, passClosed_cfg, cycle]
  exact if_neg measured

end

/-- The sweep's two rounds take the next cell as R65 and R75 say. -/
theorem sweepTake_takesNext {u t : State} {waits : Bool} (next : u.takesNext t waits) :
    sweepTake (if waits then keepProbe else offerProbe) 2 u = t := by
  rcases next with ⟨j, pos, next, probed⟩ | ⟨start, exhausted, ended⟩
  · exact sweepTake_next next probed
  · have spent := nextCell_of_passOver start exhausted
    rcases ended with ⟨mode, rfl⟩ | ⟨step, rfl⟩ | ⟨cycle, marked, j, pos, next, probed⟩
    · exact sweepTake_ends spent mode
    · exact sweepTake_waits spent step
    · rw [sweepTake_cycles spent cycle marked]
      exact sweepTake_next next probed

/-! ## Triggers (R64, R67, R68) -/

section
variable {s u t : State}

/-- The test of a configuration is R64's (test 1). -/
theorem sweepValid_iff (s : State) (c : SweepCfg) : s.sweepValid c.band c.start c.stop = true ↔ s.sweepable c := by
  simp [State.sweepValid, State.sweepable, and_assoc]

/-- A sweep at work in a mode that its triggers do not touch, or waiting in another than STEP mode, goes on (R67). -/
theorem sweepTrigger_ignored
    (ignored : ((s.swp.state = .probing ∨ s.swp.state = .paused) ∧ s.swp.cfg.mode ≠ .onceR)
      ∨ (s.swp.state = .waiting ∧ s.swp.cfg.mode ≠ .step)) : sweepTrigger s = s := by
  rw [sweepTrigger]
  rcases ignored with ⟨probing | paused, mode⟩ | ⟨waiting, mode⟩
  · rw [probing]; exact if_neg mode
  · rw [paused]; exact if_neg mode
  · rw [waiting]; exact if_neg mode

/-- A discarded CELL report sets NOTES_LOST, and without one NOTES_LOST stays (R74, notes/assumptions/15). -/
theorem discardReport_eq (s : State) : discardReport s = { s with
    rif := { s.rif with notesLost := s.rif.notesLost || s.swp.reportHold.isSome }
    swp := { s.swp with reportHold := none } } := by
  rw [discardReport]
  cases held : s.swp.reportHold with
  | some f => simp [State.onSwp, State.onRif]
  | none =>
    have kept : { s.swp with reportHold := none } = s.swp := by rw [← held]
    simp [kept]

/-- A restarted pass takes its first cell with no probe and no report left (R68). -/
theorem sweepRestart_eq (s : State) : sweepRestart s = sweepTake offerProbe 2 ({ s with
    rif := { s.rif with notesLost := s.rif.notesLost || s.swp.reportHold.isSome }
    swp := { s.swp with probe := none, probeTimer := none, probeHold := none, reportHold := none } } : State).passBegun := by
  rw [sweepRestart, discardReport_eq]
  rfl

/-- An effective trigger takes the next cell of the pass that it starts, restarts or continues (R67, R68). -/
theorem sweepTrigger_triggered (effective : s.triggered u) : sweepTrigger s = sweepTake offerProbe 2 u := by
  rw [sweepTrigger]
  rcases effective with ⟨idle, rfl⟩ | ⟨working, mode, rfl⟩ | ⟨waiting, mode, step⟩
  · rw [idle]; rfl
  · rcases working with probing | paused
    · rw [probing]; exact (if_pos mode).trans (sweepRestart_eq s)
    · rw [paused]; exact (if_pos mode).trans (sweepRestart_eq s)
  · rw [waiting]
    refine (if_pos mode).trans ?_
    rcases step with ⟨under, rfl⟩ | ⟨start, rfl⟩
    · rw [if_neg under]
    · rw [if_pos start]; rfl

/-- A trigger and the taking of the next cell, in one (R65, R67). -/
theorem sweepTrigger_takesNext (effective : s.triggered u) (next : u.takesNext t false) : sweepTrigger s = t :=
  (sweepTrigger_triggered effective).trans (sweepTake_takesNext next)

/-- A TIMER or DEGRADE trigger is ignored in BYPASS, at an IDLE sweep whose configuration is not valid, and where any trigger
is (R67, R77). -/
theorem sweepAutoTrigger_ignored
    (ignored : s.rif.mode = .bypass ∨ (s.swp.state = .idle ∧ ¬s.sweepable s.swp.cfg)
      ∨ ((s.swp.state = .probing ∨ s.swp.state = .paused) ∧ s.swp.cfg.mode ≠ .onceR)
      ∨ (s.swp.state = .waiting ∧ s.swp.cfg.mode ≠ .step)) : sweepAutoTrigger s = s := by
  rw [sweepAutoTrigger]
  rcases ignored with bypass | ⟨idle, unusable⟩ | going
  · exact if_neg (by simp [State.normal, bypass])
  · rw [← sweepValid_iff, Bool.not_eq_true] at unusable
    simp [idle, unusable]
  · rw [sweepTrigger_ignored going, ite_self, ite_self]

/-- In NORMAL mode a TIMER or DEGRADE trigger at a sweep that is at work, or that may start, is effective (R67). -/
theorem sweepAutoTrigger_effective (normal : s.rif.mode = .normal)
    (usable : s.swp.state = .idle → s.sweepable s.swp.cfg) : sweepAutoTrigger s = sweepTrigger s := by
  have startable : ¬(s.swp.state = .idle && !s.sweepValid s.swp.cfg.band s.swp.cfg.start s.swp.cfg.stop) = true := by
    simpa [sweepValid_iff] using usable
  rw [sweepAutoTrigger, if_pos (by simp [State.normal, normal]), if_neg startable]

end

/-! ## SWEEP_GO and SWEEP_STOP (R64, R76, R183) -/

theorem exec_sweepGo (h : CmdHead) (p : List Byte) (s : State) :
    exec (.sweepGo h p) s = .next (receiveCmd h Req.sweepGo p (answered Req.sweepGo sweepGoRequest) s) := rfl

theorem exec_sweepStop (h : CmdHead) (p : List Byte) (s : State) :
    exec (.sweepStop h p) s = .next (receiveCmd h Req.sweepStop p (answered Req.sweepStop (ofLength 0 sweepStopRequest)) s) :=
  rfl

/-- A request answered at its taking gives the reply of its rule, from the state that the rule leaves (R175). -/
theorem receiveCmd_answered {h : CmdHead} {code : Byte} {params : List Byte} {s t : State} {f : Request} {st : RspStatus}
    {results : List Byte} (taken : s.takes h code params = true)
    (rule : f params s.handed = { status := st, results := results, state := t }) (inner : Inner s.handed t) :
    receiveCmd h code params (answered code f) s = reply h code st results t := by
  have mark : t.rif.entry = none := inner.entry.trans (takes_entry taken)
  rw [receiveCmd_taken _ taken, answered, rule]
  exact answerCmd_offers mark _ _

/-- A SWEEP_GO carries a configuration: none in its parameters and the stored one is meant, or the bytes of one (R64, R163). -/
def State.sweepCarries (s : State) (p : List Byte) (c : SweepCfg) : Prop :=
  p = [] ∧ c = s.swp.cfg
  ∨ ∃ st sp r t d : Byte, p = [byte c.band.val, st, sp, c.mode.code, byte c.dwell, r, t, d]
      ∧ c.start = st.toNat ∧ c.stop = sp.toNat ∧ c.dwell ∈ [2, 5, 10, 20]
      ∧ c.report = (r != 0) ∧ c.timer = (t != 0) ∧ c.degrade = (d != 0)

/-- An IDLE sweep stores the configuration of the SWEEP_GO that starts it, and another keeps its own (R64). -/
def State.sweepConfigured (s : State) (c : SweepCfg) : State :=
  s.onSwp fun w => { w with cfg := if w.state = .idle then c else w.cfg }

/-- The configuration a SWEEP_GO asks for, where it may be used (R64 test 1). -/
def State.sweepAsked (s : State) (p : List Byte) : Option SweepCfg :=
  if p.isEmpty then given (s.sweepValid s.swp.cfg.band s.swp.cfg.start s.swp.cfg.stop) s.swp.cfg else s.sweepRequest p

@[simp] theorem readSweepMode_code (m : SweepMode) : readSweepMode m.code = some m := by cases m <;> rfl

/-- A mode code of none of the four modes (R163). -/
theorem readSweepMode_none {b : Byte} (above : 4 ≤ b.toNat) : readSweepMode b = none := by
  have other : ∀ n : Byte, n.toNat < 4 → b ≠ n := fun n below same => by subst same; omega
  rw [readSweepMode, if_neg (other 0 (by decide)), if_neg (other 1 (by decide)), if_neg (other 2 (by decide)),
    if_neg (other 3 (by decide))]

/-- The bytes of a configuration are read as that configuration, and tested (R64, R163). -/
theorem sweepAsked_of_carries {s : State} {p : List Byte} {c : SweepCfg} (carries : s.sweepCarries p c) :
    s.sweepAsked p = given (s.sweepValid c.band c.start c.stop) c := by
  rcases carries with ⟨rfl, rfl⟩ | ⟨st, sp, r, t, d, rfl, start, stop, dwell, report, timer, degrade⟩
  · rfl
  · have band : finField 4 (byte c.band.val).toNat = some c.band := by
      have : c.band.val % 256 = c.band.val := by omega
      simp [finField, byte, this]
    have dwellByte : (byte c.dwell).toNat = c.dwell := by
      simp only [List.mem_cons, List.not_mem_nil, or_false] at dwell
      rcases dwell with two | five | ten | twenty
      · rw [two]; rfl
      · rw [five]; rfl
      · rw [ten]; rfl
      · rw [twenty]; rfl
    have read : readSweep [byte c.band.val, st, sp, c.mode.code, byte c.dwell, r, t, d] = some
        { band := (byte c.band.val).toNat, start := c.start, stop := c.stop, mode := c.mode, dwell := c.dwell,
          report := c.report, timer := c.timer, degrade := c.degrade } := by
      have onOff : ∀ x : Byte, decide (x ≠ 0) = (x != 0) := fun x => by simp [bne, beq_eq_decide]
      simp only [readSweep, readSweepMode_code, dwellByte, given, dwell, start, stop, report, timer, degrade, onOff]
      rfl
    have asked : s.sweepAsked [byte c.band.val, st, sp, c.mode.code, byte c.dwell, r, t, d]
        = s.sweepRequest [byte c.band.val, st, sp, c.mode.code, byte c.dwell, r, t, d] := rfl
    rw [asked, State.sweepRequest, read]
    simp only [Option.bind_eq_bind, Option.bind_some, band]

/-- A length that SWEEP_GO does not carry is refused RANGE (R183). -/
theorem sweepGoRequest_length {p : List Byte} (s : State) (nonempty : p.length ≠ 0) (notEight : p.length ≠ 8) :
    sweepGoRequest p s = refuse .range s := by
  simp [sweepGoRequest, nonempty, notEight]

/-- Parameters of no configuration are refused RANGE (R64 test 1). -/
theorem sweepGoRequest_range {p : List Byte} {s : State} (length : p.length = 0 ∨ p.length = 8)
    (asked : s.sweepAsked p = none) : sweepGoRequest p s = refuse .range s := by
  have go : sweepGo p s = refuse .range s := by
    unfold State.sweepAsked at asked
    rw [sweepGo, asked]
  rw [sweepGoRequest, if_pos (by simpa using length), go]

/-- Eight bytes with a band, a mode or a dwell outside its values are no configuration (R64, R163). -/
theorem sweepAsked_outside {p : List Byte} (s : State) (eight : p.length = 8)
    (outside : 4 ≤ (at0 p 0).toNat ∨ 4 ≤ (at0 p 3).toNat ∨ (at0 p 4).toNat ∉ [2, 5, 10, 20]) : s.sweepAsked p = none := by
  obtain ⟨band, start, stop, mode, dwell, report, timer, degrade, rfl⟩ :
      ∃ b0 b1 b2 b3 b4 b5 b6 b7, p = [b0, b1, b2, b3, b4, b5, b6, b7] := by
    match p, eight with
    | [b0, b1, b2, b3, b4, b5, b6, b7], _ => exact ⟨b0, b1, b2, b3, b4, b5, b6, b7, rfl⟩
  change s.sweepRequest _ = none
  rw [State.sweepRequest, readSweep]
  rcases outside with above | above | other
  · have noBand : finField 4 band.toNat = none := dif_neg (Nat.not_lt.mpr above)
    cases readSweepMode mode with
    | none => rfl
    | some m =>
      cases given (decide (dwell.toNat ∈ [2, 5, 10, 20])) dwell.toNat with
      | none => rfl
      | some d => simp [noBand]
  · simp [readSweepMode_none (b := mode) above]
  · have noDwell : given (decide (dwell.toNat ∈ [2, 5, 10, 20])) dwell.toNat = none :=
      if_neg (mt of_decide_eq_true other)
    rw [noDwell]
    cases readSweepMode mode with
    | none => rfl
    | some m => rfl

section
variable {p : List Byte} {s : State} {c : SweepCfg} (carries : s.sweepCarries p c)
include carries

/-- A configuration stands in no bytes or in eight (R183). -/
theorem length_of_carries : p.length = 0 ∨ p.length = 8 := by
  rcases carries with ⟨rfl, -⟩ | ⟨st, sp, r, t, d, rfl, -⟩
  · exact .inl rfl
  · exact .inr rfl

/-- A configuration that may not be used is refused RANGE (R64 test 1). -/
theorem sweepGoRequest_unusable (unusable : ¬s.sweepable c) : sweepGoRequest p s = refuse .range s := by
  refine sweepGoRequest_range (length_of_carries carries) ?_
  rw [sweepAsked_of_carries carries, given, if_neg (mt (sweepValid_iff s c).mp unusable)]

variable (usable : s.sweepable c)
include usable

/-- With a usable configuration SWEEP_GO goes by the state and the mode alone (R64 tests 2 and 3). -/
theorem sweepGoRequest_usable : sweepGoRequest p s =
    if s.swp.state = .idle then accept (sweepTrigger (s.onSwp fun w => { w with cfg := c }))
    else if s.swp.cfg.mode = .onceR || s.swp.cfg.mode = .step then accept (sweepTrigger s)
    else refuse .busy s := by
  have asked : s.sweepAsked p = some c := by
    rw [sweepAsked_of_carries carries, given, if_pos ((sweepValid_iff s c).mpr usable)]
  unfold State.sweepAsked at asked
  rw [sweepGoRequest, if_pos (by simpa using length_of_carries carries), sweepGo, asked]

/-- A ONCE or CYCLE sweep that is not IDLE refuses BUSY (R64 test 2). -/
theorem sweepGoRequest_busy (going : s.swp.state ≠ .idle) (mode : s.swp.cfg.mode = .once ∨ s.swp.cfg.mode = .cycle) :
    sweepGoRequest p s = refuse .busy s := by
  rw [sweepGoRequest_usable carries usable, if_neg going]
  rcases mode with once | cycle
  · rw [once]; rfl
  · rw [cycle]; rfl

/-- A STEP sweep at its probe goes on as it is (R64 test 3, R67). -/
theorem sweepGoRequest_goesOn (working : s.swp.state = .probing ∨ s.swp.state = .paused) (step : s.swp.cfg.mode = .step) :
    sweepGoRequest p s = accept s := by
  have going : s.swp.state ≠ .idle := by
    rcases working with probing | paused
    · simp [probing]
    · simp [paused]
  have goesOn : sweepTrigger s = s := sweepTrigger_ignored (.inl ⟨working, by simp [step]⟩)
  rw [sweepGoRequest_usable carries usable, if_neg going, if_pos (by simp [step]), goesOn]

/-- An IDLE sweep takes the configuration, and it or a ONCE_R or STEP sweep is triggered (R64 test 3). -/
theorem sweepGoRequest_triggers (may : s.swp.state ≠ .idle → s.swp.cfg.mode = .onceR ∨ s.swp.cfg.mode = .step) :
    sweepGoRequest p s = accept (sweepTrigger (s.sweepConfigured c)) := by
  rw [sweepGoRequest_usable carries usable, State.sweepConfigured]
  by_cases idle : s.swp.state = .idle
  · rw [if_pos idle]; simp only [State.onSwp, idle, if_true]
  · rw [if_neg idle, if_pos (by simpa using may idle)]; simp only [State.onSwp, idle, if_false]

end

/-- The sweep returns to IDLE, without its probe and its report (R76). -/
theorem sweepHalt_eq (s : State) : sweepHalt s = { s with
    rif := { s.rif with notesLost := s.rif.notesLost || s.swp.reportHold.isSome }
    swp := { s.swp with state := .idle, probe := none, probeTimer := none, probeHold := none, reportHold := none } } := by
  rw [sweepHalt, discardReport_eq]
  rfl

section
variable {h : CmdHead} {p : List Byte} {s t : State} (taken : s.takes h Req.sweepGo p = true)
include taken

/-- A SWEEP_GO that is taken gives the reply of its rule (R175). -/
theorem exec_sweepGo_taken {st : RspStatus} (rule : sweepGoRequest p s.handed = { status := st, results := [], state := t })
    (inner : Inner s.handed t) : exec (.sweepGo h p) s = .next (reply h Req.sweepGo st [] t) := by
  rw [exec_sweepGo, receiveCmd_answered taken rule inner]

/-- A SWEEP_GO whose rule changes nothing. -/
theorem exec_sweepGo_unchanged {st : RspStatus}
    (rule : sweepGoRequest p s.handed = { status := st, results := [], state := s.handed }) :
    exec (.sweepGo h p) s = .next (reply h Req.sweepGo st [] s.handed) :=
  exec_sweepGo_taken taken rule (Inner.refl _)

/-- A SWEEP_GO that triggers the sweep leaves the state after the trigger. -/
theorem exec_sweepGo_triggers {c : SweepCfg}
    (rule : sweepGoRequest p s.handed = accept (sweepTrigger (s.handed.sweepConfigured c)))
    (trigger : sweepTrigger (s.handed.sweepConfigured c) = t) :
    exec (.sweepGo h p) s = .next (reply h Req.sweepGo .ok [] t) := by
  subst trigger
  exact exec_sweepGo_taken taken rule ((Inner.onSwp _).trans (sweepTrigger_inner _))

end

/-! ## The interval and the DEGRADE report (R67, R68) -/

theorem exec_sweepIntervalExpiry (s : State) : exec .sweepIntervalExpiry s = .next (event intervalExpiry s) := rfl

section
variable {s t u : State}

/-- An expiry of a stopped timer, one without TIMER, and one whose trigger is ignored change nothing (R67, R68). -/
theorem intervalExpiry_ignored
    (ignored : s.swp.interval = none ∨ s.swp.cfg.timer = false ∨ sweepAutoTrigger s = s) : intervalExpiry s = s := by
  rw [intervalExpiry]
  rcases ignored with stopped | off | kept
  · exact if_neg (by simp [stopped])
  · exact if_neg (by simp [off])
  · rw [kept, ite_self]

/-- With TIMER an expiry of the running timer is a trigger (R67, R68). -/
theorem intervalExpiry_triggers (running : s.swp.interval ≠ none) (timer : s.swp.cfg.timer = true) :
    intervalExpiry s = sweepAutoTrigger s :=
  if_pos (by simpa [timer, Option.isSome_iff_ne_none] using running)

/-- A report without DEGRADE, one of a link of another band, and one whose trigger is ignored change nothing (R67). -/
theorem degradeReport_ignored {k : LinkId} (ignored : s.swp.cfg.degrade = false ∨ (s.link k).cfg.band ≠ s.swp.cfg.band
      ∨ sweepAutoTrigger s = s) : degradeReport k s = s := by
  rw [degradeReport]
  rcases ignored with off | other | kept
  · exact if_neg (by simp [off])
  · exact if_neg (by simp [other])
  · rw [kept, ite_self]

/-- With DEGRADE the report of a link of the sweep's band is a trigger (R67). -/
theorem degradeReport_triggers {k : LinkId} (degrade : s.swp.cfg.degrade = true)
    (band : (s.link k).cfg.band = s.swp.cfg.band) : degradeReport k s = sweepAutoTrigger s :=
  if_pos (by simp [degrade, band])

/-- An effective TIMER or DEGRADE trigger and the taking of the next cell, in one (R65, R67). -/
theorem sweepAutoTrigger_takesNext (normal : s.rif.mode = .normal)
    (usable : s.swp.state = .idle → s.sweepable s.swp.cfg) (effective : s.triggered u) (next : u.takesNext t false) :
    sweepAutoTrigger s = t :=
  (sweepAutoTrigger_effective normal usable).trans (sweepTrigger_takesNext effective next)

end

/-- Settles O55: each request and trigger by the tests that decide it, and the effective ones by the cell that is taken next. -/
theorem sweepRequests : Obligations.SweepRequests := by
  refine ⟨fun h p s taken => ⟨fun nonempty notEight => ?_, fun eight outside => ?_, fun c carries =>
      ⟨fun unusable => ?_, fun usable going mode => ?_, fun usable working step => ?_,
        fun go u t usable may hgo effective next => ?_⟩⟩,
    fun h s taken => ?_, fun s live => ⟨fun ignored => ?_, fun u t running timer normal usable effective next => ?_⟩,
    fun k s => ⟨fun ignored => degradeReport_ignored ?_, fun u t degrade band normal usable effective next => ?_⟩⟩
  · exact exec_sweepGo_unchanged taken (sweepGoRequest_length _ nonempty notEight)
  · exact exec_sweepGo_unchanged taken (sweepGoRequest_range (.inr eight) (sweepAsked_outside _ eight outside))
  · exact exec_sweepGo_unchanged taken (sweepGoRequest_unusable carries unusable)
  · exact exec_sweepGo_unchanged taken (sweepGoRequest_busy carries usable going mode)
  · exact exec_sweepGo_unchanged taken (sweepGoRequest_goesOn carries usable working step)
  · subst hgo
    exact exec_sweepGo_triggers taken (sweepGoRequest_triggers carries usable may) (sweepTrigger_takesNext effective next)
  · rw [exec_sweepStop, receiveCmd_answered taken (t := sweepHalt s.handed) rfl (sweepHalt_inner _), sweepHalt_eq]
    rfl
  · rw [exec_sweepIntervalExpiry, event_live live]
    exact congrArg _ (intervalExpiry_ignored (ignored.imp_right (Or.imp_right sweepAutoTrigger_ignored)))
  · rw [exec_sweepIntervalExpiry, event_live live, intervalExpiry_triggers (s := s.quieted) running timer]
    exact congrArg _ (sweepAutoTrigger_takesNext normal usable effective next)
  · exact ignored.imp_right (Or.imp_right sweepAutoTrigger_ignored)
  · rw [degradeReport_triggers degrade band]
    exact sweepAutoTrigger_takesNext normal usable effective next

end Sys2Proof.Machine
end

section
/-! Proofs of the family of the spectrum sweep: how a sweep goes on, the probe exchange, and OWN marking (R60, R61, R69 to
R75). -/

namespace Sys2Proof.Machine

/-! ## How a sweep goes on (R71, R75) -/

section
variable {s t : State}

/-- The sweep with its cursor past the cell that is done (R71). -/
def State.cellDone (s : State) : State := s.onSwp fun w => { w with cursor := w.cursor + 1 }

/-- The cell order of a pass is that of a start cell of the band (R65). -/
theorem start_lt_of_takesNext {waits : Bool} (next : s.takesNext t waits) :
    s.swp.cfg.start < (s.band s.swp.cfg.band).cellCount := by
  rcases next with ⟨j, pos, ⟨start, -⟩, -⟩ | ⟨start, -⟩
  · exact start
  · exact start

/-- A STEP sweep waits while a cell remains (R71). -/
theorem sweepOnBy_waits {offer : ProbeOffer} {j pos : Nat} (step : s.swp.cfg.mode = .step) (next : s.cellDone.nextIs j pos) :
    sweepOnBy offer s = s.cellDone.onSwp fun w => { w with state := .waiting } := by
  have remains : s.cellDone.nextCell = some (j, pos) := nextCell_of_nextIs next
  have waits : (s.cellDone.swp.cfg.mode = .step && s.cellDone.nextCell.isSome) = true := by
    rw [remains]
    exact Bool.and_eq_true_iff.mpr ⟨decide_eq_true step, rfl⟩
  exact if_pos waits

/-- In any other mode, and where no cell remains, the next cell is taken or the pass ends (R71, R75). -/
theorem sweepOnBy_takesNext {waits : Bool} (goes : s.swp.cfg.mode ≠ .step ∨ s.cellDone.passOver)
    (next : s.cellDone.takesNext t waits) : sweepOnBy (if waits then keepProbe else offerProbe) s = t := by
  have going : ¬(s.cellDone.swp.cfg.mode = .step && s.cellDone.nextCell.isSome) = true := by
    rcases goes with mode | spent
    · have : s.cellDone.swp.cfg.mode ≠ .step := mode
      simp [this]
    · rw [nextCell_of_passOver (start_lt_of_takesNext next) spent]
      simp
  exact (if_neg going).trans (sweepTake_takesNext next)

end

/-! ## Answers to a probe (R60, R70, R71, R74) -/

theorem exec_meterProbeForm (h : FrameHead) (f : List Byte) (s : State) :
    exec (.meterProbeForm h f) s = .next (receiveFrame Kind.meter h (1 :: f) (takeProbeMeter h.src f) s) := rfl

/-- A consumed METER frame of probe form is handed to the sweep (R166). -/
theorem exec_meterProbeForm_consumed {h : FrameHead} {f : List Byte} {s : State}
    (consumed : s.consumes Kind.meter h (1 :: f) = true) :
    exec (.meterProbeForm h f) s = .next (takeProbeMeter h.src f s.handed) := by
  rw [exec_meterProbeForm, receiveFrame_consumed (by simp) consumed]

/-- Where a frame is consumed the mode is NORMAL (R166). -/
theorem normal_of_consumes {kind : Byte} {h : FrameHead} {f : List Byte} {s : State}
    (consumed : s.consumes kind h f = true) : s.normal = true := by
  simp only [State.consumes, State.working, Bool.and_eq_true, decide_eq_true_eq] at consumed
  obtain ⟨⟨⟨⟨⟨-, normal⟩, -⟩, -⟩, -⟩, -⟩ := consumed
  simp [State.normal, normal]

section
variable {s : State} {src : Node}

/-- Without an outstanding probe, or with another length, a report changes nothing (R70). -/
theorem takeProbeMeter_ignored {f : List Byte} (ignored : s.swp.probe = none ∨ f.length ≠ 5) :
    takeProbeMeter src f s = s := by
  unfold takeProbeMeter
  split
  next probe =>
    rcases ignored with noProbe | length
    · simp [noProbe] at probe
    · simp at length
  next => rfl

section
variable {p : Probe} (outstanding : s.swp.probe = some p) (tag b c1 c0 lv : Byte)
include outstanding

/-- A report is tested against the outstanding probe and its band's probe node (R70). -/
theorem takeProbeMeter_outstanding : takeProbeMeter src [tag, b, c1, c0, lv] s =
    if tag = p.tag && b.toNat = p.band.val && u16 c1 c0 = p.channel && src = (s.band p.band).probeNode then
      gradeProbe p (reportedLevel lv) s
    else s := by
  unfold takeProbeMeter
  rw [outstanding]

/-- A report that differs from the outstanding probe changes nothing (R70). -/
theorem takeProbeMeter_other (other : tag ≠ p.tag ∨ b.toNat ≠ p.band.val ∨ u16 c1 c0 ≠ p.channel
    ∨ src ≠ (s.band p.band).probeNode) : takeProbeMeter src [tag, b, c1, c0, lv] s = s := by
  rw [takeProbeMeter_outstanding outstanding]
  refine if_neg fun same => ?_
  simp only [Bool.and_eq_true, decide_eq_true_eq] at same
  obtain ⟨⟨⟨sameTag, sameBand⟩, sameChannel⟩, sameNode⟩ := same
  rcases other with tag | band | channel | node
  · exact tag sameTag
  · exact band sameBand
  · exact channel sameChannel
  · exact node sameNode

/-- A report that matches the outstanding probe grades its cell (R70, R71). -/
theorem takeProbeMeter_matches (sameTag : tag = p.tag) (sameBand : b.toNat = p.band.val) (sameChannel : u16 c1 c0 = p.channel)
    (sameNode : src = (s.band p.band).probeNode) :
    takeProbeMeter src [tag, b, c1, c0, lv] s = gradeProbe p (reportedLevel lv) s := by
  rw [takeProbeMeter_outstanding outstanding]
  exact if_pos (by simp [sameTag, sameBand, sameChannel, sameNode])

end

end

/-- A consumed report that matches the outstanding probe grades its cell (R70). -/
theorem exec_meterProbeForm_accepted {h : FrameHead} {s : State} {p : Probe} {tag b c1 c0 lv : Byte}
    (consumed : s.consumes Kind.meter h [1, tag, b, c1, c0, lv] = true) (outstanding : s.swp.probe = some p)
    (sameTag : tag = p.tag) (sameBand : b.toNat = p.band.val) (sameChannel : u16 c1 c0 = p.channel)
    (sameNode : h.src = (s.band p.band).probeNode) :
    exec (.meterProbeForm h [tag, b, c1, c0, lv]) s = .next (gradeProbe p (reportedLevel lv) s.handed) := by
  rw [exec_meterProbeForm_consumed consumed,
    takeProbeMeter_matches (s := s.handed) outstanding _ _ _ _ _ sameTag sameBand sameChannel sameNode]

section
variable {s : State} {p : Probe} {j : Fin 256} {level : Int} {before after : Cell}

/-- The spares that leave are those whose cells a report selects (R51). -/
theorem spareRemoveCells_eq {b : BandId} {hit : Nat → Bool} {stays : Spare → Bool}
    (agree : ∀ e : Spare, (!hit ((s.band b).cellOf e.channel)) = stays e) :
    spareRemoveCells b hit s =
      s.onCpl fun c => { c with spares := wr c.spares b ((rd c.spares b).filter stays) } := by
  obtain rfl : (fun e : Spare => !hit ((s.band b).cellOf e.channel)) = stays := funext agree
  rfl

/-- A report that selects no cell leaves the Spare List (R51). -/
theorem spareRemoveCells_none {b : BandId} {hit : Nat → Bool} (misses : ∀ n, hit n = false) :
    spareRemoveCells b hit s = s := by
  rw [spareRemoveCells_eq (stays := fun _ => true) fun e => by rw [misses]; rfl]
  simp [State.onCpl]

/-- Cell numbers below 256 name their cells (R59). -/
theorem finField_val {n : Nat} (i : Fin n) : finField n i.val = some i := dif_pos i.isLt

/-- A cell number is that of the cell it names (R59). -/
theorem val_eq_iff_finField {n k : Nat} {i : Fin n} : i.val = k ↔ finField n k = some i := by
  constructor
  · rintro rfl
    exact finField_val i
  · intro named
    by_cases below : k < n
    · rw [finField, dif_pos below] at named
      rw [← Option.some.inj named]
    · rw [finField, dif_neg below] at named
      exact nomatch named

/-- An accepted level makes a cell QUIET or BUSY, never OWN (R71). -/
theorem measured_taken_iff (c : Cell) (threshold level : Int) :
    (c.measured threshold level).state.taken = true ↔ (c.measured threshold level).state = .busy := by
  have graded : (c.measured threshold level).state = .busy ∨ (c.measured threshold level).state = .quiet := by
    simp only [Cell.measured, gradeCell]
    split
    · exact .inl rfl
    · split
      · exact .inr rfl
      · split
        · exact .inr rfl
        · exact .inl rfl
  rcases graded with busy | quiet
  · rw [busy]; decide
  · rw [quiet]; decide

/-- The state after a probe's cell was graded: its record, the spares that leave with a cell that became BUSY, and no probe
(R51, R71, R72). -/
def State.probeGraded (s : State) (p : Probe) (j : Fin 256) (before after : Cell) : State :=
  { s with
    cpl := { s.cpl with
      spares := if after.state = .busy ∧ before.state ≠ .busy then
          wr s.cpl.spares p.band ((rd s.cpl.spares p.band).filter fun e => (s.band p.band).cellOf e.channel ≠ p.cell)
        else s.cpl.spares }
    swp := { s.swp with
      cells := wr s.swp.cells p.band (wr (rd s.swp.cells p.band) j after)
      probe := none, probeTimer := none, probeHold := none, timeouts := 0, marks := wr s.swp.marks j true } }

/-- The spares of a cell leave when it becomes BUSY (R51, R71). -/
theorem spareRemoveCells_graded (hafter : after.state.taken = true ↔ after.state = .busy) :
    spareRemoveCells p.band (fun n => n = p.cell && before.state ≠ after.state && after.state.taken) s =
      s.onCpl fun c => { c with
        spares := if after.state = .busy ∧ before.state ≠ .busy then
            wr s.cpl.spares p.band ((rd s.cpl.spares p.band).filter fun e => (s.band p.band).cellOf e.channel ≠ p.cell)
          else s.cpl.spares } := by
  by_cases newlyBusy : after.state = .busy ∧ before.state ≠ .busy
  · obtain ⟨busy, wasNot⟩ := newlyBusy
    have taken := hafter.mpr busy
    rw [busy] at taken
    rw [busy, if_pos ⟨rfl, wasNot⟩]
    exact spareRemoveCells_eq fun e => by simp [wasNot, taken]
  · rw [spareRemoveCells_none, if_neg newlyBusy]
    · rfl
    · intro n
      have changesNot : (decide (before.state ≠ after.state) && after.state.taken) = false := by
        cases taken : after.state.taken with
        | false => exact Bool.and_false _
        | true =>
          have busy := hafter.mp taken
          have same : before.state = after.state := by
            rw [busy]
            exact not_not.mp (not_and.mp newlyBusy busy)
          simp [same]
      rw [Bool.and_assoc, changesNot, Bool.and_false]

/-- An accepted answer grades the cell of its probe (R71), and then a CELL report is offered (R74) or the sweep goes on. -/
theorem gradeProbe_eq (cell : j.val = p.cell) (hbefore : before = rd (rd s.swp.cells p.band) j)
    (hafter : after = before.measured (s.band p.band).threshold level) :
    gradeProbe p level s =
      if s.swp.cfg.report && s.notesOn then
        offerReport offerProbe (s.cellNote p after level) (s.probeGraded p j before after)
      else sweepOn (s.probeGraded p j before after) := by
  have field : finField 256 p.cell = some j := cell ▸ finField_val j
  have found : s.swp.cell p.band p.cell = before := by rw [Swp.cell, field, hbefore]
  have taken : after.state.taken = true ↔ after.state = .busy := hafter ▸ measured_taken_iff _ _ _
  unfold gradeProbe
  simp only [found, ← hafter, spareRemoveCells_graded taken, Swp.setCell, field]
  rfl

/-- Without the report flag or a report node the sweep goes on (R71, R74). -/
theorem gradeProbe_silent (cell : j.val = p.cell) (hbefore : before = rd (rd s.swp.cells p.band) j)
    (hafter : after = before.measured (s.band p.band).threshold level)
    (silent : s.swp.cfg.report = false ∨ s.mgr.settings.reportNode = 0) :
    gradeProbe p level s = sweepOn (s.probeGraded p j before after) := by
  rw [gradeProbe_eq cell hbefore hafter]
  refine if_neg ?_
  rcases silent with flag | node
  · simp [flag]
  · simp [State.notesOn, node]

/-- With the report flag and a report node a CELL report is offered, in NORMAL mode (R74, R187). -/
theorem gradeProbe_reports (cell : j.val = p.cell) (hbefore : before = rd (rd s.swp.cells p.band) j)
    (hafter : after = before.measured (s.band p.band).threshold level) (normal : s.normal = true)
    (flag : s.swp.cfg.report = true) (node : s.mgr.settings.reportNode ≠ 0) :
    gradeProbe p level s = offerReport offerProbe (s.cellNote p after level) (s.probeGraded p j before after) := by
  rw [gradeProbe_eq cell hbefore hafter]
  refine if_pos ?_
  rw [flag, State.notesOn, decide_eq_true node, normal]
  rfl

end

section
variable {s : State} {offer : ProbeOffer} {f : Frame}

/-- A Control Queue with room takes the CELL report, and the sweep goes on (R74, R169). -/
theorem offerReport_room (room : s.rif.ctlQ.length < 24) : offerReport offer f s =
    sweepOnBy offer { s with
      rif := { s.rif with ctlQ := s.rif.ctlQ ++ [{ cls := .note, frame := f }] }
      swp := { s.swp with reportHold := none } } := by
  have admitted : s.rif.admitCell f = some { s.rif with ctlQ := s.rif.ctlQ ++ [{ cls := .note, frame := f }] } :=
    if_pos room
  rw [offerReport, admitted]
  rfl

/-- On a full Control Queue the CELL report is held, and the sweep pauses (R74, R169). -/
theorem offerReport_full (full : 24 ≤ s.rif.ctlQ.length) :
    offerReport offer f s = s.onSwp fun w => { w with state := .paused, reportHold := some f } := by
  have waits : s.rif.admitCell f = none := if_neg (Nat.not_lt.mpr full)
  rw [offerReport, waits]

end

/-! ## Probe timeouts (R72) -/

theorem exec_probeTimeout (s : State) : exec .probeTimeout s = .next (event probeTimeout s) := rfl

/-- The state after a timeout was counted (R72). -/
def State.timedOut (s : State) : State :=
  s.onSwp fun w => { w with
    probe := none, probeTimer := none, probeHold := none, timeouts := w.timeouts + 1, passTimeouts := w.passTimeouts + 1 }

section
variable {s : State}

/-- Without an outstanding probe or a running timer nothing expires (notes/assumptions/4). -/
theorem probeTimeout_ignored (ignored : s.swp.probe = none ∨ s.swp.probeTimer = none) : probeTimeout s = s := by
  unfold probeTimeout
  split
  next probe timer =>
    rcases ignored with noProbe | stopped
    · simp [noProbe] at probe
    · simp [stopped] at timer
  next => rfl

/-- The first and second timeout in a row are counted, and the third stops the sweep with PROBE_SILENT (R72). -/
theorem probeTimeout_counts {p : Probe} (outstanding : s.swp.probe = some p) (running : s.swp.probeTimer ≠ none) :
    probeTimeout s = if 3 ≤ s.swp.timeouts + 1 then
        note .probeSilent [byte p.band.val, byte p.cell, (s.band p.band).probeNode]
          (s.timedOut.onSwp fun w => { w with state := .idle })
      else sweepOn s.timedOut := by
  obtain ⟨n, timer⟩ := Option.ne_none_iff_exists'.mp running
  unfold probeTimeout
  rw [outstanding, timer]
  rfl

end

/-! ## OWN marking (R60, R61, R73) -/

section
variable {s u : State} {b : BandId} {spans : List Span}

/-- The state after OWN marking gave a band its cells: the spares of the cells that newly became OWN leave the band's list
(R51, R60). -/
def State.ownSet (s : State) (b : BandId) (new : Vector Cell 256) : State :=
  { s with
    swp := { s.swp with cells := wr s.swp.cells b new }
    cpl := { s.cpl with spares := wr s.cpl.spares b ((rd s.cpl.spares b).filter fun x =>
      ¬∃ j : Fin 256, j.val = (s.band b).cellOf x.channel ∧ (rd new j).state = .own
        ∧ (rd (rd s.swp.cells b) j).state ≠ .own) } }

/-- A cell is touched when one of the changed spans overlaps it (R60). -/
theorem touching_iff (c : Span) : touching spans c = true ↔ ∃ x ∈ spans, c.overlaps x = true := List.any_eq_true

/-- A touched cell is marked, and another stays as it is (R60). -/
theorem remarked_eq (c : Cell) (touched overlapped : Bool) :
    c.remarked touched overlapped = if touched then c.marked overlapped else c := by
  cases touched with
  | false => rfl
  | true =>
    cases overlapped with
    | true => rfl
    | false => simp [Cell.remarked, Cell.marked]

/-- OWN marking sets each cell by whether a changed span touches it and whether a carrier overlaps it (R60). -/
theorem remarkCells_eq {touched overlapped : Fin 256 → Bool} {new : Vector Cell 256}
    (htouched : ∀ j, touched j = true ↔ j.val < (s.band b).cellCount
      ∧ ∃ c, (s.band b).cellSpan j.val = some c ∧ ∃ x ∈ spans, c.overlaps x = true)
    (hoverlapped : ∀ j, overlapped j = true ↔ ∃ c, (s.band b).cellSpan j.val = some c
      ∧ ∃ y ∈ bandCarriers s.plan s.rte b, c.overlaps y = true)
    (hnew : ∀ j, rd new j = (rd (rd s.swp.cells b) j).remarked (touched j) (overlapped j)) :
    remarkCells b (touching spans) s = s.ownSet b new := by
  unfold remarkCells
  extract_lets e carriers old marked
  have cells : marked = new := tab_ext fun j => by
    simp only [marked, rd_tab]
    rw [hnew, remarked_eq]
    by_cases below : j.val < e.cellCount
    · rw [if_pos below]
      cases span : e.cellSpan j.val with
      | none =>
        have untouched : ¬touched j = true := fun t => by
          obtain ⟨-, c, at_j, -⟩ := (htouched j).mp t
          exact nomatch span.symm.trans at_j
        exact (if_neg untouched).symm
      | some c =>
        have touch : touched j = touching spans c := by
          rw [Bool.eq_iff_iff, htouched, touching_iff]
          exact ⟨fun ⟨_, d, at_j, x⟩ => Option.some.inj (at_j.symm.trans span) ▸ x, fun x => ⟨below, c, span, x⟩⟩
        have overlap : overlapped j = carriers.any c.overlaps := by
          rw [Bool.eq_iff_iff, hoverlapped, List.any_eq_true]
          exact ⟨fun ⟨d, at_j, y⟩ => Option.some.inj (at_j.symm.trans span) ▸ y, fun y => ⟨c, span, y⟩⟩
        rw [touch, overlap]
    · have untouched : ¬touched j = true := fun t => below ((htouched j).mp t).1
      rw [if_neg below, if_neg untouched]
  rw [cells]
  refine spareRemoveCells_eq fun x => ?_
  simp only [val_eq_iff_finField, State.band, onSwp_plan]
  cases finField 256 ((rd s.plan.bands b).cellOf x.channel) with
  | none => simp
  | some j => simp [old]

/-- In a sweep that is not PROBING, or that has no probe, OWN marking is all (R73, notes/assumptions/39). -/
theorem ownRecompute_rests (marked : remarkCells b (touching spans) s = u)
    (rests : u.swp.state ≠ .probing ∨ (u.swp.probe = none ∧ u.swp.probeHold = none)) :
    ownRecompute b (touching spans) s = u := by
  rw [ownRecompute, marked]
  rcases rests with state | ⟨noProbe, noHold⟩
  · exact if_neg state
  · rw [noProbe, noHold]
    exact ite_self _

/-- A probe, outstanding or held, whose cell is OWN ends, and the sweep goes on (R73). -/
theorem ownRecompute_probing {p : Probe} (marked : remarkCells b (touching spans) s = u) (probing : u.swp.state = .probing)
    (probe : u.swp.probe = some p ∨ u.swp.probe = none ∧ ∃ h, u.swp.probeHold = some h ∧ h.probe = p) :
    ownRecompute b (touching spans) s =
      if (u.swp.cell p.band p.cell).state = .own then sweepOn (clearProbe u) else u := by
  rw [ownRecompute, marked]
  refine (if_pos probing).trans ?_
  rcases probe with outstanding | ⟨noProbe, held, hold, rfl⟩
  · rw [outstanding]
  · rw [noProbe, hold]

end

/-- Settles O56: the answer by the tests that decide it and what it makes of the cell, the timeout by its count, the next cell by
R71 and R75, and the OWN marks cell by cell. -/
theorem probeExchange : Obligations.ProbeExchange := by
  refine ⟨fun h f s consumed => ⟨fun ignored => ?_, fun p tag b c1 c0 lv outstanding hf => ⟨fun other => ?_,
      fun sameTag sameBand sameChannel sameNode j level t before after u cell hlevel ht hbefore hafter hu => ?_⟩⟩,
    fun s live => ⟨fun ignored => ?_, fun p u outstanding running hu => ⟨fun few => ?_, fun third => ?_⟩⟩,
    fun waits s u on hu hon => ⟨fun j pos step next => ?_, fun t goes next => ?_⟩,
    fun b spans s u overlapped touched new htouched hoverlapped hnew hu => ?_⟩
  · rw [exec_meterProbeForm_consumed consumed, takeProbeMeter_ignored (s := s.handed) ignored]
  · subst hf
    rw [exec_meterProbeForm_consumed consumed, takeProbeMeter_other (s := s.handed) outstanding _ _ _ _ _ other]
  · subst hf ht hlevel
    have graded : after = before.measured (s.band p.band).threshold (reportedLevel lv) := hafter
    have left : u = s.handed.probeGraded p j before after := hu
    have accepted := exec_meterProbeForm_accepted consumed outstanding sameTag sameBand sameChannel sameNode
    refine ⟨fun silent => ?_, fun flag node g hg => ?_⟩
    · rw [accepted, gradeProbe_silent (s := s.handed) cell hbefore graded silent, left]
    · rw [accepted, gradeProbe_reports (s := s.handed) cell hbefore graded (normal_of_consumes consumed) flag node]
      subst hg left
      exact ⟨fun room => congrArg _ (offerReport_room room), fun full => congrArg _ (offerReport_full full)⟩
  · rw [exec_probeTimeout, event_live live, probeTimeout_ignored (s := s.quieted) ignored]
  · subst hu
    rw [exec_probeTimeout, event_live live, probeTimeout_counts (s := s.quieted) outstanding running]
    exact congrArg _ (if_neg (Nat.not_le.mpr few))
  · subst hu
    rw [exec_probeTimeout, event_live live, probeTimeout_counts (s := s.quieted) outstanding running]
    exact congrArg _ (if_pos third)
  · subst hu hon
    cases waits with
    | true => exact sweepOnBy_waits step next
    | false => exact sweepOnBy_waits step next
  · subst hu
    cases waits with
    | true => exact hon.trans (sweepOnBy_takesNext (waits := true) goes next)
    | false => exact hon.trans (sweepOnBy_takesNext (waits := false) goes next)
  · have marked : remarkCells b (touching spans) s = u := (remarkCells_eq htouched hoverlapped hnew).trans hu.symm
    refine ⟨marked, fun rests => ownRecompute_rests marked ?_, fun p probing probe => ?_⟩
    · subst hu
      exact rests
    · have ends := ownRecompute_probing marked (p := p) (by subst hu; exact probing) (by subst hu; exact probe)
      exact ⟨fun own => ends.trans (if_pos own), fun free => ends.trans (if_neg free)⟩

end Sys2Proof.Machine
end

section
/-! Proofs of the family of link health: what the notes, the sweep's triggers and the settling of orders leave as it stands
(R67, R91, R98 to R102, R105, R187). -/

namespace Sys2Proof.Machine

/-! ## The plan, the wants and the orders -/

/-- The records that the settling of wants and orders reads: the Plan Store, the wants, the Retune Engine. -/
def State.ledger (s : State) : Plan × Lmn × Rte := (s.plan, s.lmn, s.rte)

section
variable (s : State)

@[simp] theorem onRif_ledger (f : Rif → Rif) : (s.onRif f).ledger = s.ledger := rfl
@[simp] theorem onCpl_ledger (f : Cpl → Cpl) : (s.onCpl f).ledger = s.ledger := rfl
@[simp] theorem onSwp_ledger (f : Swp → Swp) : (s.onSwp f).ledger = s.ledger := rfl
@[simp] theorem onMgr_ledger (f : Mgr → Mgr) : (s.onMgr f).ledger = s.ledger := rfl
@[simp] theorem onLmp_ledger (f : Lmp → Lmp) : (s.onLmp f).ledger = s.ledger := rfl

@[simp] theorem note_ledger (kind : NoteKind) (fields : List Byte) : (note kind fields s).ledger = s.ledger := rfl

@[simp] theorem lampPend_ledger (k : LinkId) : (lampPend k s).ledger = s.ledger := rfl

@[simp] theorem offerRsp_ledger (f : Frame) : (offerRsp f s).ledger = s.ledger := by
  unfold offerRsp
  split
  · rfl
  · rfl

@[simp] theorem answerOp_ledger (op : ActiveOp) (st : RspStatus) (results : List Byte) :
    (answerOp op st results s).ledger = s.ledger := by
  unfold answerOp
  split
  · exact offerRsp_ledger _ _
  · rfl

@[simp] theorem beginOp_ledger (w : Work) : (beginOp w s).ledger = s.ledger := rfl

/-- The planner's arbiter reads the ledger into snapshots and leaves it (R20, R42). -/
@[simp] theorem arbitrate_ledger (n : Nat) : (arbitrate n s).ledger = s.ledger := by
  induction n generalizing s with
  | zero => rfl
  | succ n ih =>
    unfold arbitrate
    split
    · rfl
    · dsimp only
      split
      · split
        · rw [ih, answerOp_ledger, beginOp_ledger, onCpl_ledger]
        · rfl
      · rfl

@[simp] theorem requestRte_ledger (r : RteRequest) : (requestRte r s).ledger = s.ledger := by
  unfold requestRte
  split
  · rfl
  · rfl

@[simp] theorem setRefillFlag_ledger (b : BandId) : (setRefillFlag b s).ledger = s.ledger := by
  unfold setRefillFlag
  dsimp only
  split
  · rw [arbiterNext, arbitrate_ledger, onCpl_ledger]
  · rfl

/-! ## The sweep leaves the ledger -/

@[simp] theorem passEnd_ledger : (passEnd s).ledger = s.ledger := by
  rw [passEnd, setRefillFlag_ledger, note_ledger, ageCells, onSwp_ledger]

@[simp] theorem clearProbe_ledger : (clearProbe s).ledger = s.ledger := rfl

@[simp] theorem beginPass_ledger : (beginPass s).ledger = s.ledger := rfl

@[simp] theorem discardReport_ledger : (discardReport s).ledger = s.ledger := by
  rw [discardReport_eq]
  rfl

@[simp] theorem offerProbe_ledger (h : HeldProbe) : (offerProbe h s).ledger = s.ledger := by
  unfold offerProbe
  split
  · rfl
  · rfl

@[simp] theorem sweepTake_ledger (n : Nat) : (sweepTake offerProbe n s).ledger = s.ledger := by
  induction n generalizing s with
  | zero => rfl
  | succ n ih =>
    unfold sweepTake
    split
    · rw [probeCell, offerProbe_ledger, onSwp_ledger]
    · dsimp only
      split
      · simp
      · simp
      · simp
      · split
        · simp
        · simp [ih]

@[simp] theorem sweepTrigger_ledger : (sweepTrigger s).ledger = s.ledger := by
  unfold sweepTrigger
  split
  · simp [sweepStart]
  · split
    · simp [sweepRestart]
    · rfl
  · split
    · simp [sweepRestart]
    · rfl
  · split
    · rw [sweepTake_ledger]
      split
      · exact beginPass_ledger s
      · rfl
    · rfl

/-- A DEGRADE report triggers the sweep only (R67). -/
@[simp] theorem degradeReport_ledger (k : LinkId) : (degradeReport k s).ledger = s.ledger := by
  unfold degradeReport sweepAutoTrigger
  split
  · split
    · split
      · rfl
      · exact sweepTrigger_ledger s
    · rfl
  · rfl

@[simp] theorem sweepOn_ledger : (sweepOn s).ledger = s.ledger := by
  unfold sweepOn sweepOnBy
  dsimp only
  split
  · rfl
  · rw [sweepTake_ledger, onSwp_ledger]

@[simp] theorem remarkCells_ledger (b : BandId) (p : Span → Bool) : (remarkCells b p s).ledger = s.ledger := rfl

/-- OWN marking changes cells and spares, and may drive the sweep on (R60, R73). -/
@[simp] theorem ownRecomputeLink_ledger (k : LinkId) (spans : List Span) :
    (ownRecomputeLink k spans s).ledger = s.ledger := by
  unfold ownRecomputeLink ownRecompute
  dsimp only
  split
  · split
    · split
      · simp
      · simp
    · split
      · simp
      · simp
    · simp
  · simp

/-! ## Reports about a link leave the ledger -/

@[simp] theorem mixReport_ledger (k : LinkId) : (mixReport k s).ledger = s.ledger := by
  unfold mixReport
  split
  · rfl
  · rfl

@[simp] theorem phaseReport_ledger (k : LinkId) : (phaseReport k s).ledger = s.ledger := by
  rw [phaseReport, lampPend_ledger, mixReport_ledger]

@[simp] theorem healthNote_ledger (k : LinkId) (old new : Health) : (healthNote k old new s).ledger = s.ledger := by
  unfold healthNote
  split
  · exact note_ledger _ _ _
  · rfl

@[simp] theorem batteryNote_ledger (k : LinkId) (before : Bool) (battery : Option Nat) :
    (batteryNote k before battery s).ledger = s.ledger := by
  unfold batteryNote
  split
  · split
    · exact note_ledger _ _ _
    · rfl
  · rfl

@[simp] theorem healthDegrade_ledger (k : LinkId) (old new : Health) :
    (healthDegrade k old new s).ledger = s.ledger := by
  unfold healthDegrade
  split
  · exact degradeReport_ledger _ _
  · rfl

end

/-! ## Health, wants and orders through the settling -/

/-- What an order is for: its link and its reason. -/
def Order.purpose (o : Order) : LinkId × Reason := (o.link, o.reason)

/-- What the launch of an order leaves: every link's health, the wants, the waiting orders, and what the Active order is for. -/
structure Standing where
  health   : LinkId → LinkHealth
  lmn      : Lmn
  active   : Option (LinkId × Reason)
  staged   : Option Order
  deferred : List Order

/-- What a state shows of it. -/
def State.standing (s : State) : Standing :=
  { health := fun j => (s.link j).health, lmn := s.lmn, active := s.rte.active.map Order.purpose,
    staged := s.rte.staged, deferred := s.rte.deferred }

section
variable {s t : State}

theorem standing_of_ledger (same : t.ledger = s.ledger) : t.standing = s.standing := by
  obtain ⟨plan, lmn, rte⟩ : t.plan = s.plan ∧ t.lmn = s.lmn ∧ t.rte = s.rte := by
    simpa only [State.ledger, Prod.mk.injEq] using same
  simp only [State.standing, State.link, plan, lmn, rte]

/-- A phase is no part of a link's health (R98). -/
theorem setPhase_standing (k : LinkId) (p : Phase) (s : State) : (setPhase k p s).standing = s.standing := by
  have health (j : LinkId) : ((s.onCarrier k fun c => { c with phase := p }).link j).health = (s.link j).health := by
    rw [State.onCarrier, link_onLink]
    split
    · next same => rw [same]
    · rfl
  rw [setPhase, standing_of_ledger (phaseReport_ledger _ k)]
  simp only [State.standing, health]
  rfl

theorem offerTunes_standing (l : List HeldTune) (s : State) : (offerTunes l s).standing = s.standing := by
  induction l generalizing s with
  | nil => rfl
  | cons h l ih =>
    unfold offerTunes
    split
    · rw [ih]
      split
      · rw [tuneAccepted]
        split
        · rfl
        · rfl
      · rfl
    · rw [ih]
      rfl

/-- A batch for the Active order keeps what the order is for (R105). -/
theorem tuneBatch_standing {o : Order} (active : s.standing.active = some o.purpose) (nodes : List Node) (channel : Nat)
    (awaited : Bool) : (tuneBatch o nodes channel awaited s).standing = s.standing := by
  obtain ⟨a, isActive, same⟩ := Option.map_eq_some_iff.mp active
  rw [tuneBatch, offerTunes_standing]
  simp only [State.standing, onRte_rte, isActive, Option.map_some, same]
  rfl

/-- A launch makes the order Active and leaves everything else of the standing (R105). -/
theorem launch_standing (o : Order) (c : Chosen) (s : State) :
    (launch o c s).standing = { s.standing with active := some o.purpose } := by
  unfold launch
  extract_lets k chosen tuning marked
  have entered : marked.standing = { s.standing with active := some o.purpose } := by
    rw [standing_of_ledger (ownRecomputeLink_ledger _ _ _)]
    exact setPhase_standing _ _ _
  rw [tuneBatch_standing (by rw [entered]; rfl), entered]

/-- An order enters the empty Active slot, and nothing else of it changes (R102). -/
theorem startOrder_standing (o : Order) (s : State) :
    (startOrder o s).standing = { s.standing with staged := none, active := some o.purpose } := by
  have checks (r : RteRequest) (k : LinkId) (u : State) :
      (requestRte r (setPhase k .checking u)).standing = u.standing := by
    rw [standing_of_ledger (requestRte_ledger _ r), setPhase_standing]
  unfold startOrder
  dsimp only
  split
  · exact launch_standing _ _ _
  · exact launch_standing _ _ _
  · exact launch_standing _ _ _
  · exact checks _ _ _
  · exact checks _ _ _

/-- A deferred order moves from the Staged slot to the tail of the Deferred List (R100). -/
theorem deferOrder_standing (o : Order) (s : State) :
    (deferOrder o s).standing = { s.standing with staged := none, deferred := s.rte.deferred ++ [o] } := rfl

theorem mem_wantList {k : LinkId} {r : Reason} (listed : (k, r) ∈ s.wantList) : s.want k = some r := by
  obtain ⟨j, -, h⟩ := List.mem_filterMap.mp listed
  obtain ⟨q, want, e⟩ := Option.map_eq_some_iff.mp h
  cases e
  exact want

/-- The best want is one of the set (R99). -/
theorem want_of_bestWant {k : LinkId} {r : Reason} (best : s.bestWant = some (k, r)) : s.want k = some r := by
  suffices chosen : ∀ (l : List (LinkId × Reason)) (b : Option (LinkId × Reason)) w,
      l.foldl (fun best w => match best with
        | none => some w
        | some b => if s.wantBefore w b then some w else some b) b = some w → b = some w ∨ w ∈ l by
    rcases chosen _ _ _ best with absent | listed
    · cases absent
    · exact mem_wantList listed
  intro l
  induction l with
  | nil => exact fun b w h => .inl h
  | cons x l ih =>
    intro b w h
    rcases ih _ _ h with first | rest
    · cases b with
      | none =>
        cases first
        exact .inr List.mem_cons_self
      | some b =>
        dsimp only at first
        split at first
        · cases first
          exact .inr List.mem_cons_self
        · exact .inl first
    · exact .inr (List.mem_cons_of_mem _ rest)

/-- The order made from a want is for its link and its reason (R99). -/
theorem orderOf_purpose (s : State) (k : LinkId) (r : Reason) : (s.orderOf k r).purpose = (k, r) := by
  cases r <;> rfl

/-- Everything a fill of the Staged slot can do: the oldest deferred order off PROGRAM enters it, or a new order made from a
want does (R99). -/
theorem fillStaged_standing (filled : fillStaged s = some t) :
    (∃ o ∈ s.rte.deferred, s.onAir o.link = false ∧ t.standing =
      { s.standing with staged := some o, deferred := s.rte.deferred.filter fun d => d.link ≠ o.link })
    ∨ ∃ k r, s.want k = some r ∧ t.standing =
      { s.standing with staged := some (s.orderOf k r), lmn := { wants := wr s.lmn.wants k none } } := by
  unfold fillStaged at filled
  split at filled
  next o found =>
    cases filled
    exact .inl ⟨o, List.mem_of_find?_eq_some found, by simpa using List.find?_some found, rfl⟩
  next =>
    split at filled
    next k r best =>
      cases filled
      refine .inr ⟨k, r, want_of_bestWant best, ?_⟩
      rw [setPhase_standing]
      rfl
    next => cases filled

/-- A property of the state that a fill, a start and a deferral keep holds after the settling (R99, R100). -/
theorem rteSettle_keeps {P : State → Prop} (fill : ∀ s t, P s → s.rte.staged = none → fillStaged s = some t → P t)
    (start : ∀ s o, P s → s.rte.staged = some o → s.rte.active = none → P (startOrder o s))
    (defers : ∀ s o, P s → s.rte.staged = some o → s.onAir o.link = true → P (deferOrder o s)) (holds : P s) :
    P (rteSettle s) := by
  suffices rounds : ∀ n s, P s → P (settle n s) from rounds _ _ holds
  intro n
  induction n with
  | zero => exact fun _ h => h
  | succ n ih =>
    intro s h
    unfold settle
    split
    · split
      next empty =>
        split
        next t filled => exact ih _ (fill s t h empty filled)
        next => exact h
      next o staged =>
        split
        next => exact h
        next free =>
          split
          next => exact ih _ (start s o h staged (by simpa using free))
          next stays =>
            split
            next =>
              refine ih _ (defers s o h staged ?_)
              simp only [State.promotable, Bool.or_eq_true, not_or, Bool.not_eq_true', Bool.not_eq_false] at stays
              exact stays.1.1
            next => exact h
    · exact h

/-- The settling leaves every link's health. -/
theorem rteSettle_health (s : State) (j : LinkId) : ((rteSettle s).link j).health = (s.link j).health := by
  suffices all : (rteSettle s).standing.health = s.standing.health from congrFun all j
  refine rteSettle_keeps (P := fun t => t.standing.health = s.standing.health) ?_ ?_ ?_ rfl
  · intro u t h _ filled
    rcases fillStaged_standing filled with ⟨o, -, -, e⟩ | ⟨k, r, -, e⟩
    · rw [e]; exact h
    · rw [e]; exact h
  · intro u o h _ _
    rw [startOrder_standing]
    exact h
  · exact fun u o h _ _ => h

/-! ## A want becomes an order of its link and reason -/

/-- A link is wanted for a reason, or an order of the link and the reason stands in one of the three places, in the Deferred
List only while the link is on PROGRAM (R88, R96, R99). -/
def State.provided (s : State) (k : LinkId) (r : Reason) : Prop :=
  s.want k = some r ∨ s.standing.active = some (k, r) ∨ (∃ o, s.standing.staged = some o ∧ o.purpose = (k, r))
  ∨ (s.onAir k = true ∧ ∃ o ∈ s.standing.deferred, o.purpose = (k, r))

/-- A link is not wanted, and no waiting order is its (R91, R115). -/
def State.unsought (s : State) (k : LinkId) : Prop :=
  s.want k = none ∧ ∀ o ∈ s.standing.staged.toList ++ s.standing.deferred, o.link ≠ k

theorem unsought_iff {k : LinkId} : s.unsought k ↔
    s.want k = none ∧ ∀ o ∈ s.rte.staged.toList ++ s.rte.deferred, o.link ≠ k := Iff.rfl

theorem onAir_of_inner (inner : Inner s t) (k : LinkId) : t.onAir k = s.onAir k := by
  rw [State.onAir, State.onAir, inner.tally]

theorem want_standing (s : State) (k : LinkId) : s.want k = rd s.standing.lmn.wants k := rfl

theorem purpose_eq_iff {o : Order} {k : LinkId} {r : Reason} : o.purpose = (k, r) ↔ o.link = k ∧ o.reason = r :=
  Prod.mk.injEq _ _ _ _ ▸ Iff.rfl

section
variable {k : LinkId} {r : Reason}

theorem fillStaged_provided (h : s.provided k r) (empty : s.rte.staged = none) (filled : fillStaged s = some t) :
    t.provided k r := by
  have onAir := onAir_of_inner (fillStaged_inner filled) k
  have noneStaged : s.standing.staged = none := empty
  unfold State.provided
  rcases fillStaged_standing filled with ⟨o, -, offAir, e⟩ | ⟨j, q, wanted, e⟩
  · rw [want_standing, onAir, e]
    rcases h with want | active | ⟨x, staged, -⟩ | ⟨air, x, mem, purpose⟩
    · exact .inl want
    · exact .inr (.inl active)
    · rw [noneStaged] at staged
      cases staged
    · refine .inr (.inr (.inr ⟨air, x, List.mem_filter.mpr ⟨mem, ?_⟩, purpose⟩))
      have other : x.link ≠ o.link := fun same => by
        rw [← same, (purpose_eq_iff.mp purpose).1, air] at offAir
        cases offAir
      simpa using other
  · rw [want_standing, onAir, e]
    rcases h with want | active | ⟨x, staged, -⟩ | deferred
    · by_cases same : j = k
      · subst same
        cases wanted.symm.trans want
        exact .inr (.inr (.inl ⟨_, rfl, orderOf_purpose s _ _⟩))
      · exact .inl ((rd_wr_ne _ _ _ _ same).trans want)
    · exact .inr (.inl active)
    · rw [noneStaged] at staged
      cases staged
    · exact .inr (.inr (.inr deferred))

theorem startOrder_provided {o : Order} (h : s.provided k r) (staged : s.rte.staged = some o) (free : s.rte.active = none) :
    (startOrder o s).provided k r := by
  unfold State.provided
  rw [want_standing, onAir_of_inner (startOrder_inner o s), startOrder_standing]
  rcases h with want | active | ⟨x, isStaged, purpose⟩ | deferred
  · exact .inl want
  · simp [State.standing, free] at active
  · cases staged.symm.trans isStaged
    exact .inr (.inl (congrArg some purpose))
  · exact .inr (.inr (.inr deferred))

theorem deferOrder_provided {o : Order} (h : s.provided k r) (staged : s.rte.staged = some o)
    (onProgram : s.onAir o.link = true) : (deferOrder o s).provided k r := by
  have air (j : LinkId) : (deferOrder o s).onAir j = s.onAir j := rfl
  unfold State.provided
  rw [want_standing, air, deferOrder_standing]
  rcases h with want | active | ⟨x, isStaged, purpose⟩ | ⟨air, x, mem, purpose⟩
  · exact .inl want
  · exact .inr (.inl active)
  · cases staged.symm.trans isStaged
    have ofLink := (purpose_eq_iff.mp purpose).1
    exact .inr (.inr (.inr ⟨ofLink ▸ onProgram, o, List.mem_append_right _ List.mem_cons_self, purpose⟩))
  · exact .inr (.inr (.inr ⟨air, x, List.mem_append_left _ mem, purpose⟩))

/-- Through the settling a want stays or becomes an order of its link and its reason (R89, R99, R100). -/
theorem rteSettle_provides (want : s.want k = some r) :
    (rteSettle s).want k = some r ∨ ∃ o ∈ (rteSettle s).rte.orders, o.link = k ∧ o.reason = r := by
  have provided : (rteSettle s).provided k r :=
    rteSettle_keeps (P := fun u => u.provided k r) (fun _ _ => fillStaged_provided) (fun _ _ => startOrder_provided)
      (fun _ _ => deferOrder_provided) (.inl want)
  simp only [Rte.orders, List.mem_append, Option.mem_toList]
  rcases provided with want | active | ⟨o, staged, purpose⟩ | ⟨-, o, deferred, purpose⟩
  · exact .inl want
  · obtain ⟨o, isActive, purpose⟩ := Option.map_eq_some_iff.mp active
    exact .inr ⟨o, .inl (.inl isActive), purpose_eq_iff.mp purpose⟩
  · exact .inr ⟨o, .inl (.inr staged), purpose_eq_iff.mp purpose⟩
  · exact .inr ⟨o, .inr deferred, purpose_eq_iff.mp purpose⟩

theorem fillStaged_unsought (h : s.unsought k) (filled : fillStaged s = some t) : t.unsought k := by
  obtain ⟨unwanted, waiting⟩ := h
  unfold State.unsought
  rcases fillStaged_standing filled with ⟨o, mem, -, e⟩ | ⟨j, q, wanted, e⟩
  · rw [want_standing, e]
    refine ⟨unwanted, fun x listed => waiting x (List.mem_append_right _ ?_)⟩
    rcases List.mem_append.mp listed with staged | deferred
    · cases Option.mem_toList.mp staged
      exact mem
    · exact (List.mem_filter.mp deferred).1
  · have other : j ≠ k := fun same => by
      rw [same, unwanted] at wanted
      cases wanted
    rw [want_standing, e]
    refine ⟨(rd_wr_ne _ _ _ _ other).trans unwanted, fun x listed => ?_⟩
    rcases List.mem_append.mp listed with staged | deferred
    · cases Option.mem_toList.mp staged
      exact fun same => other ((purpose_eq_iff.mp (orderOf_purpose s j q)).1.symm.trans same)
    · exact waiting x (List.mem_append_right _ deferred)

theorem startOrder_unsought {o : Order} (h : s.unsought k) : (startOrder o s).unsought k := by
  obtain ⟨unwanted, waiting⟩ := h
  unfold State.unsought
  rw [want_standing, startOrder_standing]
  exact ⟨unwanted, fun x listed => waiting x (List.mem_append_right _ listed)⟩

theorem deferOrder_unsought {o : Order} (h : s.unsought k) (staged : s.rte.staged = some o) :
    (deferOrder o s).unsought k := by
  obtain ⟨unwanted, waiting⟩ := h
  unfold State.unsought
  rw [want_standing, deferOrder_standing]
  refine ⟨unwanted, fun x listed => waiting x (List.mem_append.mpr ?_)⟩
  have listed : x ∈ s.rte.deferred ++ [o] := listed
  rcases List.mem_append.mp listed with deferred | last
  · exact .inr deferred
  · cases List.mem_singleton.mp last
    exact .inl (Option.mem_toList.mpr staged)

/-- The settling makes no waiting order of a link that is not wanted and has none (R99, R100). -/
theorem rteSettle_unsought (h : s.unsought k) : (rteSettle s).unsought k :=
  rteSettle_keeps (P := fun u => u.unsought k) (fun _ _ h _ => fillStaged_unsought h) (fun _ _ h _ _ => startOrder_unsought h)
    (fun _ _ h staged _ => deferOrder_unsought h staged) h

end

end

end Sys2Proof.Machine
end

section
/-! Proofs of the family of link health: link-form METER frames and the expiry of a silence timer (R79 to R91). -/

namespace Sys2Proof.Machine

/-! ## A METER frame of link form arrives (R79, R94, R166, R172) -/

theorem exec_meterLinkForm (h : FrameHead) (p : List Byte) (s : State) :
    exec (.meterLinkForm h p) s = .next (receiveFrame Kind.meter h (0 :: p) (takeLinkMeter h.src p) s) := rfl

section
variable {h : FrameHead} {p : List Byte} {s : State}

/-- In BYPASS a METER frame of link form to the part goes on unchanged and is handed to the LMN (R94, R172). -/
theorem receiveFrame_heard (heard : s.hearsInBypass h p = true) (f : State → State) :
    receiveFrame Kind.meter h (0 :: p) f s = f (s.setOut (.forwarded (wire Kind.meter h.dst h.src (0 :: p) h.check))) := by
  simp only [State.hearsInBypass, State.onRing, Bool.and_eq_true, Bool.or_eq_true, Bool.not_eq_true',
    decide_eq_true_eq] at heard
  obtain ⟨⟨⟨⟨live, ring⟩, bypass⟩, passes⟩, dst⟩ := heard
  have table : ¬(s.rif.mode = .normal && s.rif.entry.isNone) = true := by
    rcases bypass with mode | marked
    · simp [mode]
    · simp [Option.isSome_iff_ne_none.mp marked]
  have handled : s.rif.handling { kind := Kind.meter, dst := h.dst, src := h.src, payload := 0 :: p }
      = { slot := false, hand := true } := by
    rw [Rif.handling, ring, if_neg Bool.false_ne_true, if_neg table, Rif.bypassHandling]
    simp [dst]
  rw [receiveFrame_passes live passes, handled]
  rfl

/-- The LMN hears the frame, consumed in NORMAL mode or forwarded in BYPASS (R79, R94). -/
theorem exec_meterLinkForm_received {out : RingOut}
    (received : s.consumes Kind.meter h (0 :: p) = true ∧ out = .slot
      ∨ s.hearsInBypass h p = true ∧ out = .forwarded (wire Kind.meter h.dst h.src (0 :: p) h.check)) :
    exec (.meterLinkForm h p) s = .next (takeLinkMeter h.src p (s.setOut out)) := by
  rw [exec_meterLinkForm]
  rcases received with ⟨consumed, rfl⟩ | ⟨heard, rfl⟩
  · rw [receiveFrame_consumed (by simp) consumed]
    rfl
  · rw [receiveFrame_heard heard]

variable {src : Node}

/-- A report of another length is ignored (R79). -/
theorem takeLinkMeter_length (length : p.length ≠ 6) : takeLinkMeter src p s = s := by
  unfold takeLinkMeter
  split
  · simp at length
  · rfl

variable {n presence a b q batt : Byte}

/-- A report about no link is ignored (R79). -/
theorem takeLinkMeter_outside (outside : 64 ≤ n.toNat) : takeLinkMeter src [n, presence, a, b, q, batt] s = s := by
  have noLink : finField 64 n.toNat = none := dif_neg (Nat.not_lt.mpr outside)
  rw [takeLinkMeter, noLink]

/-- A report about a link is digested where the link hears its source (R79). -/
theorem takeLinkMeter_link {k : LinkId} (link : n.toNat = k.val) : takeLinkMeter src [n, presence, a, b, q, batt] s =
    if (s.link k).hears src then digest k (readReport presence a b q batt) s else s := by
  rw [takeLinkMeter, val_eq_iff_finField.mp link.symm]

/-- The link is in use with a carrier, and the source is one of its receivers (R79). -/
theorem hears_iff (l : Link) : l.hears src = true ↔
    l.cfg.inUse = true ∧ l.carrier.state ≠ .none ∧ (src = l.cfg.rx ∨ (src = l.cfg.rx2 ∧ l.cfg.rx2 ≠ 0)) := by
  simp [Link.hears, and_assoc]

/-- A link that is not in use, has no carrier or has another receiver does not hear the source (R79). -/
theorem not_hears {l : Link} (deaf : l.cfg.inUse = false ∨ l.carrier.state = .none
    ∨ (src ≠ l.cfg.rx ∧ (src ≠ l.cfg.rx2 ∨ l.cfg.rx2 = 0))) : ¬l.hears src = true := by
  rw [hears_iff]
  rintro ⟨inUse, carrier, source⟩
  rcases deaf with unused | bare | ⟨notFirst, notSecond⟩
  · exact absurd inUse (by simp [unused])
  · exact carrier bare
  · rcases source with first | ⟨second, present⟩
    · exact notFirst first
    · exact notSecond.elim (fun h => h second) present

end

/-! ## What a change of health hands on (R86, R87) -/

section
variable {s : State} {k : LinkId} {old new : Health}

/-- The HEALTH note of a change to GOOD, MARGINAL or POOR (R86). -/
theorem healthNote_eq {f : Int} (level : (s.link k).health.level = some f) : healthNote k old new s =
    if new ≠ old ∧ (new = .good ∨ new = .marginal ∨ new = .poor) then
      note .health ([byte k.val, old.code, new.code] ++ i16 f ++ [byte (s.link k).health.lastQuality]) s
    else s := by
  have due : ((new = .good || new = .marginal || new = .poor) && old ≠ new) = true
      ↔ new ≠ old ∧ (new = .good ∨ new = .marginal ∨ new = .poor) := by
    simp only [Bool.and_eq_true, Bool.or_eq_true, decide_eq_true_eq, or_assoc]
    exact and_comm.trans (and_congr_left' ne_comm)
  simp only [healthNote, level, due]

/-- The BATTERY note of a flag that goes from off to on (R87). -/
theorem batteryNote_some (before : Bool) (v : Nat) : batteryNote k before (some v) s =
    if before = false ∧ (s.link k).health.batteryLow = true then note .battery [byte k.val, byte v] s else s := by
  simp only [batteryNote, Bool.and_eq_true, Bool.not_eq_true']

/-- The DEGRADE report of a change by a report, which never makes a link DOWN (R82, R86). -/
theorem healthDegrade_up (up : new ≠ old → new ≠ .down) : healthDegrade k old new s =
    if new ≠ old ∧ new = .poor then degradeReport k s else s := by
  have due : Health.degrades old new = true ↔ new ≠ old ∧ new = .poor := by
    simp only [Health.degrades, Bool.and_eq_true, Bool.or_eq_true, decide_eq_true_eq]
    constructor
    · rintro ⟨poor | down, changed⟩
      · exact ⟨changed.symm, poor⟩
      · exact absurd down (up changed.symm)
    · rintro ⟨changed, poor⟩
      exact ⟨.inl poor, changed.symm⟩
  simp only [healthDegrade, due]

/-- The DEGRADE report of a link that becomes DOWN (R86). -/
theorem healthDegrade_down : healthDegrade k old .down s = if old = .down then s else degradeReport k s := by
  by_cases already : old = .down
  · simp [healthDegrade, Health.degrades, already]
  · simp [healthDegrade, Health.degrades, already]

/-- The lamp of an eligible link is pending after a change of health (R86, R137). -/
theorem healthLamp_eq : healthLamp k old new s = { s with
    lmp := { s.lmp with
      pending := if new ≠ old ∧ s.eligible k = true then wr s.lmp.pending k true else s.lmp.pending } } := by
  unfold healthLamp
  by_cases changed : old = new
  · simp [changed]
  · by_cases eligible : s.eligible k = true
    · simp [changed, Ne.symm changed, eligible, lampPend, State.onLmp]
    · simp [changed, eligible, lampPend, State.onLmp]

theorem healthLamp_ledger : (healthLamp k old new s).ledger = s.ledger := by
  rw [healthLamp_eq]
  rfl

end

/-! ## A digested report (R80 to R84, R87) -/

section
variable (l : Link) (rep : Report)

/-- F after a report (R81). -/
def Link.levelAfter : Int := filterLevel l.health.level rep.level

/-- The grade after a report, which only a COMMITTED link's reports change (R82, R83). -/
def Link.gradeAfter : Health :=
  if l.carrier.state = .committed then classify l.cfg l.health.grade (l.levelAfter rep) rep.quality else l.health.grade

/-- The battery-low flag after a report (R87). -/
def Link.lowAfter : Bool :=
  match rep.battery with
  | some v => batteryFlag l.health.batteryLow l.cfg.batteryWarning v
  | none => l.health.batteryLow

/-- The health fields after a report, with the silence timer at its full time (R80, R84, R85). -/
def Link.healthAfter (silence : Nat) : LinkHealth :=
  { grade := l.gradeAfter rep, level := some (l.levelAfter rep), lastQuality := rep.quality
    lastBattery := match rep.battery with | some v => some v | none => l.health.lastBattery
    persist := if l.carrier.state = .committed then persistCount l.health.persist (l.gradeAfter rep) else l.health.persist
    batteryLow := l.lowAfter rep, silence := some silence }

/-- No report makes a link DOWN (R82). -/
theorem gradeAfter_up (changed : l.gradeAfter rep ≠ l.health.grade) : l.gradeAfter rep ≠ .down := by
  unfold Link.gradeAfter at changed ⊢
  split at changed
  next committed =>
    rw [if_pos committed]
    unfold classify
    dsimp only
    repeat' split
    all_goals exact nofun
  next => exact absurd rfl changed

end

section
variable (k : LinkId) (rep : Report) (s : State)

/-- The state with a report's fields in the link's record. -/
def State.reported : State := s.onHealth k fun _ => (s.link k).healthAfter rep s.mgr.settings.meterSilence

/-- The state once the notes and the DEGRADE report of a report are out (R86, R87). -/
def State.reportSent : State :=
  healthDegrade k (s.link k).health.grade ((s.link k).gradeAfter rep)
    (batteryNote k (s.link k).health.batteryLow rep.battery
      (healthNote k (s.link k).health.grade ((s.link k).gradeAfter rep) (s.reported k rep)))

/-- The state once the wants have followed a report (R89, R91). -/
def State.reportActed : State :=
  if (s.link k).carrier.state = .committed then
    reportWants k (s.link k).health ((s.link k).gradeAfter rep) (s.reportSent k rep)
  else s.reportSent k rep

theorem wr_wr {α : Type} {n : Nat} (t : Vector α n) (i : Fin n) (x y : α) : wr (wr t i x) i y = wr t i y := by
  simp [wr]

/-- Two changes of a link's health fields in one. -/
theorem onHealth_onHealth (f g : LinkHealth → LinkHealth) :
    (s.onHealth k f).onHealth k g = s.onHealth k fun h => g (f h) := by
  simp [State.onHealth, State.onLink, State.onPlan, wr_wr]

/-- A link's health after a change of one link's health fields. -/
theorem onHealth_health_ne {k j : LinkId} (s : State) (f : LinkHealth → LinkHealth) (other : j ≠ k) :
    ((s.onHealth k f).link j).health = (s.link j).health := by
  rw [State.onHealth, link_onLink_ne _ _ _ _ (Ne.symm other)]

/-- A report is digested: the record, the notes and the DEGRADE report, the wants, the lamp (R80, R86). -/
theorem digest_eq : digest k rep s =
    healthLamp k (s.link k).health.grade ((s.link k).gradeAfter rep) (s.reportActed k rep) := by
  unfold digest
  extract_lets l f graded grade fields noted warned degraded acted
  have same : fields = s.reported k rep := by
    simp only [fields, startSilence, onHealth_onHealth]
    rfl
  have sent : degraded = s.reportSent k rep := by
    simp only [degraded, warned, noted, same]
    rfl
  have left : acted = s.reportActed k rep := by
    simp only [acted, sent]
    rfl
  rw [left]
  rfl

end

section
variable {k : LinkId} {rep : Report} {s : State}

theorem reported_link : (s.reported k rep).link k =
    { s.link k with health := (s.link k).healthAfter rep s.mgr.settings.meterSilence } := link_onHealth_same _ _ _

theorem link_of_ledger {t : State} (same : t.ledger = s.ledger) (j : LinkId) : t.link j = s.link j := by
  rw [State.link, State.link, show t.plan = s.plan from congrArg Prod.fst same]

theorem lmn_of_ledger {t : State} (same : t.ledger = s.ledger) : t.lmn = s.lmn := congrArg (fun l => l.2.1) same

theorem rte_of_ledger {t : State} (same : t.ledger = s.ledger) : t.rte = s.rte := congrArg (fun l => l.2.2) same

/-- Notes and the DEGRADE report leave the record of the report, the wants and the orders. -/
theorem reportSent_ledger : (s.reportSent k rep).ledger = (s.reported k rep).ledger := by
  rw [State.reportSent, healthDegrade_ledger, batteryNote_ledger, healthNote_ledger]

/-- The notes and the DEGRADE report of a report, each with its condition (R86, R87). -/
theorem reportSent_eq {grade : Health} {noted warned : State} (hgrade : grade = (s.link k).gradeAfter rep)
    (hnoted : noted = if grade ≠ (s.link k).health.grade ∧ (grade = .good ∨ grade = .marginal ∨ grade = .poor) then
      note .health ([byte k.val, (s.link k).health.grade.code, grade.code] ++ i16 ((s.link k).levelAfter rep)
        ++ [byte rep.quality]) (s.reported k rep) else s.reported k rep)
    (hwarned : ∀ v, rep.battery = some v → warned =
      if (s.link k).health.batteryLow = false ∧ (s.link k).lowAfter rep = true then note .battery [byte k.val, byte v] noted
      else noted)
    (hsilent : rep.battery = none → warned = noted) :
    s.reportSent k rep =
      if grade ≠ (s.link k).health.grade ∧ grade = .poor then degradeReport k warned else warned := by
  have healthSent : healthNote k (s.link k).health.grade grade (s.reported k rep) = noted := by
    rw [hnoted, healthNote_eq (by rw [reported_link]; rfl), reported_link]
    rfl
  have batterySent : batteryNote k (s.link k).health.batteryLow rep.battery noted = warned := by
    have record : noted.link k = (s.reported k rep).link k := by
      rw [← healthSent]
      exact link_of_ledger (healthNote_ledger _ _ _ _) k
    cases battery : rep.battery with
    | none => exact (hsilent battery).symm
    | some v =>
      rw [hwarned v battery, batteryNote_some, record, reported_link]
      rfl
  rw [State.reportSent, ← hgrade, healthSent, batterySent]
  exact healthDegrade_up (hgrade ▸ gradeAfter_up _ _)

end

/-! ## Wants after a report (R89, R91) -/

section
variable {k : LinkId} {before : LinkHealth} {grade : Health} {s t : State}

theorem setWant_eq (same : t.lmn = s.lmn) (w : Option Reason) :
    setWant k w t = { t with lmn := { s.lmn with wants := wr s.lmn.wants k w } } := by
  rw [← same]
  rfl

@[simp] theorem want_setWant (w : Option Reason) : (setWant k w s).want k = w := rd_wr_same _ _ _

/-- A link may enter the set when it retunes by itself, is IDLE and is not in the set (R89). -/
theorem mayWant_iff : s.mayWant k = true ↔
    (s.link k).cfg.autoRetune = true ∧ (s.link k).carrier.phase = .idle ∧ s.want k = none := by
  simp [State.mayWant, and_assoc]

/-- A report that is neither a recovery nor the last of a persistent POOR leaves the wants (R89, R91). -/
theorem reportWants_rests (noRecovery : ¬(grade = .good ∧ before.grade ≠ .good))
    (noWant : ¬(grade = .poor ∧ before.persist < 15 ∧ before.persist + 1 = (s.link k).cfg.persistence
      ∧ s.mayWant k = true)) : reportWants k before grade s = s := by
  unfold reportWants
  split
  next good => exact if_neg fun was => noRecovery ⟨good, was⟩
  next => exact if_neg (by simpa [and_assoc] using noWant)

/-- At the persistence setting a POOR link enters the set for HEALTH (R89). -/
theorem reportWants_raises (poor : grade = .poor) (below : before.persist < 15)
    (reached : before.persist + 1 = (s.link k).cfg.persistence) (may : s.mayWant k = true) :
    reportWants k before grade s = enterWant k .health s := by
  subst poor
  rw [reportWants, if_neg nofun, if_pos (by simp [below, reached, may])]

/-- At a recovery to GOOD the link leaves the set, and its waiting order is withdrawn (R91). -/
theorem reportWants_recovers (good : grade = .good) (wasNot : before.grade ≠ .good) :
    reportWants k before grade s = withdrawRecovered k (setWant k none s) := by
  rw [reportWants, if_pos good, if_pos wasNot]

/-- Waiting orders that are not HEALTH orders of the link stay (R91). -/
theorem withdrawRecovered_other
    (other : ∀ o ∈ s.rte.staged.toList ++ s.rte.deferred, o.link = k → o.reason ≠ .health) : withdrawRecovered k s = s := by
  unfold withdrawRecovered
  split
  next o found =>
    have link : o.link = k := by simpa using List.find?_some found
    exact if_neg (other o (List.mem_of_find?_eq_some found) link)
  next => rfl

/-- A waiting HEALTH order of the link is withdrawn with its note, and the settling follows (R91, R115). -/
theorem withdrawRecovered_withdraws (waits : ∃ o ∈ s.rte.staged.toList ++ s.rte.deferred, o.link = k)
    (health : ∀ o ∈ s.rte.staged.toList ++ s.rte.deferred, o.link = k → o.reason = .health) :
    withdrawRecovered k s =
      rteSettle (note .retuneWithdrawn [byte k.val, Reason.health.code] (removeWaiting k s)) := by
  unfold withdrawRecovered
  split
  next o found =>
    have link : o.link = k := by simpa using List.find?_some found
    have reason := health o (List.mem_of_find?_eq_some found) link
    rw [if_pos reason, reason]
  next absent =>
    obtain ⟨o, mem, link⟩ := waits
    exact absurd link (by simpa using List.find?_eq_none.mp absent o mem)

theorem removeWaiting_eq (same : t.rte = s.rte) : removeWaiting k t = setPhase k .idle { t with
    rte := { s.rte with
      staged := s.rte.staged.filter fun o => o.link ≠ k
      deferred := s.rte.deferred.filter fun o => o.link ≠ k } } := by
  rw [← same]
  rfl

/-- A removal leaves no waiting order of the link (R115). -/
theorem removeWaiting_unsought (unwanted : s.want k = none) : (removeWaiting k s).unsought k := by
  unfold State.unsought removeWaiting
  rw [want_standing, setPhase_standing]
  refine ⟨unwanted, fun o listed => ?_⟩
  rcases List.mem_append.mp listed with staged | deferred
  · simpa using (Option.filter_eq_some_iff.mp (Option.mem_toList.mp staged)).2
  · simpa using (List.mem_filter.mp deferred).2

theorem enterWant_linkHealth (r : Reason) (s : State) (j : LinkId) :
    ((enterWant k r s).link j).health = (s.link j).health := rteSettle_health _ j

theorem removeWaiting_linkHealth (s : State) (j : LinkId) : ((removeWaiting k s).link j).health = (s.link j).health :=
  congrFun (congrArg Standing.health (setPhase_standing k .idle _)) j

theorem withdrawRecovered_linkHealth (s : State) (j : LinkId) :
    ((withdrawRecovered k s).link j).health = (s.link j).health := by
  unfold withdrawRecovered
  split
  · split
    · rw [rteSettle_health, link_of_ledger (note_ledger _ _ _), removeWaiting_linkHealth]
    · rfl
  · rfl

/-- The wants leave every link's health. -/
theorem reportWants_linkHealth (j : LinkId) : ((reportWants k before grade s).link j).health = (s.link j).health := by
  unfold reportWants
  split
  · split
    · exact withdrawRecovered_linkHealth _ j
    · rfl
  · split
    · exact enterWant_linkHealth _ _ j
    · rfl

theorem enterWant_provides (r : Reason) : (enterWant k r s).want k = some r
    ∨ ∃ o ∈ (enterWant k r s).rte.orders, o.link = k ∧ o.reason = r :=
  rteSettle_provides (want_setWant _)

end

/-! ## A digested report, by its outcome -/

section
variable {k : LinkId} {rep : Report} {s : State}

theorem reportSent_link : (s.reportSent k rep).link k =
    { s.link k with health := (s.link k).healthAfter rep s.mgr.settings.meterSilence } :=
  (link_of_ledger reportSent_ledger k).trans reported_link

theorem reportSent_lmn : (s.reportSent k rep).lmn = s.lmn :=
  (lmn_of_ledger reportSent_ledger).trans rfl

theorem reportSent_rte : (s.reportSent k rep).rte = s.rte :=
  (rte_of_ledger reportSent_ledger).trans rfl

theorem reportSent_mayWant : (s.reportSent k rep).mayWant k = true ↔
    (s.link k).cfg.autoRetune = true ∧ (s.link k).carrier.phase = .idle ∧ s.want k = none := by
  rw [mayWant_iff, reportSent_link, State.want, reportSent_lmn]
  rfl

theorem reportActed_inner : Inner s (s.reportActed k rep) := by
  have sent : Inner s (s.reportSent k rep) := ((Inner.onHealth k _).trans (healthNote_inner _ _ _ _)).trans
    ((batteryNote_inner _ _ _ _).trans (healthDegrade_inner _ _ _ _))
  unfold State.reportActed
  split
  · exact sent.trans (reportWants_inner _ _ _ _)
  · exact sent

theorem reportActed_linkHealth (j : LinkId) : ((s.reportActed k rep).link j).health = ((s.reported k rep).link j).health := by
  have sent := congrArg Link.health (link_of_ledger (reportSent_ledger (k := k) (rep := rep) (s := s)) j)
  unfold State.reportActed
  split
  · exact (reportWants_linkHealth j).trans sent
  · exact sent

/-- After the wants comes the lamp (R86). -/
theorem digest_lamp : digest k rep s = { s.reportActed k rep with
    lmp := { (s.reportActed k rep).lmp with
      pending := if (s.link k).gradeAfter rep ≠ (s.link k).health.grade ∧ s.eligible k = true then
          wr (s.reportActed k rep).lmp.pending k true
        else (s.reportActed k rep).lmp.pending } } := by
  rw [digest_eq, healthLamp_eq, reportActed_inner.eligible]

theorem digest_ledger : (digest k rep s).ledger = (s.reportActed k rep).ledger := by
  rw [digest_eq, healthLamp_ledger]

theorem digest_health : ((digest k rep s).link k).health = (s.link k).healthAfter rep s.mgr.settings.meterSilence := by
  rw [link_of_ledger digest_ledger, reportActed_linkHealth, reported_link]

theorem digest_health_ne {j : LinkId} (other : j ≠ k) : ((digest k rep s).link j).health = (s.link j).health := by
  rw [link_of_ledger digest_ledger, reportActed_linkHealth]
  exact onHealth_health_ne _ _ other

/-- A report of a link that is neither recovered nor persistently POOR acts on no want (R83, R89, R91). -/
theorem reportActed_rests
    (noRecovery : ¬((s.link k).carrier.state = .committed ∧ (s.link k).gradeAfter rep = .good
      ∧ (s.link k).health.grade ≠ .good))
    (noWant : ¬((s.link k).carrier.state = .committed ∧ (s.link k).gradeAfter rep = .poor ∧ (s.link k).health.persist < 15
      ∧ (s.link k).health.persist + 1 = (s.link k).cfg.persistence ∧ (s.link k).cfg.autoRetune = true
      ∧ (s.link k).carrier.phase = .idle ∧ s.want k = none)) : s.reportActed k rep = s.reportSent k rep := by
  unfold State.reportActed
  split
  next committed =>
    refine reportWants_rests (fun recovery => noRecovery ⟨committed, recovery⟩) ?_
    rw [reportSent_mayWant, reportSent_link]
    exact fun due => noWant ⟨committed, due⟩
  next => rfl

theorem want_of_ledger {t : State} (same : t.ledger = s.ledger) (j : LinkId) : t.want j = s.want j := by
  rw [State.want, State.want, lmn_of_ledger same]

theorem unsought_of_ledger {t : State} (same : t.ledger = s.ledger) : t.unsought k ↔ s.unsought k := by
  rw [State.unsought, State.unsought, want_of_ledger same, standing_of_ledger same]

section
variable (committed : (s.link k).carrier.state = .committed)
include committed

section
variable (poor : (s.link k).gradeAfter rep = .poor) (below : (s.link k).health.persist < 15)
  (reached : (s.link k).health.persist + 1 = (s.link k).cfg.persistence)
  (may : (s.link k).cfg.autoRetune = true ∧ (s.link k).carrier.phase = .idle ∧ s.want k = none)
include poor below reached may

/-- At the persistence setting the want is entered once the notes are out (R89). -/
theorem reportActed_raises : s.reportActed k rep = enterWant k .health (s.reportSent k rep) := by
  rw [State.reportActed, if_pos committed]
  exact reportWants_raises poor below (by rw [reportSent_link]; exact reached) (reportSent_mayWant.mpr may)

theorem digest_provides : (digest k rep s).want k = some .health
    ∨ ∃ o ∈ (digest k rep s).rte.orders, o.link = k ∧ o.reason = .health := by
  rw [want_of_ledger digest_ledger, rte_of_ledger digest_ledger, reportActed_raises committed poor below reached may]
  exact enterWant_provides _

end

section
variable (good : (s.link k).gradeAfter rep = .good) (wasNot : (s.link k).health.grade ≠ .good)
include good wasNot

/-- At a recovery the want leaves once the notes are out (R91). -/
theorem reportActed_recovers :
    s.reportActed k rep = withdrawRecovered k (setWant k none (s.reportSent k rep)) := by
  rw [State.reportActed, if_pos committed]
  exact reportWants_recovers good wasNot

/-- A recovery without a waiting HEALTH order is over with that (R91). -/
theorem reportActed_clears (other : ∀ o ∈ s.rte.staged.toList ++ s.rte.deferred, o.link = k → o.reason ≠ .health) :
    s.reportActed k rep = setWant k none (s.reportSent k rep) := by
  rw [reportActed_recovers committed good wasNot]
  exact withdrawRecovered_other (by rwa [show (setWant k none (s.reportSent k rep)).rte = s.rte from reportSent_rte])

variable (waits : ∃ o ∈ s.rte.staged.toList ++ s.rte.deferred, o.link = k)
  (health : ∀ o ∈ s.rte.staged.toList ++ s.rte.deferred, o.link = k → o.reason = .health)
include waits health

/-- A recovery withdraws the waiting HEALTH order (R91, R115). -/
theorem reportActed_withdraws : s.reportActed k rep =
    rteSettle (note .retuneWithdrawn [byte k.val, Reason.health.code]
      (removeWaiting k (setWant k none (s.reportSent k rep)))) := by
  have orders : (setWant k none (s.reportSent k rep)).rte = s.rte := reportSent_rte
  rw [reportActed_recovers committed good wasNot]
  exact withdrawRecovered_withdraws (by rwa [orders]) (by rwa [orders])

theorem digest_unsought : (digest k rep s).unsought k := by
  have removed : (note .retuneWithdrawn [byte k.val, Reason.health.code]
      (removeWaiting k (setWant k none (s.reportSent k rep)))).unsought k :=
    (unsought_of_ledger (note_ledger _ _ _)).mpr (removeWaiting_unsought (want_setWant _))
  rw [unsought_of_ledger digest_ledger, reportActed_withdraws committed good wasNot waits health]
  exact rteSettle_unsought removed

end

end

end

/-! ## The expiry of a silence timer (R85, R89, R90) -/

theorem exec_meterSilenceExpiry (k : LinkId) (s : State) :
    exec (.meterSilenceExpiry k) s = .next (event (silenceExpiry k) s) := rfl

/-- The state once the LINK_DOWN note and the DEGRADE report of a silent link are out (R85, R86). -/
def State.silenceSent (s : State) (k : LinkId) : State :=
  healthDegrade k (s.link k).health.grade .down
    (note .linkDown ([byte k.val, byte (s.link k).cfg.band.val] ++ channelOrNone (s.link k).carrier.channel)
      (s.onHealth k fun h => { h with grade := .down, silence := none }))

section
variable {k : LinkId} {s : State}

/-- A stopped timer does not expire (notes/assumptions/4). -/
theorem silenceExpiry_stopped (stopped : (s.link k).health.silence = none) : silenceExpiry k s = s := by
  simp only [silenceExpiry, stopped]

/-- Silence of a link that is not COMMITTED stops its timer only (R85). -/
theorem silenceExpiry_uncommitted (running : (s.link k).health.silence ≠ none)
    (uncommitted : (s.link k).carrier.state ≠ .committed) :
    silenceExpiry k s = s.onHealth k fun h => { h with silence := none } := by
  obtain ⟨n, timer⟩ := Option.ne_none_iff_exists'.mp running
  simp only [silenceExpiry, timer]
  exact if_neg uncommitted

/-- Silence of a COMMITTED link: its record, the note and the DEGRADE report, the wants, the lamp (R85, R86, R89). -/
theorem silenceExpiry_committed (running : (s.link k).health.silence ≠ none)
    (committed : (s.link k).carrier.state = .committed) : silenceExpiry k s =
      healthLamp k (s.link k).health.grade .down (silenceWants k (s.silenceSent k)) := by
  obtain ⟨n, timer⟩ := Option.ne_none_iff_exists'.mp running
  have down : setGrade k .down (s.onHealth k fun h => { h with silence := none })
      = s.onHealth k fun h => { h with grade := .down, silence := none } := onHealth_onHealth _ _ _ _
  simp only [silenceExpiry, timer]
  rw [if_pos committed, down]
  rfl

theorem silenceSent_ledger :
    (s.silenceSent k).ledger = (s.onHealth k fun h => { h with grade := .down, silence := none }).ledger := by
  rw [State.silenceSent, healthDegrade_ledger, note_ledger]

theorem silenceSent_link : (s.silenceSent k).link k =
    { s.link k with health := { (s.link k).health with grade := .down, silence := none } } :=
  (link_of_ledger silenceSent_ledger k).trans (link_onHealth_same _ _ _)

theorem silenceSent_lmn : (s.silenceSent k).lmn = s.lmn := (lmn_of_ledger silenceSent_ledger).trans rfl

theorem silenceSent_inner : Inner s (s.silenceSent k) :=
  ((Inner.onHealth k _).trans (note_inner _ _ _)).trans (healthDegrade_inner _ _ _ _)

theorem silenceSent_mayWant : (s.silenceSent k).mayWant k = true ↔
    (s.link k).cfg.autoRetune = true ∧ (s.link k).carrier.phase = .idle ∧ s.want k = none := by
  rw [mayWant_iff, silenceSent_link, State.want, silenceSent_lmn]
  rfl

/-- A silent link that may enter the set does, for RESCUE where the link is rescued on air (R89). -/
theorem silenceWants_enters (may : s.mayWant k = true) :
    silenceWants k s = enterWant k (if (s.link k).cfg.rescueOnAir = true then .rescue else .health) s := by
  simp only [silenceWants, may, if_true]

/-- Where it may not, its HEALTH want is raised to RESCUE (R90). -/
theorem silenceWants_raises (mayNot : ¬s.mayWant k = true) : silenceWants k s = { s with
    lmn := { s.lmn with
      wants := if s.want k = some .health ∧ (s.link k).cfg.rescueOnAir = true then wr s.lmn.wants k (some .rescue)
               else s.lmn.wants } } := by
  simp only [silenceWants, if_neg mayNot, Bool.and_eq_true, decide_eq_true_eq]
  split
  · rfl
  · rfl

/-- The wants leave every link's health. -/
theorem silenceWants_linkHealth (j : LinkId) : ((silenceWants k s).link j).health = (s.link j).health := by
  by_cases may : s.mayWant k = true
  · rw [silenceWants_enters may]
    exact enterWant_linkHealth _ _ j
  · rw [silenceWants_raises may]
    rfl

end

section
variable {k : LinkId} {s : State} (running : (s.link k).health.silence ≠ none)
  (committed : (s.link k).carrier.state = .committed)
include running committed

/-- After the wants comes the lamp (R86). -/
theorem silenceExpiry_lamp : silenceExpiry k s = { silenceWants k (s.silenceSent k) with
    lmp := { (silenceWants k (s.silenceSent k)).lmp with
      pending := if (s.link k).health.grade ≠ .down ∧ s.eligible k = true then
          wr (silenceWants k (s.silenceSent k)).lmp.pending k true
        else (silenceWants k (s.silenceSent k)).lmp.pending } } := by
  have inner : Inner s (silenceWants k (s.silenceSent k)) := silenceSent_inner.trans (silenceWants_inner _ _)
  rw [silenceExpiry_committed running committed, healthLamp_eq, inner.eligible]
  simp only [ne_comm (a := Health.down)]

theorem silenceExpiry_ledger : (silenceExpiry k s).ledger = (silenceWants k (s.silenceSent k)).ledger := by
  rw [silenceExpiry_committed running committed, healthLamp_ledger]

theorem silenceExpiry_health :
    ((silenceExpiry k s).link k).health = { (s.link k).health with grade := .down, silence := none } := by
  rw [link_of_ledger (silenceExpiry_ledger running committed), silenceWants_linkHealth, silenceSent_link]

theorem silenceExpiry_health_ne {j : LinkId} (other : j ≠ k) :
    ((silenceExpiry k s).link j).health = (s.link j).health := by
  rw [link_of_ledger (silenceExpiry_ledger running committed), silenceWants_linkHealth, link_of_ledger silenceSent_ledger]
  exact onHealth_health_ne _ _ other

/-- The want of a silent link that may enter the set (R89). -/
theorem silenceExpiry_enters (may : (s.link k).cfg.autoRetune = true ∧ (s.link k).carrier.phase = .idle ∧ s.want k = none)
    {reason : Reason} (hreason : reason = if (s.link k).cfg.rescueOnAir = true then .rescue else .health) :
    silenceWants k (s.silenceSent k) = enterWant k reason (s.silenceSent k)
    ∧ ((silenceExpiry k s).want k = some reason
      ∨ ∃ o ∈ (silenceExpiry k s).rte.orders, o.link = k ∧ o.reason = reason) := by
  have left := silenceExpiry_ledger running committed
  have entered : silenceWants k (s.silenceSent k) = enterWant k reason (s.silenceSent k) := by
    rw [silenceWants_enters (silenceSent_mayWant.mpr may), silenceSent_link, hreason]
  rw [want_of_ledger left, rte_of_ledger left, entered]
  exact ⟨rfl, enterWant_provides reason⟩

end

/-! ## Reports and silence -/

/-- The level of a report: the greater of two, or the first alone (R80). -/
theorem readReport_level (presence a b q batt : Byte) : (readReport presence a b q batt).level =
    if presence.getLsbD 0 then max (reportedLevel a) (reportedLevel b) else reportedLevel a := by
  by_cases second : presence.getLsbD 0 = true
  · simp only [Report.level, readReport, given, if_pos second]
  · simp only [Report.level, readReport, given, if_neg second]

/-- Settles O54: a report by the tests of R79, then its fields, its notes and what its outcome does to the wants; an expiry by
the timer and the carrier. -/
theorem meterReportsAndSilence : Obligations.MeterReportsAndSilence := by
  refine ⟨fun h p s out received => ⟨fun length => ?_, fun n presence a b q batt hp => ⟨fun outside => ?_,
      fun k link l hl => ⟨fun deaf => ?_, fun inUse carrier source level f quality battery low grade x hlevel hf hquality
        hbattery hlow hgrade hx base noted warned degraded cleared hbase hnoted hwarned hdegraded hcleared recovers raises
        hrecovers hraises => ?_⟩⟩⟩,
    fun k s live l hl => ⟨fun stopped => ?_, fun running uncommitted => ?_,
      fun running committed rescue reason hrescue hreason enters henters noted degraded hnoted hdegraded => ?_⟩⟩
  · rw [exec_meterLinkForm_received received, takeLinkMeter_length length]
    rfl
  · subst hp
    rw [exec_meterLinkForm_received received, takeLinkMeter_outside outside]
    rfl
  · subst hp hl
    rw [exec_meterLinkForm_received received, takeLinkMeter_link link, if_neg (not_hears (l := (s.setOut out).link k) deaf)]
    rfl
  · subst hp hl
    obtain ⟨rep, hrep⟩ : ∃ rep, rep = readReport presence a b q batt := ⟨_, rfl⟩
    have ofLevel : f = (s.link k).levelAfter rep := by rw [hf, hlevel, Link.levelAfter, hrep, readReport_level]
    have ofQuality : quality = rep.quality := by rw [hquality, hrep]; rfl
    have ofBattery : battery = rep.battery := by rw [hbattery, hrep]; rfl
    have ofLow : low = (s.link k).lowAfter rep := by rw [hlow, ofBattery]; rfl
    have ofGrade : grade = (s.link k).gradeAfter rep := by rw [hgrade, ofLevel, ofQuality]; rfl
    have ofHealth : x = (s.link k).healthAfter rep s.mgr.settings.meterSilence := by
      rw [hx, ofLevel, ofQuality, ofBattery, ofLow, ofGrade]
      rfl
    have sent : degraded = (s.setOut out).reportSent k rep := by
      rw [hdegraded]
      refine (reportSent_eq (s := s.setOut out) (noted := noted) ofGrade ?_ (fun v value => ?_) fun silent => ?_).symm
      · rw [hnoted, hbase, ofHealth, ofLevel, ofQuality]
        rfl
      · rw [hwarned, ofBattery, value, ofLow]
        rfl
      · rw [hwarned, ofBattery, silent]
    have heard : ((s.setOut out).link k).hears h.src = true := (hears_iff _).mpr ⟨inUse, carrier, source⟩
    have inner : Inner (s.setOut out) (digest k rep (s.setOut out)) := digest_inner _ _ _
    have clear : cleared = setWant k none ((s.setOut out).reportSent k rep) := by
      rw [hcleared, sent]
      exact (setWant_eq (s := s.setOut out) reportSent_lmn none).symm
    subst ofGrade ofHealth sent clear hrecovers hraises
    refine ⟨(s.setOut out).reportActed k rep, digest k rep (s.setOut out), ?_, digest_lamp, digest_health,
      fun j other => digest_health_ne other, fun j => ⟨inner.cfg j, inner.tally j⟩, inner.tly, inner.tbm,
      inner.bands, inner.windows, reportActed_rests (s := s.setOut out), fun ⟨committed, poor, below, reached, may⟩ =>
        ⟨?_, digest_provides (s := s.setOut out) committed poor below reached may⟩,
      fun ⟨committed, good, wasNot⟩ => reportActed_clears (s := s.setOut out) committed good wasNot,
      fun ⟨committed, good, wasNot⟩ waits health =>
        ⟨?_, unsought_iff.mp (digest_unsought (s := s.setOut out) committed good wasNot waits health)⟩⟩
    · rw [exec_meterLinkForm_received received, takeLinkMeter_link link, if_pos heard, hrep]
    · rw [reportActed_raises (s := s.setOut out) committed poor below reached may, enterWant,
        setWant_eq (s := s.setOut out) reportSent_lmn]
      rfl
    · rw [reportActed_withdraws (s := s.setOut out) committed good wasNot waits health,
        removeWaiting_eq (t := setWant k none _) (s := s.setOut out) reportSent_rte]
      rfl
  · subst hl
    rw [exec_meterSilenceExpiry, event_live live, silenceExpiry_stopped (s := s.quieted) stopped]
  · subst hl
    rw [exec_meterSilenceExpiry, event_live live, silenceExpiry_uncommitted (s := s.quieted) running uncommitted]
    rfl
  · subst hl
    have sent : degraded = s.quieted.silenceSent k := by
      rw [hdegraded, hnoted]
      exact healthDegrade_down.symm
    have inner : Inner s.quieted (silenceExpiry k s.quieted) := silenceExpiry_inner _ _
    subst sent henters hrescue
    refine ⟨silenceWants k (s.quieted.silenceSent k), silenceExpiry k s.quieted, ?_,
      silenceExpiry_lamp (s := s.quieted) running committed, silenceExpiry_health (s := s.quieted) running committed,
      fun j other => silenceExpiry_health_ne (s := s.quieted) running committed other,
      fun j => ⟨inner.cfg j, inner.tally j⟩, inner.tly, inner.tbm, inner.bands, inner.windows, fun may => ?_,
      fun mayNot => ?_⟩
    · rw [exec_meterSilenceExpiry, event_live live]
    · obtain ⟨entered, provided⟩ := silenceExpiry_enters (s := s.quieted) running committed may hreason
      refine ⟨?_, provided⟩
      rw [entered, enterWant, setWant_eq (s := s.quieted) silenceSent_lmn]
      rfl
    · rw [silenceWants_raises ((silenceSent_mayWant (s := s.quieted)).not.mpr mayNot), silenceSent_link, State.want,
        silenceSent_lmn]
      rfl

end Sys2Proof.Machine
end

section
/-! Proofs of the family of retuning: a planner result for the Active order (R103, R104, R114). -/

namespace Sys2Proof.Machine

/-! ## Who awaits a planner result (R103, R114) -/

section
variable {res : PlannerResult} {s : State}

/-- A result that is owed is discarded, and with it the flag (R114). -/
theorem takeResult_owed (owed : s.rte.owed = true) :
    takeResult res s = { s with rte := { s.rte with owed := false } } := by
  rw [takeResult, if_pos owed]
  rfl

/-- With no Active order in CHECKING a result that is not owed changes nothing (notes/assumptions/42). -/
theorem takeResult_unawaited (notOwed : s.rte.owed = false)
    (unawaited : ∀ o, s.rte.active = some o → (s.link o.link).carrier.phase ≠ .checking) : takeResult res s = s := by
  rw [takeResult, if_neg (by simp [notOwed])]
  split
  · next o active => exact if_neg (unawaited o active)
  · rfl

/-- An Active order in CHECKING takes a result that is not owed (R103). -/
theorem takeResult_awaited {o : Order} (notOwed : s.rte.owed = false) (active : s.rte.active = some o)
    (checking : (s.link o.link).carrier.phase = .checking) : takeResult res s = resultForOrder o res s := by
  rw [takeResult, if_neg (by simp [notOwed]), active]
  exact if_pos checking

end

/-! ## What the Active order makes of it (R103, R104) -/

/-- An order that ends FAILED: the Active slot and the phase first, then the note, then the promotion test (R104). -/
theorem failOrder_eq (o : Order) (cause : Cause) (total : Nat) (s : State) :
    failOrder o cause total s = rteSettle (note .retuneFailed
      ([byte o.link.val, o.reason.code] ++ o.target.wire ++ [cause.code] ++ n16 (if cause = .conflict then total else 0))
      (setPhase o.link .idle { s with rte := { s.rte with active := none } })) := rfl

theorem resultForOrder_failed (o : Order) (cause : Cause) (total : Nat) (s : State) :
    resultForOrder o (.failed cause total) s = failOrder o cause total s := rfl

section
variable {o : Order} {n : Nat} {gen : Half} {s : State}

/-- A CLEAR result of the current generation launches the order at its channel (R103). -/
theorem resultForOrder_current (current : gen = s.plan.gen) :
    resultForOrder o (.clear n gen) s =
      launch { o with chosen := some (.channel n), snapGen := some gen } (.channel n) s :=
  if_pos current

/-- A CLEAR result of an older generation is put to a CONFIRM, where the order has had fewer than two (R103). -/
theorem resultForOrder_stale (stale : gen ≠ s.plan.gen) (fewer : o.confirms < 2) :
    resultForOrder o (.clear n gen) s =
      requestRte { kind := .confirm, link := o.link, channel := some n, mode := o.confirmMode }
        { s with
          rte := { s.rte with
            active := some { o with
              chosen := some (.channel n), snapGen := some gen, confirms := o.confirms + 1 } } } :=
  (if_neg stale).trans (if_pos fewer)

/-- After two CONFIRMs a CLEAR result that is stale again ends the order with PLAN_MOVING (R103); the end reads nothing that the
result has written into the order. -/
theorem resultForOrder_moving (stale : gen ≠ s.plan.gen) (twice : 2 ≤ o.confirms) :
    resultForOrder o (.clear n gen) s = failOrder o .planMoving 0 s :=
  (if_neg stale).trans (if_neg twice.not_gt)

end

/-- Settles O41: the result by who awaits it, and for the Active order by its kind, its generation and the CONFIRMs so far. -/
theorem plannerResultTaken : Obligations.PlannerResultTaken := by
  unfold Obligations.PlannerResultTaken
  intro res s
  refine ⟨takeResult_owed, takeResult_unawaited, fun o notOwed active checking failed ends => ?_⟩
  rw [takeResult_awaited notOwed active checking]
  have ended (cause : Cause) (total : Nat) : failOrder o cause total s = failed cause total :=
    (failOrder_eq o cause total s).trans (ends cause total).symm
  refine ⟨?failed, fun n gen clear => ?clear⟩
  case failed =>
    rintro cause total rfl
    rw [resultForOrder_failed, ended]
  case clear =>
    subst clear
    refine ⟨resultForOrder_current, resultForOrder_stale, fun stale twice => ?_⟩
    rw [resultForOrder_moving stale twice, ended]

end Sys2Proof.Machine
end

section
/-! Proofs of the family of the tally: when a bus is in a link's merged tally (R127). -/

namespace Sys2Proof.Machine

/-! ## The buses of a set, one at a time (R117, R127) -/

/-- One of the three buses (R117), so that R127 is proved once for all of them. -/
inductive Bus where
  | program | preview | iso

/-- Whether a set of buses holds a bus. -/
def Buses.has (u : Buses) : Bus → Bool
  | .program => u.program
  | .preview => u.preview
  | .iso => u.iso

/-- The suppression map of a bus. -/
def Suppress.of (m : Suppress) : Bus → Vector Bool 64
  | .program => m.program
  | .preview => m.preview
  | .iso => m.iso

/-- What R127 asks of a slot and a source: together they put the bus in the merged tally of the link. -/
def Slot.puts (t : Slot) (bus : Bus) (k : LinkId) (x : Fin 256) : Prop :=
  (t.state = .online ∨ t.state = .holding) ∧ t.cfg.enables.has bus = true ∧ (rd t.contrib x).has bus = true
    ∧ rd t.map x = some k ∧ rd (t.cfg.suppress.of bus) k = false

section
variable (bus : Bus)

@[simp] theorem empty_has : Buses.empty.has bus = false := by cases bus <;> rfl

@[simp] theorem union_has (u v : Buses) : (u.union v).has bus = (u.has bus || v.has bus) := by cases bus <;> rfl

@[simp] theorem passes_has (c : SlotCfg) (k : LinkId) (u : Buses) :
    (c.passes k u).has bus = (u.has bus && c.enables.has bus && !rd (c.suppress.of bus) k) := by cases bus <;> rfl

end

/-! ## The merge (R127) -/

/-- One source of a slot merged into the tallies so far. -/
def Slot.mergeSource (t : Slot) (acc : Vector Buses 64) (x : Fin 256) : Vector Buses 64 :=
  match rd t.map x with
  | some k =>
    let u := t.cfg.passes k (rd t.contrib x)
    if u = .empty then acc else wr acc k ((rd acc k).union u)
  | none => acc

theorem mergeInto_of_offline {t : Slot} (offline : t.state = .offline) (acc : Vector Buses 64) : t.mergeInto acc = acc := by
  rw [Slot.mergeInto, if_pos offline]

theorem mergeInto_of_ne_offline {t : Slot} (stands : t.state ≠ .offline) (acc : Vector Buses 64) :
    t.mergeInto acc = (List.finRange 256).foldl t.mergeSource acc := by
  rw [Slot.mergeInto, if_neg stands]
  rfl

section
variable (bus : Bus) (k : LinkId) (acc : Vector Buses 64)

/-- A fold whose every step adds the buses that its element claims ends with those of the start and those that some element
claims. -/
theorem foldl_has {α : Type} {f : Vector Buses 64 → α → Vector Buses 64} {claims : α → Prop}
    (step : ∀ acc x, (rd (f acc x) k).has bus = true ↔ (rd acc k).has bus = true ∨ claims x) (l : List α) :
    (rd (l.foldl f acc) k).has bus = true ↔ (rd acc k).has bus = true ∨ ∃ x ∈ l, claims x := by
  induction l generalizing acc with
  | nil => simp
  | cons x l ih => rw [List.foldl_cons, ih, step, List.exists_mem_cons_iff, or_assoc]

/-- A source adds a bus to the one link that its slot's source map names. The model leaves out the write of an empty set, which
would add nothing. -/
theorem mergeSource_has (t : Slot) (x : Fin 256) :
    (rd (t.mergeSource acc x) k).has bus = true ↔
      (rd acc k).has bus = true ∨ (rd t.map x = some k ∧ (t.cfg.passes k (rd t.contrib x)).has bus = true) := by
  cases mapped : rd t.map x with
  | none => simp [Slot.mergeSource, mapped]
  | some j =>
    simp only [Slot.mergeSource, mapped, Option.some.injEq]
    by_cases link : j = k
    · subst link
      split
      · next nothing => simp [nothing]
      · simp
    · split
      · simp [link]
      · simp [link]

/-- A slot adds the buses that one of its sources puts there; an OFFLINE slot adds none. -/
theorem mergeInto_has (t : Slot) :
    (rd (t.mergeInto acc) k).has bus = true ↔ (rd acc k).has bus = true ∨ ∃ x, t.puts bus k x := by
  by_cases offline : t.state = .offline
  · simp [mergeInto_of_offline offline, Slot.puts, offline]
  · have stands : t.state = .online ∨ t.state = .holding := by
      cases state : t.state with
      | offline => exact absurd state offline
      | online => exact .inl rfl
      | holding => exact .inr rfl
    have puts_iff (x : Fin 256) :
        t.puts bus k x ↔ rd t.map x = some k ∧ (t.cfg.passes k (rd t.contrib x)).has bus = true := by
      simp only [Slot.puts, stands, passes_has, Bool.and_eq_true, Bool.not_eq_true']
      tauto
    rw [mergeInto_of_ne_offline offline, foldl_has bus k acc fun acc x => mergeSource_has bus k acc t x]
    simp only [puts_iff, List.mem_finRange, true_and]

/-- The merge of every slot, from tallies that are all empty. -/
theorem mergedTallies_has (slots : Vector Slot 4) :
    (rd (mergedTallies slots) k).has bus = true ↔ ∃ i x, (rd slots i).puts bus k x := by
  rw [mergedTallies, foldl_has bus k _ fun acc t => mergeInto_has bus k acc t]
  simp [Vector.mem_iff_getElem, Fin.exists_iff, rd]

end

/-- R127 in a state whose merged tallies are the ones formed from the slots. -/
theorem tally_has {s : State} {k : LinkId} (merged : (s.link k).tally = rd (mergedTallies s.tly.slots) k) (bus : Bus) :
    (s.link k).tally.has bus = true ↔ ∃ i x, (s.slot i).puts bus k x := by
  rw [merged]
  exact mergedTallies_has bus k s.tly.slots

/-- Settles O49: the merge followed through the slots and their sources, once for the three buses. -/
theorem mergeRule : Obligations.MergeRule := by
  unfold Obligations.MergeRule
  rintro s k ⟨merged, disabledOffline, -⟩
  have states := tally_has (merged k)
  refine ⟨states .program, states .preview, states .iso, fun i disabled => ?_⟩
  have offline := disabledOffline i disabled
  exact ⟨offline, mergeInto_of_offline offline⟩

end Sys2Proof.Machine
end

section
/-! Proofs of the family of talkback mixing: the close of an epoch (R148 to R157) and the mix term (R145, R151). -/

namespace Sys2Proof.Machine

/-! ## The mix term (R145, R151) -/

/-- Every gain code but 0 attenuates (R145). -/
theorem multiplier_attenuates : ∀ g : Fin 16, g ≠ 0 → 0 ≤ multiplier g ∧ multiplier g < 32768 := by decide

section
variable (x m : Int)

/-- A term is the integer nearest to the exact product, the upper one at a half (R151). -/
theorem mixTerm_rounds : 32768 * mixTerm x m ≤ x * m + 16384 ∧ x * m + 16384 < 32768 * (mixTerm x m + 1) := by
  unfold mixTerm
  omega

/-- The multiplier of gain code 0 leaves a sample as it is. -/
theorem mixTerm_unity : mixTerm x 32768 = x := by
  have rounds := mixTerm_rounds x 32768
  omega

/-- Rounding is symmetric except at halves, which go toward plus infinity for either sign. -/
theorem mixTerm_neg_iff : mixTerm (-x) m = -mixTerm x m ↔ x * m % 32768 ≠ 16384 := by
  have rounds := mixTerm_rounds x m
  have roundsNeg := mixTerm_rounds (-x) m
  rw [Int.neg_mul] at roundsNeg
  omega

variable {x m}

/-- A multiplier of at most one puts the term between 0 and the sample, as it puts the product between 0 and 32768 times the
sample. -/
theorem mixTerm_between (nonneg : 0 ≤ m) (le : m ≤ 32768) :
    (0 ≤ x ∧ 0 ≤ mixTerm x m ∧ mixTerm x m ≤ x) ∨ (x ≤ 0 ∧ x ≤ mixTerm x m ∧ mixTerm x m ≤ 0) := by
  have rounds := mixTerm_rounds x m
  rcases Int.le_total 0 x with positive | negative
  · have product : 0 ≤ x * m := Int.mul_nonneg positive nonneg
    have below : x * m ≤ x * 32768 := Int.mul_le_mul_of_nonneg_left le positive
    omega
  · have product : x * m ≤ 0 := Int.mul_nonpos_of_nonpos_of_nonneg negative nonneg
    have above : x * 32768 ≤ x * m := Int.mul_le_mul_of_nonpos_left negative le
    omega

/-- A multiplier below one keeps a 16-bit sample off -32768. -/
theorem lt_mixTerm (low : -32768 ≤ x) (nonneg : 0 ≤ m) (lt : m < 32768) : -32768 < mixTerm x m := by
  have rounds := mixTerm_rounds x m
  have product : -32768 * m ≤ x * m := Int.mul_le_mul_of_nonneg_right low nonneg
  omega

end

/-- Settles O52: the rounding bounds say what a term is; the multiplier's range gives its magnitude. -/
theorem mixTermRule : Obligations.MixTermRule := by
  refine ⟨by decide, ?_⟩
  rintro g x low high y rfl
  obtain ⟨below, above⟩ := mixTerm_rounds x (multiplier g)
  refine ⟨below, above, ?_, fun coded => ?_, mixTerm_neg_iff x _⟩
  · rintro rfl
    exact ⟨rfl, mixTerm_unity x⟩
  · obtain ⟨nonneg, lt⟩ := multiplier_attenuates g coded
    have between := mixTerm_between (x := x) nonneg lt.le
    exact ⟨lt_mixTerm low nonneg lt, by omega, by omega⟩

/-! ## Words in a payload -/

theorem half_of_halfBytes (x : Half) : half (x.extractLsb' 8 8) (x.extractLsb' 0 8) = x := by
  rw [half, BitVec.extractLsb'_append_extractLsb'_eq_extractLsb' (by rfl), BitVec.extractLsb'_eq_self]

theorem halfBytes_half (hi lo : Byte) : halfBytes (half hi lo) = [hi, lo] := by
  rw [halfBytes, half, BitVec.extractLsb'_append_eq_left, BitVec.extractLsb'_append_eq_right]

section
variable {α : Type} (f : α → Half) (l : List α)

theorem length_flatMap_halfBytes : (l.flatMap fun x => halfBytes (f x)).length = 2 * l.length := by
  induction l with
  | nil => rfl
  | cons x l ih =>
    rw [List.flatMap_cons, List.length_append, ih, List.length_cons]
    simp only [halfBytes, List.length_cons, List.length_nil]
    omega

/-- The word at a place of a run of words is the one that was put there. -/
theorem half_at0_flatMap (i : Nat) (place : i < l.length) :
    half (at0 (l.flatMap fun x => halfBytes (f x)) (2 * i)) (at0 (l.flatMap fun x => halfBytes (f x)) (2 * i + 1))
      = f l[i] := by
  induction l generalizing i with
  | nil => cases place
  | cons x l ih =>
    cases i with
    | zero => exact half_of_halfBytes (f x)
    | succ i => exact ih i (Nat.lt_of_succ_lt_succ place)

end

/-! ## The arithmetic of a mix (R150, R152) -/

/-- The limit is the range of a 16-bit sample, so that no limited sum wraps (R152). -/
theorem limit16_toInt (x : Int) : (BitVec.ofInt 16 (limit16 x)).toInt = max (-32768) (min 32767 x) := by
  refine BitVec.toInt_ofInt_eq_self (by decide) ?_ ?_
  · exact le_max_left _ _
  · unfold limit16
    omega

section
variable (t : Tbm) (blocks : Vector Block 16) (d : DestId)

theorem talks_iff (i : TalkId) : t.talks blocks d i = true ↔
    (rd t.dests d).feed ≠ some i ∧ (rd (rd t.xpoints i) d).on = true ∧ (rd blocks i).talk = true := by
  simp [Tbm.talks, and_assoc]

/-- A sum over the talkers is a sum over the sources to which the others give 0. -/
theorem sum_talkers (term : TalkId → Int) : ((t.talkers blocks d).map term).sum =
    ((List.finRange 16).map fun i => if t.talks blocks d i then term i else 0).sum := by
  rw [List.sum_map_ite]
  simp [Tbm.talkers]

/-- R152: an output sample is the limited sum of the feed's term and the talkers' terms. -/
theorem mixSample_toInt (ducked : Bool) (q : Fin 48) : (t.mixSample blocks d ducked q).toInt = max (-32768) (min 32767
    ((match (rd t.dests d).feed with
      | some i => mixTerm (rd (rd blocks i).samples q).toInt
          (multiplier (if ducked then (rd t.dests d).duck else (rd t.dests d).gain))
      | none => 0)
    + ((List.finRange 16).map fun i => if t.talks blocks d i
        then mixTerm (rd (rd blocks i).samples q).toInt (multiplier (rd (rd t.xpoints i) d).gain) else 0).sum)) := by
  refine (limit16_toInt _).trans ?_
  exact congrArg (fun talkers => max (-32768) (min 32767 (_ + talkers))) (sum_talkers t blocks d _)

end

/-! ## The MIX frame (R155, R162) -/

section
variable (s : State) (blocks : Vector Block 16) (d : DestId) (call : Bool) (hi lo : Byte)

/-- R162: number, epoch and flags stand before the samples. -/
theorem mixFrame_payload : (s.mixFrame blocks d call (half hi lo)).payload =
    [byte d.val, hi, lo, if call then 3 else 0]
      ++ (List.finRange 48).flatMap fun q => halfBytes (s.tbm.mixSample blocks d call q) := by
  simp only [State.mixFrame, halfBytes_half]
  cases call <;> rfl

theorem mixFrame_length : (s.mixFrame blocks d call (half hi lo)).payload.length = 100 := by
  rw [mixFrame_payload, List.length_append, length_flatMap_halfBytes, List.length_finRange]
  rfl

theorem mixFrame_head : (s.mixFrame blocks d call (half hi lo)).payload.take 4 =
    [byte d.val, hi, lo, if call then 3 else 0] := by
  rw [mixFrame_payload]
  rfl

theorem mixFrame_sample (q : Fin 48) :
    half (at0 (s.mixFrame blocks d call (half hi lo)).payload (4 + 2 * q.val))
      (at0 (s.mixFrame blocks d call (half hi lo)).payload (5 + 2 * q.val)) = s.tbm.mixSample blocks d call q := by
  have place : q.val < (List.finRange 48).length := by rw [List.length_finRange]; exact q.isLt
  have word := half_at0_flatMap (fun q => s.tbm.mixSample blocks d call q) (List.finRange 48) q.val place
  rw [List.getElem_finRange] at word
  rw [mixFrame_payload, Nat.add_comm 4, Nat.add_comm 5]
  exact word

/-- R155: the frames of a link's destination go to the link's transmitter. -/
theorem mixNode_link {k : LinkId} (link : (rd s.tbm.dests d).link = some k) : s.mixNode d = (s.link k).cfg.tx := by
  simp only [State.mixNode, link]

/-- R155: the frames of a wired destination go to its node. -/
theorem mixNode_wired (wired : (rd s.tbm.dests d).link = none) : s.mixNode d = (rd s.tbm.dests d).wired := by
  simp only [State.mixNode, wired]

/-- R153: what makes a link hold its destination. -/
theorem linkHolds_iff : s.linkHolds d = true ↔ ∃ k, (rd s.tbm.dests d).link = some k
    ∧ ((s.link k).carrier.phase = .tuning ∨ (s.link k).carrier.phase = .reverting
      ∨ (s.link k).carrier.state ≠ .committed) := by
  unfold State.linkHolds
  cases (rd s.tbm.dests d).link with
  | none => simp
  | some k => simp [LinkCarrier.holds, or_assoc]

end

/-! ## The records after a close (R148) -/

/-- The contributed blocks of the sources at a close (R149). -/
def State.contributed (s : State) : Vector Block 16 := tab fun i => (rd s.tbm.buffers i).settle.1

/-- A destination has a talker at a close (R150). -/
def State.talked (s : State) (d : DestId) : Bool := !(s.tbm.talkers s.contributed d).isEmpty

section
variable (s : State) (epoch : Half) (d : DestId)

theorem contributed_rd (i : TalkId) : rd s.contributed i = (rd s.tbm.buffers i).settle.1 := rd_tab _ i

theorem talked_iff : s.talked d = true ↔ ∃ i, s.tbm.talks s.contributed d i = true := by
  simp [State.talked, Tbm.talkers]

/-- Reports of changed CALL flags reach the eligible links that name them (R137, R157). -/
theorem callReport_pending (changed : DestId → Bool) (k : LinkId) :
    rd (callReport changed s).lmp.pending k = true ↔ rd s.lmp.pending k = true
      ∨ (s.eligible k = true ∧ ∃ d, (s.link k).cfg.talkback = some d ∧ changed d = true) := by
  simp only [callReport, lampPendWhere, State.onLmp, rd_tab, Bool.or_eq_true, Bool.and_eq_true, and_comm]
  cases (s.link k).cfg.talkback <;> simp

theorem closeEpoch_buffers (i : TalkId) : rd (closeEpoch epoch s).tbm.buffers i = (rd s.tbm.buffers i).settle.2 :=
  rd_tab _ i

theorem closeEpoch_call : rd (closeEpoch epoch s).tbm.call d =
    if (rd s.tbm.dests d).enabled then s.talked d else rd s.tbm.call d := rd_tab _ d

theorem closeEpoch_ducked : rd (closeEpoch epoch s).tbm.ducked d =
    if (rd s.tbm.dests d).enabled then s.talked d else rd s.tbm.ducked d := rd_tab _ d

theorem closeEpoch_held : rd (closeEpoch epoch s).tbm.held d = ((rd s.tbm.dests d).enabled && s.linkHolds d) :=
  rd_tab _ d

theorem closeEpoch_voiceQ : rd (closeEpoch epoch s).rif.voiceQ d =
    if (rd s.tbm.dests d).enabled && !s.linkHolds d then some (s.mixFrame s.contributed d (s.talked d) epoch)
    else rd s.rif.voiceQ d := rd_tab _ d

/-- R153: a held destination keeps its place of the Voice Queue. -/
theorem closeEpoch_voiceQ_held (holds : s.linkHolds d = true) :
    rd (closeEpoch epoch s).rif.voiceQ d = rd s.rif.voiceQ d := by
  simp [closeEpoch_voiceQ, holds]

/-- R155: an enabled destination that is not held gets a MIX frame. -/
theorem closeEpoch_voiceQ_mixed (enabled : (rd s.tbm.dests d).enabled = true) (free : ¬s.linkHolds d = true) :
    rd (closeEpoch epoch s).rif.voiceQ d = some (s.mixFrame s.contributed d (s.talked d) epoch) := by
  simp [closeEpoch_voiceQ, enabled, free]

theorem closeEpoch_pending (k : LinkId) : rd (closeEpoch epoch s).lmp.pending k = true ↔
    rd s.lmp.pending k = true ∨ (s.eligible k = true
      ∧ ∃ d, (s.link k).cfg.talkback = some d ∧ rd (closeEpoch epoch s).tbm.call d ≠ rd s.tbm.call d) := by
  refine (callReport_pending _ _ k).trans ?_
  simp only [decide_eq_true_eq]
  rfl

end

/-! ## A CYCLE frame (R148, R166) -/

theorem exec_cycle (h : FrameHead) (p : List Byte) (s : State) :
    exec (.cycle h p) s = .next (receiveFrame Kind.cycle h p (takeCycle p) s) := rfl

/-- An observed CYCLE frame goes on unchanged and is handed to the TBM (R148, R166). -/
theorem exec_cycle_observed {h : FrameHead} {p : List Byte} {s : State} (observed : s.observes Kind.cycle h p = true) :
    exec (.cycle h p) s = .next (takeCycle p (s.setOut (.forwarded (wire Kind.cycle h.dst h.src p h.check)))) := by
  rw [exec_cycle, receiveFrame_observed (.inr rfl) observed]

/-- A CYCLE frame of another length closes no epoch (R148). -/
theorem takeCycle_length {p : List Byte} (s : State) (length : p.length ≠ 2) : takeCycle p s = s := by
  unfold takeCycle
  split
  · exact absurd rfl length
  · rfl

theorem takeCycle_setOut (hi lo : Byte) (s : State) (out : RingOut) :
    takeCycle [hi, lo] (s.setOut out) = (closeEpoch (half hi lo) s).setOut out := rfl

/-- Settles O51: an epoch closed is the records after a close read one by one, and the MIX frame field by field. -/
theorem epochClose : Obligations.EpochClose := by
  unfold Obligations.EpochClose
  rintro h p s observed out rfl
  have executed := exec_cycle_observed observed
  refine ⟨fun length => ?_, fun length => ?_⟩
  · rw [executed, takeCycle_length _ length]
    rfl
  · obtain ⟨hi, lo, rfl⟩ := List.length_eq_two.mp length
    rw [takeCycle_setOut] at executed
    refine ⟨_, executed, rfl, rfl, closeEpoch_buffers s _, closeEpoch_pending s _, ?_⟩
    rintro d e rfl
    have call := closeEpoch_call s (half hi lo) d
    have ducked := closeEpoch_ducked s (half hi lo) d
    have held := closeEpoch_held s (half hi lo) d
    refine ⟨fun disabled => ?_, fun enabled talks holds talks_of holds_of => ?_⟩
    · have queue := closeEpoch_voiceQ s (half hi lo) d
      rw [disabled] at call ducked held queue
      exact ⟨call, ducked, held, queue⟩
    · rw [enabled, if_pos rfl] at call ducked
      rw [enabled, Bool.true_and] at held
      obtain rfl : talks = s.tbm.talks s.contributed d := funext fun i => Bool.eq_iff_iff.mpr <| by
        rw [talks_of, talks_iff, contributed_rd]
      obtain rfl : holds = (s.linkHolds d = true) := holds_of.trans (propext (linkHolds_iff s d)).symm
      simp only [setOut_tbm, setOut_rif, call, ducked, held]
      refine ⟨talked_iff s d, trivial, trivial, closeEpoch_voiceQ_held s _ d, fun free => ?_⟩
      refine ⟨_, closeEpoch_voiceQ_mixed s _ d enabled free, rfl, rfl, fun k => mixNode_link s d, mixNode_wired s d,
        mixFrame_length s _ d _ hi lo, mixFrame_head s _ d _ hi lo, fun q sample sample_of => ?_⟩
      obtain rfl : sample = fun i => (rd (rd s.contributed i).samples q).toInt := funext fun i => by
        rw [sample_of, contributed_rd]
      rw [mixFrame_sample]
      exact mixSample_toInt s.tbm s.contributed d (s.talked d) q

end Sys2Proof.Machine
end

section
/-! Proofs of the family of the Cue Ring: arrivals in NORMAL mode, row by row (R166). -/

namespace Sys2Proof.Machine

/-! ## Bytes at Ring In (R161, R166) -/

theorem exec_ringInFrame (raw : List Byte) (s : State) : exec (.ringInFrame raw) s = .next (receiveBytes raw s) := rfl

section
variable {raw : List Byte} {f : Frame} {s : State}

/-- A part at work runs in NORMAL mode, not permanently in BYPASS, with the entry mark clear (R166). -/
theorem working_iff : s.working = true ↔
    s.live = true ∧ s.rif.permanent = false ∧ s.rif.mode = .normal ∧ s.rif.entry = none := by
  simp [State.working, State.onRing, and_assoc]

/-- Bytes that fail the check go on and are counted (R166 row 1). -/
theorem receiveBytes_fails (live : s.live = true) (fails : parseFrame raw = none) : receiveBytes raw s =
    { s with ringOut := .forwarded raw, rif := { s.rif with errors := min 65535 (s.rif.errors + 1) } } := by
  simp only [receiveBytes, receive, fails, live, if_true]
  rfl

/-- Bytes that pass the check are handled as a table says of their frame (R166, R172). -/
theorem receiveBytes_passes {slot hand : Bool} (live : s.live = true) (parsed : parseFrame raw = some f)
    (handled : s.rif.handling f = { slot := slot, hand := hand }) : receiveBytes raw s =
      (let t := { s with ringOut := if slot then .slot else .forwarded raw }
       if hand then deliver f t else t) := by
  simp only [receiveBytes, receive, parsed, live, if_true, handled]
  rfl

end

/-! ## The table of R166 -/

section
variable {r : Rif} {f : Frame}

/-- A frame of the part's own is stripped (R166 row 2). -/
theorem normalHandling_own (own : f.src = r.node) : r.normalHandling f = { slot := true, hand := false } := if_pos own

section
variable (foreign : f.src ≠ r.node)
include foreign

/-- CMD, VOICE, METER and TUNED frames to the part are consumed (R166). -/
theorem normalHandling_consumed (here : f.dst = r.node) (kind : f.kind ∈ [Kind.cmd, Kind.voice, Kind.meter, Kind.tuned]) :
    r.normalHandling f = { slot := true, hand := true } := by
  rw [Rif.normalHandling, if_neg foreign, if_pos]
  simpa [here, or_assoc] using kind

/-- A frame of another kind, or to another node, is not consumed (R166). -/
theorem normalHandling_passing (passing : f.dst = r.node → f.kind ∉ [Kind.cmd, Kind.voice, Kind.meter, Kind.tuned]) :
    r.normalHandling f =
      if f.kind = Kind.tally || f.kind = Kind.cycle then { slot := false, hand := true }
      else if f.kind = Kind.fill then { slot := true, hand := false }
      else { slot := false, hand := false } := by
  rw [Rif.normalHandling, if_neg foreign, if_neg]
  simpa [and_assoc] using passing

/-- TALLY and CYCLE frames are observed (R166). -/
theorem normalHandling_observed (kind : f.kind ∈ [Kind.tally, Kind.cycle]) :
    r.normalHandling f = { slot := false, hand := true } := by
  have observed : f.kind = Kind.tally ∨ f.kind = Kind.cycle := by simpa using kind
  rw [normalHandling_passing foreign fun _ => by rcases observed with k | k <;> rw [k] <;> decide]
  exact if_pos (by simpa using observed)

/-- A FILL frame leaves a FILL slot (R166). -/
theorem normalHandling_fill (kind : f.kind = Kind.fill) : r.normalHandling f = { slot := true, hand := false } := by
  rw [normalHandling_passing foreign fun _ => by rw [kind]; decide, kind]
  rfl

/-- Every other frame goes on (R166). -/
theorem normalHandling_other (passing : f.dst = r.node → f.kind ∉ [Kind.cmd, Kind.voice, Kind.meter, Kind.tuned])
    (other : f.kind ∉ [Kind.tally, Kind.cycle, Kind.fill]) : r.normalHandling f = { slot := false, hand := false } := by
  obtain ⟨notTally, notCycle, notFill⟩ : f.kind ≠ Kind.tally ∧ f.kind ≠ Kind.cycle ∧ f.kind ≠ Kind.fill := by
    simpa using other
  rw [normalHandling_passing foreign passing, if_neg, if_neg notFill]
  rw [Bool.or_eq_true, decide_eq_true_eq, decide_eq_true_eq]
  exact not_or.mpr ⟨notTally, notCycle⟩

end

end

/-- Settles O9: the bytes are read, the table of R166 gives the frame its row, and the row says what leaves and what is handed
on. -/
theorem arrivalTable : Obligations.ArrivalTable := by
  intro raw s working
  obtain ⟨live, ring, normal, clear⟩ := working_iff.mp working
  refine ⟨fun fails => congrArg Host.Outcome.next (receiveBytes_fails live fails), fun f parsed => ?_⟩
  have row {slot hand : Bool} (handled : s.rif.normalHandling f = { slot := slot, hand := hand }) :
      exec (.ringInFrame raw) s = .next (let t := { s with ringOut := if slot then .slot else .forwarded raw }
                                         if hand then deliver f t else t) := by
    rw [exec_ringInFrame, receiveBytes_passes live parsed]
    rw [← handled, Rif.handling, ring, normal, clear]
    rfl
  exact ⟨fun own => row (normalHandling_own own), fun foreign =>
    ⟨fun here kind => row (normalHandling_consumed foreign here kind), fun kind => row (normalHandling_observed foreign kind),
      fun kind => row (normalHandling_fill foreign kind),
      fun passing other => row (normalHandling_other foreign passing other)⟩⟩

end Sys2Proof.Machine
end

section
/-! Proofs of the family of the Cue Ring: what a FILL slot carries, and the queue-space event that is served before it (R167,
R168, R170). -/

namespace Sys2Proof.Machine

/-! ## What stands at Ring Out does not bear on the queue-space event (R170) -/

theorem ite_setOut {o : RingOut} {c : Prop} [Decidable c] {t u v w : State} (yes : t = u.setOut o) (no : v = w.setOut o) :
    (if c then t else v) = (if c then u else w).setOut o := by
  split
  · exact yes
  · exact no

section
variable (s : State) (o : RingOut)

theorem offerRsp_setOut (f : Frame) : offerRsp f (s.setOut o) = (offerRsp f s).setOut o := by
  simp only [offerRsp, setOut_rif]
  split
  · rfl
  · rfl

theorem answerOp_setOut (op : ActiveOp) (st : RspStatus) (results : List Byte) :
    answerOp op st results (s.setOut o) = (answerOp op st results s).setOut o := by
  unfold answerOp
  split
  · exact offerRsp_setOut _ _ _
  · rfl

theorem arbitrate_setOut (n : Nat) : arbitrate n (s.setOut o) = (arbitrate n s).setOut o := by
  induction n generalizing s with
  | zero => rfl
  | succ n ih =>
    simp only [arbitrate, setOut_cpl]
    split
    · rfl
    · next w c _ =>
      have begun : beginOp w ((s.setOut o).onCpl fun _ => c) = (beginOp w (s.onCpl fun _ => c)).setOut o := rfl
      rw [begun, setOut_cpl]
      split
      · split
        · rw [answerOp_setOut, ih]
        · rfl
      · rfl

theorem setRefillFlag_setOut (b : BandId) : setRefillFlag b (s.setOut o) = (setRefillFlag b s).setOut o :=
  ite_setOut (arbitrate_setOut (s.onCpl fun c => { c with flags := wr c.flags b true }) o 8) rfl

theorem passEnd_setOut : passEnd (s.setOut o) = (passEnd s).setOut o :=
  setRefillFlag_setOut (note .sweepDone
    ([byte s.swp.cfg.band.val] ++ n16 s.swp.measured ++ n16 s.swp.passTimeouts) (ageCells s)) o s.swp.cfg.band

/-- The sweep takes its next cell, whose PROBE frame waits in the output hold (R65, R69, R75). -/
theorem sweepTake_keepProbe_setOut (n : Nat) :
    sweepTake keepProbe n (s.setOut o) = (sweepTake keepProbe n s).setOut o := by
  induction n generalizing s with
  | zero => rfl
  | succ n ih =>
    have next : (s.setOut o).nextCell = s.nextCell := rfl
    simp only [sweepTake, next, passEnd_setOut, setOut_swp]
    split
    · rfl
    · split
      · rfl
      · rfl
      · rfl
      · split
        · rfl
        · exact ih (beginPass (passEnd s))

theorem sweepOnBy_keepProbe_setOut : sweepOnBy keepProbe (s.setOut o) = (sweepOnBy keepProbe s).setOut o :=
  ite_setOut rfl (sweepTake_keepProbe_setOut s.cellDone o 2)

theorem offerReport_keepProbe_setOut (f : Frame) :
    offerReport keepProbe f (s.setOut o) = (offerReport keepProbe f s).setOut o := by
  simp only [offerReport, setOut_rif]
  split
  · next r _ => exact sweepOnBy_keepProbe_setOut ((s.onRif fun _ => r).onSwp fun w => { w with reportHold := none }) o
  · rfl

theorem tuneAccepted_setOut : tuneAccepted (s.setOut o) = (tuneAccepted s).setOut o := ite_setOut rfl rfl

theorem offerTunes_setOut (l : List HeldTune) : offerTunes l (s.setOut o) = (offerTunes l s).setOut o := by
  induction l generalizing s with
  | nil => rfl
  | cons h l ih =>
    simp only [offerTunes, setOut_rif]
    split
    · next r _ =>
      rw [← ih]
      split
      · rw [← tuneAccepted_setOut]
        rfl
      · rfl
    · rw [← ih]
      rfl

theorem offerLamp_setOut : offerLamp (s.setOut o) = (offerLamp s).setOut o := by
  have normal : (s.setOut o).normal = s.normal := rfl
  have built (k : LinkId) : (s.setOut o).buildLamp k = s.buildLamp k := rfl
  simp only [offerLamp, normal, built, setOut_lmp, setOut_rif]
  split
  · split
    · rfl
    · split
      · rfl
      · rfl
  · rfl

theorem offerProbe_setOut (h : HeldProbe) : offerProbe h (s.setOut o) = (offerProbe h s).setOut o := by
  simp only [offerProbe, setOut_rif]
  split
  · rfl
  · rfl

/-- Each producer in turn is served without Ring Out (R170). -/
theorem queueSpace_setOut : queueSpace (s.setOut o) = (queueSpace s).setOut o := by
  refine ite_setOut ?_ rfl
  rw [setOut_rte]
  split
  · next rest _ => exact offerTunes_setOut (s.onRte fun r => { r with hold := rest }) o _
  · refine ite_setOut (offerLamp_setOut s o) ?_
    rw [setOut_swp]
    split
    · exact offerProbe_setOut s o _
    · rw [setOut_mgr]
      split
      · next rest _ => exact offerRsp_setOut (s.onMgr fun m => { m with hold := rest }) o _
      · split
        · exact offerReport_keepProbe_setOut s o _
        · rfl

theorem queueSpaceEvent_setOut : queueSpaceEvent (s.setOut o) = (queueSpaceEvent s).setOut o :=
  ite_setOut (queueSpace_setOut (s.onRif fun r => { r with spaceOwed := false }) o) rfl

end

/-! ## The event leaves the part's address -/

theorem offerLamp_node (s : State) : (offerLamp s).rif.node = s.rif.node := by
  unfold offerLamp
  split
  · split
    · rfl
    · dsimp only
      split
      · next r admitted => exact (admitted_inner admitted).node
      · rfl
  · rfl

theorem queueSpace_node (s : State) : (queueSpace s).rif.node = s.rif.node := by
  unfold queueSpace
  split
  · split
    · exact (offerTunes_inner _ _).node
    · split
      · exact offerLamp_node s
      · split
        · exact (offerProbe_inner _ s).node
        · split
          · exact (offerRsp_inner _ _).node
          · split
            · exact (offerReport_inner keepProbe_inner _ s).node
            · rfl
  · rfl

theorem queueSpaceEvent_node (s : State) : (queueSpaceEvent s).rif.node = s.rif.node := by
  rcases queueSpaceEvent_cases s with ⟨-, e⟩ | ⟨-, e⟩
  · rw [e]
  · rw [e, queueSpace_node]
    rfl

/-! ## The voice turn (R168) -/

/-- Before a number stand the smaller ones. -/
theorem finRange_eq {n : Nat} (i : Fin n) :
    ∃ before after, List.finRange n = before ++ i :: after ∧ ∀ j ∈ before, j < i := by
  have place : i.val < (List.finRange n).length := by simp
  refine ⟨(List.finRange n).take i.val, (List.finRange n).drop (i.val + 1), ?_, fun j earlier => ?_⟩
  · have split := (List.take_append_drop i.val (List.finRange n)).symm
    rwa [List.drop_eq_getElem_cons place, List.getElem_finRange] at split
  · obtain ⟨m, below, rfl⟩ := List.mem_take_iff_getElem.mp earlier
    rw [List.getElem_finRange]
    exact (lt_min_iff.mp below).1

section
variable {r : Rif}

/-- Counting up from the voice pointer meets each destination at its distance from the pointer (R168). -/
theorem voiceTurn_eq_some {d : DestId} {f : Frame} (first : firstFrom r.voicePtr d fun x => (rd r.voiceQ x).isSome)
    (waits : rd r.voiceQ d = some f) : r.voiceTurn = some (d, f) := by
  obtain ⟨-, before⟩ := first
  obtain ⟨nearer, farther, split, lt⟩ := finRange_eq (d - r.voicePtr)
  rw [Rif.voiceTurn, List.findSome?_map, List.findSome?_eq_some_iff]
  refine ⟨nearer, d - r.voicePtr, farther, split, by simp [waits], fun i earlier => ?_⟩
  have free := before (r.voicePtr + i) (by simpa using lt i earlier)
  simpa using free

theorem voiceTurn_eq_none (empty : ∀ d, rd r.voiceQ d = none) : r.voiceTurn = none := by
  rw [Rif.voiceTurn, List.findSome?_eq_none_iff]
  exact fun d _ => by rw [empty]; rfl

end

/-! ## The control turn (R168) -/

section
variable {a b : List Queued} {q : Queued}

/-- Before a class stand those of a lower rank (R168). -/
theorem classOrder_eq (c : CtlClass) :
    ∃ before after, classOrder = before ++ c :: after ∧ ∀ x ∈ before, x.rank < c.rank := by
  refine ⟨classOrder.take c.rank, classOrder.drop (c.rank + 1), ?_⟩
  cases c <;> decide

/-- The oldest frame of the first class that the queue holds is the next to leave (R168). -/
theorem nextControl_eq_some (least : ∀ x ∈ a ++ b, q.cls.rank ≤ x.cls.rank) (oldest : ∀ x ∈ a, x.cls ≠ q.cls) :
    nextControl (a ++ q :: b) = some q := by
  obtain ⟨before, after, order, lower⟩ := classOrder_eq q.cls
  rw [nextControl, List.findSome?_eq_some_iff]
  refine ⟨before, q.cls, after, order, ?_, fun c earlier => ?_⟩
  · rw [List.find?_append, List.find?_eq_none.mpr (by simpa using oldest)]
    simp
  · refine List.find?_eq_none.mpr fun x mem same => ?_
    have rank : q.cls.rank ≤ x.cls.rank := by
      rcases List.mem_append.mp mem with inA | inB
      · exact least x (List.mem_append_left _ inA)
      · rcases List.mem_cons.mp inB with rfl | inB
        · exact Nat.le_refl _
        · exact least x (List.mem_append_right _ inB)
    obtain rfl : x.cls = c := of_decide_eq_true same
    exact absurd (lower _ earlier) (Nat.not_lt.mpr rank)

theorem eraseP_oldest (oldest : ∀ x ∈ a, x.cls ≠ q.cls) :
    (a ++ q :: b).eraseP (fun x => x.cls = q.cls) = a ++ b := by
  rw [List.eraseP_append_right _ (by simpa using oldest), List.eraseP_cons_of_pos (by simp)]

end

/-! ## FILL_SLOT (R167, R168) -/

theorem exec_fillSlot (s : State) : exec .fillSlot s = .next (event fillSlot s) := rfl

section
variable {s : State}

theorem onRing_iff : s.onRing = true ↔ s.live = true ∧ s.rif.permanent = false := by simp [State.onRing]

/-- On the ring and with the mark clear a FILL slot is the arbiter's (R167, R173). -/
theorem exec_fillSlot_arbiter (ring : s.onRing = true) (clear : s.rif.entry = none) :
    exec .fillSlot s = .next (arbiterTurn s.quieted) := by
  obtain ⟨live, notPermanent⟩ := onRing_iff.mp ring
  have permanent : ¬s.quieted.rif.permanent = true := Bool.eq_false_iff.mp notPermanent
  have unmarked : ¬s.quieted.rif.entry.isSome = true := by
    rw [show s.quieted.rif.entry = none from clear]
    exact Bool.false_ne_true
  rw [exec_fillSlot, event_live live, fillSlot, if_neg permanent, if_neg unmarked]

/-- The first MIX frame from the pointer leaves (R168). -/
theorem exec_fillSlot_voice (ring : s.onRing = true) (clear : s.rif.entry = none) {d : DestId} {f : Frame}
    (first : firstFrom s.rif.voicePtr d fun x => (rd s.rif.voiceQ x).isSome) (waits : rd s.rif.voiceQ d = some f) :
    exec .fillSlot s = .next ((s.send f).onRif fun r => { r with voiceQ := wr r.voiceQ d none, voicePtr := d + 1 }) := by
  have turn : s.quieted.rif.voiceTurn = some (d, f) := voiceTurn_eq_some first waits
  rw [exec_fillSlot_arbiter ring clear, arbiterTurn, turn]
  rfl

/-- Without a MIX frame the slot is a control turn from the state that an owed event has left (R168, R170). -/
theorem exec_fillSlot_control (ring : s.onRing = true) (clear : s.rif.entry = none)
    (noVoice : ∀ d, rd s.rif.voiceQ d = none) :
    exec .fillSlot s = .next (controlTurn ((queueSpaceEvent s).setOut .quiet)) := by
  have none : s.quieted.rif.voiceTurn = none := voiceTurn_eq_none noVoice
  rw [exec_fillSlot_arbiter ring clear, arbiterTurn, none]
  exact congrArg (fun t => Host.Outcome.next (controlTurn t)) (queueSpaceEvent_setOut s .quiet)

end

end Sys2Proof.Machine

namespace Sys2Proof
open Machine

/-- Settles O11: the first MIX frame from the pointer, or else, once an owed event has been served, the oldest frame of the
first class or a FILL frame. -/
theorem arbiterTurn : Obligations.ArbiterTurn := by
  intro s ring clear
  refine ⟨fun d f first waits => exec_fillSlot_voice ring clear first waits, fun noVoice u served => ?_⟩
  obtain rfl : u = queueSpaceEvent s := served
  have node := queueSpaceEvent_node s
  rw [exec_fillSlot_control ring clear noVoice]
  refine ⟨fun a b q queue least oldest => ?_, fun empty => ?_⟩
  · rw [controlTurn, setOut_rif, queue, nextControl_eq_some least oldest]
    simp only [State.send, State.onRif, State.setOut, node, queue, eraseP_oldest oldest]
  · rw [controlTurn, setOut_rif, empty]
    rfl

end Sys2Proof
end

section
/-! Proofs of the family of the Cue Ring: BYPASS in NORMAL mode, and the requests taken while the entry mark is set (R173). -/

namespace Sys2Proof.Machine

theorem exec_bypass (h : CmdHead) (params : List Byte) (s : State) :
    exec (.bypass h params) s = .next (receiveCmd h Req.bypass params takeBypass s) := rfl

theorem exec_resume (h : CmdHead) (params : List Byte) (s : State) :
    exec (.resume h params) s = .next (receiveCmd h Req.resume params takeResume s) := rfl

theorem exec_identify (h : CmdHead) (params : List Byte) (s : State) : exec (.identify h params) s =
    .next (receiveCmd h Req.identify params (answered Req.identify (ofLength 0 identifyRequest)) s) := rfl

theorem exec_status (h : CmdHead) (params : List Byte) (s : State) : exec (.status h params) s =
    .next (receiveCmd h Req.status params (answered Req.status (ofLength 0 statusRequest)) s) := rfl

/-! ## BYPASS in NORMAL mode -/

/-- BYPASS with parameters is refused RANGE (R173, R175). -/
theorem takeBypass_params {params : List Byte} (nonempty : params ≠ []) (a : Asker) (s : State) :
    takeBypass a params s = answerCmd (s.rspFrame Req.bypass a .range []) false s :=
  if_neg (mt List.length_eq_zero_iff.mp nonempty)

/-- A BYPASS that is taken sets the entry mark, with its RSP (R173). -/
theorem exec_bypass_taken {h : CmdHead} {s : State} (taken : s.takes h Req.bypass [] = true) :
    exec (.bypass h []) s = .next { s with
      ringOut := .slot
      rif := { s.rif with entry := some { rsp := s.rspTo h Req.bypass .ok [], kept := [] } } } := by
  rw [exec_bypass, receiveCmd_taken takeBypass taken]
  rfl

theorem exec_bypass_params {h : CmdHead} {params : List Byte} {s : State} (taken : s.takes h Req.bypass params = true)
    (nonempty : params ≠ []) : exec (.bypass h params) s = .next (reply h Req.bypass .range [] s.handed) := by
  have clear : s.handed.rif.entry = none := takes_entry taken
  rw [exec_bypass, receiveCmd_taken takeBypass taken, takeBypass_params nonempty, answerCmd_offers clear]
  rfl

/-! ## Requests while the entry mark is set -/

/-- An RSP formed while the entry mark is set is kept apart (R173). -/
theorem answerCmd_keeps {e : EntryMark} {s : State} (marked : s.rif.entry = some e) (f : Frame) (resume : Bool) :
    answerCmd f resume s =
      { s with rif := { s.rif with entry := some { e with kept := e.kept ++ [{ frame := f, resume := resume }] } } } := by
  rw [answerCmd, marked]
  rfl

/-- A STATUS, IDENTIFY or RESUME that is taken under the mark goes to its handler (R172, R173). -/
theorem receiveCmd_marked {h : CmdHead} {code : Byte} {params : List Byte} {s : State} (f : Handler)
    (request : bypassRequest code = true) (taken : s.takesMarked h code params = true) :
    receiveCmd h code params f s = f h.asker params s.handed := by
  simp only [State.takesMarked, State.onRing, Bool.and_eq_true, Bool.not_eq_true', decide_eq_true_eq] at taken
  obtain ⟨⟨⟨⟨⟨live, notPermanent⟩, marked⟩, passes⟩, here⟩, room⟩ := taken
  have handled : s.rif.handling { kind := Kind.cmd, dst := h.dst, src := h.src, payload := code :: h.id :: params }
      = { slot := true, hand := true } := by
    simp [Rif.handling, notPermanent, Rif.bypassHandling, here, request, Option.isNone_eq_false_iff.mpr marked]
  have notFull : ¬Config.holdLimit ≤ s.mgr.hold.length := Nat.not_le.mpr room
  have arrives := receiveFrame_passes live passes (manage f h.asker params)
  rw [show receiveCmd h code params f s = receiveFrame Kind.cmd h.frame (code :: h.id :: params) (manage f h.asker params) s
      from rfl, arrives]
  rw [show s.rif.handling { kind := Kind.cmd, dst := h.frame.dst, src := h.frame.src, payload := code :: h.id :: params }
      = { slot := true, hand := true } from handled]
  exact if_neg notFull

section
variable {h : CmdHead} {e : EntryMark} {s : State} (marked : s.rif.entry = some e)
include marked

/-- A RESUME taken under the mark is recorded with its RSP (R173). -/
theorem exec_resume_marked (taken : s.takesMarked h Req.resume [] = true) : exec (.resume h []) s = .next { s with
    ringOut := .slot
    rif := { s.rif with
      entry := some { e with kept := e.kept ++ [{ frame := s.rspTo h Req.resume .ok [], resume := true }] } } } := by
  have handedMarked : s.handed.rif.entry = some e := marked
  have recorded : takeResume h.asker [] s.handed = answerCmd (s.rspTo h Req.resume .ok []) true s.handed := by
    rw [takeResume, handedMarked]
    rfl
  rw [exec_resume, receiveCmd_marked takeResume (by decide) taken, recorded, answerCmd_keeps handedMarked]
  rfl

/-- An IDENTIFY taken under the mark has its RSP kept apart (R173, R178). -/
theorem exec_identify_marked (taken : s.takesMarked h Req.identify [] = true) : exec (.identify h []) s = .next { s with
    ringOut := .slot
    rif := { s.rif with
      entry := some { e with kept := e.kept ++ [{
        frame := s.rspTo h Req.identify .ok [0x2C, 0x19, 0x10, 1, s.rif.node], resume := false }] } } } := by
  have handedMarked : s.handed.rif.entry = some e := marked
  have answer : answered Req.identify (ofLength 0 identifyRequest) h.asker [] s.handed
      = answerCmd (s.rspTo h Req.identify .ok [0x2C, 0x19, 0x10, 1, s.rif.node]) false s.handed := rfl
  rw [exec_identify, receiveCmd_marked _ (by decide) taken, answer, answerCmd_keeps handedMarked]
  rfl

/-- A STATUS taken under the mark has its RSP kept apart, and clears NOTES_LOST (R173, R178). -/
theorem exec_status_marked (taken : s.takesMarked h Req.status [] = true) : exec (.status h []) s = .next { s with
    ringOut := .slot
    freeCtr := s.freeCtr + 1
    rif := { s.rif with
      notesLost := false
      entry := some { e with
        kept := e.kept ++ [{ frame := s.rspTo h Req.status .ok s.statusBytes, resume := false }] } } } := by
  have read : ((s.handed.onRif fun r => { r with notesLost := false }).useFree 1).rif.entry = some e := marked
  have answer : answered Req.status (ofLength 0 statusRequest) h.asker [] s.handed
      = answerCmd (s.rspTo h Req.status .ok s.statusBytes) false
          ((s.handed.onRif fun r => { r with notesLost := false }).useFree 1) := rfl
  rw [exec_status, receiveCmd_marked _ (by decide) taken, answer, answerCmd_keeps read]
  rfl

/-- A STATUS reading has 20 bytes, and its first is ENTERING in NORMAL mode under the mark (R163, R178). -/
theorem statusBytes_marked (normal : s.rif.mode = .normal) : s.statusBytes.length = 20 ∧ s.statusBytes.head? = some 1 := by
  have entering : s.rif.modeCode = 1 := by rw [Rif.modeCode, normal, marked]; rfl
  have cell : (natOrNone s.currentCell).length = 2 := by
    cases s.currentCell
    · rfl
    · rfl
  refine ⟨?_, congrArg some entering⟩
  simp only [State.statusBytes, List.length_append, cell]
  rfl

end

end Sys2Proof.Machine
end

section
/-! Proofs of the family of the Cue Ring: what the entry to BYPASS leaves in each block (R54, R77, R116, R142, R158, R173). -/

namespace Sys2Proof.Machine

theorem forEach_cons {α : Type} (a : α) (l : List α) (f : α → State → State) (s : State) :
    forEach (a :: l) f s = forEach l f (f a s) := rfl

/-! ## Phases and OWN marks -/

/-- From `s` to `t` only the Plan Store, the OWN marks with the spares of their cells, unsent MIX frames and pending flags
changed; no MIX frame came and no pending flag was cleared. -/
structure Remarked (s t : State) : Prop where
  rif : t.rif = { s.rif with voiceQ := t.rif.voiceQ }
  cpl : t.cpl = { s.cpl with spares := t.cpl.spares }
  swp : t.swp = { s.swp with cells := t.swp.cells }
  lmn : t.lmn = s.lmn
  rte : t.rte = s.rte
  mgr : t.mgr = s.mgr
  voice : ∀ d, rd s.rif.voiceQ d = none → rd t.rif.voiceQ d = none
  pend : ∀ k, rd s.lmp.pending k = true → rd t.lmp.pending k = true

namespace Remarked

variable {s t u : State}

theorem refl (s : State) : Remarked s s := ⟨rfl, rfl, rfl, rfl, rfl, rfl, fun _ h => h, fun _ h => h⟩

theorem onCarrier (k : LinkId) (f : LinkCarrier → LinkCarrier) : Remarked s (s.onCarrier k f) :=
  ⟨rfl, rfl, rfl, rfl, rfl, rfl, fun _ h => h, fun _ h => h⟩

theorem advanceGen : Remarked s s.advanceGen := ⟨rfl, rfl, rfl, rfl, rfl, rfl, fun _ h => h, fun _ h => h⟩

theorem trans (a : Remarked s t) (b : Remarked t u) : Remarked s u where
  rif := by have hb := b.rif; rw [a.rif] at hb; exact hb
  cpl := by have hb := b.cpl; rw [a.cpl] at hb; exact hb
  swp := by have hb := b.swp; rw [a.swp] at hb; exact hb
  lmn := b.lmn.trans a.lmn
  rte := b.rte.trans a.rte
  mgr := b.mgr.trans a.mgr
  voice d h := b.voice d (a.voice d h)
  pend k h := b.pend k (a.pend k h)

theorem state (h : Remarked s t) : t.swp.state = s.swp.state := by rw [h.swp]

theorem forEach {α : Type} (l : List α) {f : α → State → State} (step : ∀ a s, Remarked s (f a s)) (s : State) :
    Remarked s (forEach l f s) := by
  induction l generalizing s with
  | nil => exact refl s
  | cons a l ih => exact (step a s).trans (ih _)

end Remarked

theorem lampPend_remarked (k : LinkId) (s : State) : Remarked s (lampPend k s) := by
  refine ⟨rfl, rfl, rfl, rfl, rfl, rfl, fun _ h => h, fun j pending => ?_⟩
  simp only [lampPend, onLmp_lmp]
  split
  · rw [rd_wr]
    split
    · rfl
    · exact pending
  · exact pending

theorem mixReport_remarked (k : LinkId) (s : State) : Remarked s (mixReport k s) := by
  unfold mixReport
  split
  · refine ⟨rfl, rfl, rfl, rfl, rfl, rfl, fun d none => ?_, fun _ h => h⟩
    simp only [onRif_rif, rd_tab]
    split
    · rfl
    · exact none
  · exact Remarked.refl s

/-- A change of a link's phase, with its report to the mixer and the lamps (R98). -/
theorem setPhase_remarked (k : LinkId) (p : Phase) (s : State) : Remarked s (setPhase k p s) :=
  (Remarked.onCarrier _ _).trans ((mixReport_remarked k _).trans (lampPend_remarked k _))

/-- With the sweep IDLE, OWN marking stops no probe (R60, R73). -/
theorem ownRecomputeLink_remarked {s : State} (idle : s.swp.state = .idle) (k : LinkId) (spans : List Span) :
    Remarked s (ownRecomputeLink k spans s) := by
  have still : ¬(remarkCells (s.link k).cfg.band (touching spans) s).swp.state = .probing := by
    rw [show (remarkCells _ _ s).swp.state = s.swp.state from rfl, idle]
    decide
  rw [ownRecomputeLink, ownRecompute, if_neg still]
  exact ⟨rfl, rfl, rfl, rfl, rfl, rfl, fun _ h => h, fun _ h => h⟩

/-! ## Links -/

/-- A link whose phase has returned to IDLE (R116). -/
def Link.idled (l : Link) : Link := { l with carrier := { l.carrier with phase := .idle } }

theorem setPhase_plan (k : LinkId) (p : Phase) (s : State) :
    (setPhase k p s).plan = (s.onCarrier k fun c => { c with phase := p }).plan :=
  congrArg Prod.fst (phaseReport_ledger (s := s.onCarrier k fun c => { c with phase := p }) k)

theorem link_setPhase_idle (k j : LinkId) (s : State) :
    (setPhase k .idle s).link j = if k = j then (s.link j).idled else s.link j := by
  have links : (setPhase k .idle s).link j = (s.onCarrier k fun c => { c with phase := .idle }).link j := by
    rw [State.link, setPhase_plan]
    rfl
  rw [links, State.onCarrier, link_onLink]
  split
  · next same => rw [same]; rfl
  · rfl

theorem Link.idled_idled (l : Link) : l.idled.idled = l.idled := rfl

theorem Link.idled_of_idle {l : Link} (idle : l.carrier.phase = .idle) : l.idled = l := by
  rw [Link.idled, ← idle]

/-- The named links are IDLE after their phases were set, and the others stay as they are. -/
theorem link_forEach_idle (l : List LinkId) (s : State) (j : LinkId) :
    (forEach l (fun k s => setPhase k .idle s) s).link j = if j ∈ l then (s.link j).idled else s.link j := by
  induction l generalizing s with
  | nil => rfl
  | cons k l ih =>
    rw [forEach_cons, ih, link_setPhase_idle]
    by_cases same : k = j
    · simp [same, Link.idled_idled]
    · simp [same, Ne.symm same]

theorem gen_setPhase (k : LinkId) (p : Phase) (s : State) : (setPhase k p s).plan.gen = s.plan.gen := by
  rw [setPhase_plan]
  rfl

/-- Every link is IDLE after the phases have returned (R116). -/
theorem link_idlePhases (s : State) (j : LinkId) : (idlePhases s).link j = (s.link j).idled := by
  rw [idlePhases, link_forEach_idle]
  split
  · rfl
  · next idle => exact (Link.idled_of_idle (by simpa using idle)).symm

theorem gen_idlePhases (s : State) : (idlePhases s).plan.gen = s.plan.gen := by
  unfold idlePhases
  generalize (List.finRange 64).filter _ = l
  induction l generalizing s with
  | nil => rfl
  | cons k l ih => rw [forEach_cons, ih, gen_setPhase]

/-! ## Abandoned orders (R116) -/

/-- A carrier is on the air between two channels: its order's phase is TUNING or REVERTING (R116). -/
def Link.onMove (l : Link) : Bool := l.carrier.phase = .tuning || l.carrier.phase = .reverting

/-- The Active order's carrier is on the move. -/
def State.stray (s : State) : Bool := s.rte.active.any fun o => (s.link o.link).onMove

/-- A link after its order was abandoned: a carrier on the move becomes UNCERTAIN, and the phase returns to IDLE (R116). -/
def State.abandoned (s : State) (k : LinkId) : Link :=
  { s.link k with carrier := { (s.link k).carrier with
      state := if (s.rte.active.any fun o => o.link = k) && (s.link k).onMove then .uncertain else (s.link k).carrier.state
      phase := .idle } }

section
variable (s : State) (k : LinkId)

/-- Of a link the abandonment changes the phase, and the state of a carrier on the move (R116). -/
theorem abandoned_fields : (s.abandoned k).carrier.phase = .idle
    ∧ (s.abandoned k).carrier.channel = (s.link k).carrier.channel
    ∧ (s.abandoned k).carrier.forced = (s.link k).carrier.forced ∧ (s.abandoned k).cfg = (s.link k).cfg
    ∧ (s.abandoned k).health = (s.link k).health ∧ (s.abandoned k).tally = (s.link k).tally
    ∧ (s.abandoned k).carrier.state =
        if (s.rte.active.any fun o => o.link = k)
            && ((s.link k).carrier.phase = .tuning || (s.link k).carrier.phase = .reverting)
        then .uncertain else (s.link k).carrier.state := ⟨rfl, rfl, rfl, rfl, rfl, rfl, rfl⟩

/-- A carrier that was UNCERTAIN, or on the move for the Active order, is UNCERTAIN after the abandonment (R116). -/
theorem abandoned_uncertain (doubtful : (s.link k).carrier.state = .uncertain
    ∨ ((s.rte.active.any fun o => o.link = k) = true
      ∧ ((s.link k).carrier.phase = .tuning ∨ (s.link k).carrier.phase = .reverting))) :
    (s.abandoned k).carrier.state = .uncertain := by
  rw [State.abandoned]
  dsimp only
  split
  · rfl
  · next still =>
    rcases doubtful with uncertain | ⟨active, moving⟩
    · exact uncertain
    · exact absurd (by simpa [Link.onMove] using ⟨by simpa using active, moving⟩) still

end

/-- The Retune Engine without orders (R97, R116). -/
def Rte.cleared (r : Rte) : Rte :=
  { r with active := none, staged := none, deferred := [], tuneTimer := none, hold := [], owed := false }

section
variable {s : State}

/-- The abandonment of an order whose carrier is on the move (R116). -/
def strayCarrier (o : Order) (s : State) : State :=
  let t := (s.onCarrier o.link fun c => { c with state := .uncertain }).advanceGen
  ownRecomputeLink o.link (t.spanOf o.link (o.chosen.bind Chosen.channel?)) t

theorem abandonOrders_none (active : s.rte.active = none) : abandonOrders s = idlePhases (s.onRte Rte.cleared) := by
  unfold abandonOrders
  rw [active]
  rfl

theorem abandonOrders_some {o : Order} (active : s.rte.active = some o) : abandonOrders s =
    idlePhases (if (s.link o.link).onMove then strayCarrier o (s.onRte Rte.cleared) else s.onRte Rte.cleared) := by
  unfold abandonOrders
  rw [active]
  rfl

theorem strayCarrier_plan (o : Order) (s : State) :
    (strayCarrier o s).plan = (s.onCarrier o.link fun c => { c with state := .uncertain }).advanceGen.plan :=
  congrArg Prod.fst (ownRecomputeLink_ledger _ o.link _)

theorem link_strayCarrier (o : Order) (s : State) (k : LinkId) : (strayCarrier o s).link k =
    if o.link = k then { s.link k with carrier := { (s.link k).carrier with state := .uncertain } } else s.link k := by
  have links : (strayCarrier o s).link k = (s.onCarrier o.link fun c => { c with state := .uncertain }).link k := by
    rw [State.link, strayCarrier_plan]
    rfl
  rw [links, State.onCarrier, link_onLink]
  split
  · next same => rw [same]
  · rfl

theorem strayCarrier_remarked (o : Order) {s : State} (idle : s.swp.state = .idle) : Remarked s (strayCarrier o s) := by
  unfold strayCarrier
  extract_lets t
  have moved : Remarked s t := (Remarked.onCarrier _ _).trans Remarked.advanceGen
  exact moved.trans (ownRecomputeLink_remarked (moved.state.trans idle) _ _)

/-- What the abandonment leaves in each link: its phase IDLE, and UNCERTAIN a carrier that was on the move (R116). -/
theorem link_abandonOrders (k : LinkId) : (abandonOrders s).link k = s.abandoned k := by
  cases active : s.rte.active with
  | none =>
    rw [abandonOrders_none active, link_idlePhases, State.abandoned, active]
    rfl
  | some o =>
    rw [abandonOrders_some active, link_idlePhases, State.abandoned, active, Option.any_some]
    cases moving : (s.link o.link).onMove with
    | false =>
      rw [if_neg Bool.false_ne_true, if_neg]
      · rfl
      · rintro stray
        simp only [Bool.and_eq_true, decide_eq_true_eq] at stray
        rw [← stray.1, moving] at stray
        exact Bool.false_ne_true stray.2
    | true =>
      rw [if_pos rfl, link_strayCarrier]
      by_cases same : o.link = k
      · rw [if_pos same, if_pos (by rw [← same, moving]; simp)]
        rfl
      · rw [if_neg same, if_neg (by simp [same])]
        rfl

/-- The generation advances with a carrier that becomes UNCERTAIN (R16, R116). -/
theorem gen_abandonOrders : (abandonOrders s).plan.gen = if s.stray then s.plan.gen + 1 else s.plan.gen := by
  cases active : s.rte.active with
  | none =>
    rw [abandonOrders_none active, gen_idlePhases, State.stray, active]
    rfl
  | some o =>
    rw [abandonOrders_some active, gen_idlePhases, State.stray, active, Option.any_some]
    split
    · rw [strayCarrier_plan]
      rfl
    · rfl

/-- Of the other blocks' records the abandonment changes OWN marks, MIX frames and pending flags only (R116). -/
theorem abandonOrders_remarked (idle : s.swp.state = .idle) : Remarked (s.onRte Rte.cleared) (abandonOrders s) := by
  have phases (u : State) : Remarked u (idlePhases u) := Remarked.forEach _ (fun k t => setPhase_remarked k .idle t) u
  cases active : s.rte.active with
  | none =>
    rw [abandonOrders_none active]
    exact phases _
  | some o =>
    rw [abandonOrders_some active]
    refine Remarked.trans ?_ (phases _)
    split
    · exact strayCarrier_remarked o idle
    · exact Remarked.refl _

end

/-! ## The blocks at the entry (R173) -/

/-- Steps 1 and 2 of the entry, with the planner's and the sweep's part: the queues and the holds are emptied, the planner's
work is abandoned and the sweep halted (R54, R77, R173). -/
def State.emptiedForBypass (s : State) : State :=
  { s with
    rif := { s.rif with
      mode := .bypass, entry := none, voiceQ := Vector.replicate 32 none, ctlQ := []
      notesLost := s.rif.notesLost || s.rif.ctlQ.any (·.cls = .note) || s.swp.reportHold.isSome
      spaceOwed := false }
    mgr := { s.mgr with hold := [] }
    swp := { s.swp with state := .idle, probe := none, probeTimer := none, probeHold := none, reportHold := none }
    cpl := { s.cpl with
      active := none, rtePlace := none, mgrPlace := none, flags := s.cpl.flagsBack
      answers := s.cpl.answers ++ s.cpl.cutShort } }

/-- What the entry does to the blocks: the emptying, then the abandonment of the orders, then the silence of the mixer and the
stop of the lamp refresh (R173). -/
theorem bypassBlocks_from (s : State) : ∃ u : State, bypassBlocks s = lampBypass (talkbackSilence u)
    ∧ Remarked (s.emptiedForBypass.onRte Rte.cleared) u ∧ Inner s.emptiedForBypass u
    ∧ (∀ k, u.link k = s.abandoned k) ∧ u.plan.gen = if s.stray then s.plan.gen + 1 else s.plan.gen := by
  have halted : plannerBypass (sweepHalt (clearHold (s.onRif fun r => { r.emptied with mode := .bypass, entry := none })))
      = s.emptiedForBypass := by
    rw [sweepHalt_eq]
    rfl
  refine ⟨abandonOrders s.emptiedForBypass, ?_, abandonOrders_remarked rfl, abandonOrders_inner _, link_abandonOrders,
    gen_abandonOrders⟩
  rw [← halted]
  rfl

/-- The records at the entry to BYPASS, block by block: `b` is the state it leaves from `s`, before kept RSP frames. -/
structure EntersBypass (s b : State) : Prop where
  rif : b.rif = s.emptiedForBypass.rif
  mgr : b.mgr = { s.mgr with hold := [] }
  rte : b.rte = s.rte.cleared
  cpl : b.cpl = { s.emptiedForBypass.cpl with spares := b.cpl.spares }
  swp : b.swp = { s.emptiedForBypass.swp with cells := b.swp.cells }
  link : ∀ k, b.link k = s.abandoned k
  gen : b.plan.gen = if s.stray then s.plan.gen + 1 else s.plan.gen
  bands : b.plan.bands = s.plan.bands
  windows : b.plan.windows = s.plan.windows
  lmn : b.lmn = s.lmn
  tly : b.tly = s.tly
  tbm : b.tbm = { s.tbm with buffers := Vector.replicate 16 .silent, call := Vector.replicate 32 false,
                             ducked := Vector.replicate 32 false }
  lmp : b.lmp = { s.lmp with refresh := none, pending := b.lmp.pending }
  pend : ∀ k, rd s.lmp.pending k = true → rd b.lmp.pending k = true
  pins : b.pins = s.pins
  ringOut : b.ringOut = s.ringOut
  pending : b.pending = s.pending

/-- The blocks at the entry: what the abandonment leaves, with the mixer silent and the lamp refresh stopped (R173). -/
theorem bypassBlocks_enters (s : State) : EntersBypass s (bypassBlocks s) := by
  obtain ⟨u, blocks, marks, inner, link, gen⟩ := bypassBlocks_from s
  have noMix : u.rif.voiceQ = Vector.replicate 32 none :=
    tab_ext fun d => (marks.voice d (rd_replicate _ d)).trans (rd_replicate _ d).symm
  have emptied : u.rif = s.emptiedForBypass.rif := marks.rif.trans (by rw [noMix]; rfl)
  have lamps : { u.lmp with pending := s.lmp.pending } = s.lmp := by rw [inner.lmp]; rfl
  have silenced (k : LinkId) : rd (lampBypass (talkbackSilence u)).lmp.pending k = (rd u.lmp.pending k || _) := rd_tab _ k
  have tbm : u.tbm = s.tbm := inner.tbm
  rw [blocks]
  exact {
    rif := emptied, mgr := marks.mgr, rte := marks.rte, cpl := marks.cpl, swp := marks.swp, link, gen
    bands := inner.bands, windows := inner.windows, lmn := marks.lmn, tly := inner.tly
    tbm := by rw [← tbm]; rfl
    lmp := by rw [← lamps]; rfl
    pend := fun k pending => by rw [silenced, marks.pend k pending, Bool.true_or]
    pins := inner.pins, ringOut := inner.ringOut, pending := inner.pending }

/-- The refill flags after the entry: those that were set, and that of a REFILL cut short (R54). -/
theorem flagsBack_iff (c : Cpl) (b : BandId) : rd c.flagsBack b = true ↔
    rd c.flags b = true ∨ ∃ op, c.active = some op ∧ op.kind = .refill ∧ op.band = b.val := by
  cases active : c.active with
  | none => simp [Cpl.flagsBack, active]
  | some op =>
    simp only [Cpl.flagsBack, active, Option.some.injEq, exists_eq_left']
    split
    · next a refill named =>
      rw [rd_wr]
      have sameBand : a = b ↔ op.band = b.val := by
        rw [eq_comm (a := op.band), val_eq_iff_finField, named, Option.some.injEq]
      simp [← sameBand, refill]
      tauto
    · next other =>
      have notThis : ¬(op.kind = .refill ∧ op.band = b.val) := fun ⟨refill, band⟩ =>
        other b refill (val_eq_iff_finField.mp band.symm)
      simp [notThis]

end Sys2Proof.Machine
end

section
/-! Proofs of the family of the Cue Ring: what the return to NORMAL mode asks of the Control Queue. The RSP frames that wait for
it find a place, because the settling of the orders launches one order, whose TUNE frames are three at most (R105, R169). -/

namespace Sys2Proof.Machine

/-! ## Frames that no admission displaces (R169) -/

/-- The frames of a queue that are no NOTE. -/
def claims (q : List Queued) : List Queued := q.filter fun x => !x.isNote

theorem claims_append (a b : List Queued) : claims (a ++ b) = claims a ++ claims b := List.filter_append ..

/-- The youngest NOTE is no claim. -/
theorem claims_dropYoungestNote (q : List Queued) : claims (dropYoungestNote q) = claims q := by
  have kept (l : List Queued) : claims (l.eraseP Queued.isNote) = claims l := by
    induction l with
    | nil => rfl
    | cons x l ih =>
      cases note : x.isNote with
      | true => simp [claims, note]
      | false =>
        simp only [claims] at ih
        simp [claims, note, ih]
  rw [dropYoungestNote, claims, List.filter_reverse]
  exact (congrArg List.reverse (kept q.reverse)).trans (by rw [claims, List.filter_reverse, List.reverse_reverse]; rfl)

section
variable {r r' : Rif} {q : Queued}

/-- An admitted frame that is no NOTE stands behind the claims (R169). -/
theorem claims_admitted (admitted : r.admitted q = some r') (notNote : q.isNote = false) :
    claims r'.ctlQ = claims r.ctlQ ++ [q] := by
  have single : claims [q] = [q] := by simp [claims, notNote]
  rcases Rif.admitted_spec admitted with ⟨-, rfl⟩ | ⟨-, -, rfl⟩
  · rw [claims_append, single]
  · rw [claims_append, claims_dropYoungestNote, single]

theorem admitted_voiceQ (admitted : r.admitted q = some r') : r'.voiceQ = r.voiceQ := by
  rcases Rif.admitted_spec admitted with ⟨-, rfl⟩ | ⟨-, -, rfl⟩
  · rfl
  · rfl

/-- Below 24 claims a frame is admitted, with or without a NOTE's place (R169). -/
theorem admitted_of_claims (room : (claims r.ctlQ).length < 24) (q : Queued) : ∃ r', r.admitted q = some r' := by
  unfold Rif.admitted
  split
  · exact ⟨_, rfl⟩
  · next full =>
    split
    · exact ⟨_, rfl⟩
    · next noNote =>
      have all : claims r.ctlQ = r.ctlQ := List.filter_eq_self.mpr (by simpa using noNote)
      rw [all] at room
      exact absurd room full

/-- A NOTE that is offered is no claim (R169). -/
theorem claims_admitNote (f : Frame) : claims (r.admitNote f).ctlQ = claims r.ctlQ := by
  unfold Rif.admitNote
  split
  · exact (claims_append _ _).trans (List.append_nil _)
  · rfl

end

/-! ## RSP frames in turn (R173, R176) -/

/-- An RSP frame in the Control Queue. -/
def Frame.queuedRsp (f : Frame) : Queued := { cls := .rsp, frame := f }

/-- RSP frames that all find a place below 24 (R169). -/
theorem offers_room (l : List Frame) (s : State) (room : s.rif.ctlQ.length + l.length ≤ 24) : forEach l offerRsp s =
    { s with rif := { s.rif with ctlQ := s.rif.ctlQ ++ l.map Frame.queuedRsp } } := by
  induction l generalizing s with
  | nil => simp [forEach]
  | cons f l ih =>
    rw [List.length_cons] at room
    have admitted : s.rif.admitted f.queuedRsp = some { s.rif with ctlQ := s.rif.ctlQ ++ [f.queuedRsp] } :=
      if_pos (show s.rif.ctlQ.length < 24 by omega)
    have first : offerRsp f s = s.onRif fun r => { r with ctlQ := r.ctlQ ++ [f.queuedRsp] } := by
      rw [offerRsp]
      rw [Frame.queuedRsp] at admitted
      rw [admitted]
      rfl
    rw [forEach_cons, first, ih _ (by simp; omega)]
    simp [State.onRif]

/-- RSP frames that all find a place beside the claims (R169). -/
theorem offers_claims (l : List Frame) (s : State) (room : (claims s.rif.ctlQ).length + l.length ≤ 24) :
    ∃ r, forEach l offerRsp s = { s with rif := r } ∧ r.voiceQ = s.rif.voiceQ
      ∧ claims r.ctlQ = claims s.rif.ctlQ ++ l.map Frame.queuedRsp := by
  induction l generalizing s with
  | nil => exact ⟨s.rif, rfl, rfl, by simp⟩
  | cons f l ih =>
    rw [List.length_cons] at room
    obtain ⟨r, admitted⟩ := admitted_of_claims (r := s.rif) (by omega) f.queuedRsp
    have placed := claims_admitted admitted rfl
    have first : offerRsp f s = { s with rif := r } := by
      rw [Frame.queuedRsp] at admitted
      rw [offerRsp, admitted]
      rfl
    obtain ⟨t, rest, voice, behind⟩ := ih { s with rif := r } (by simp [placed]; omega)
    exact ⟨t, by rw [forEach_cons, first, rest], voice.trans (admitted_voiceQ admitted), by rw [behind, placed]; simp⟩

theorem offers_inner (l : List Frame) (s : State) : Inner s (forEach l offerRsp s) := Inner.forEach _ _ offerRsp_inner s

/-- The RSP with status BYPASSED to a request that was cut short (R54, R55). -/
def HeldAnswer.rsp (node : Node) (a : HeldAnswer) : Frame :=
  { kind := Kind.rsp, dst := a.asker.src, src := node, payload := [a.kind.request, a.asker.id, RspStatus.bypassed.code] }

/-- The BYPASSED answers are RSP frames from the part's node (R55, R175). -/
theorem sendBypassed_offers (l : List HeldAnswer) (s : State) :
    sendBypassed l s = forEach (l.map (HeldAnswer.rsp s.rif.node)) offerRsp s := by
  unfold sendBypassed
  induction l generalizing s with
  | nil => rfl
  | cons a l ih =>
    have first : offerRsp (s.rspFrame a.kind.request a.asker .bypassed []) s = offerRsp (a.rsp s.rif.node) s := rfl
    have node : (offerRsp (a.rsp s.rif.node) s).rif.node = s.rif.node := (offerRsp_inner _ _).node
    rw [forEach_cons, first, ih, node, List.map_cons, forEach_cons]

/-- Kept RSP frames up to the next RESUME that takes effect are offered in turn (R173). -/
theorem releaseKept_offers (l rest : List KeptRsp) (s : State)
    (plain : ∀ x ∈ l, x.resume = false ∨ s.rif.mode = .normal) :
    releaseKept (l ++ rest) s = releaseKept rest (forEach (l.map (·.frame)) offerRsp s) := by
  induction l generalizing s with
  | nil => rfl
  | cons x l ih =>
    have mode : (offerRsp x.frame s).rif.mode = s.rif.mode := (offerRsp_inner _ _).mode
    have first : (x.resume && decide (s.rif.mode = .bypass)) = false := by
      rcases plain x List.mem_cons_self with noResume | normal
      · rw [noResume, Bool.false_and]
      · rw [normal]; exact Bool.and_false _
    rw [List.cons_append, releaseKept, first, if_neg Bool.false_ne_true,
      ih _ fun y mem => mode ▸ plain y (List.mem_cons_of_mem _ mem)]
    rfl

/-! ## The planner at the return to NORMAL (R56) -/

/-- With no request waiting the arbiter takes refill flags only, and answers no one (R42, R47). -/
theorem arbitrate_flags (n : Nat) (s : State) (noRte : s.cpl.rtePlace = none) (noMgr : s.cpl.mgrPlace = none) :
    ∃ c, arbitrate n s = s.onCpl (fun _ => c) ∧ c.answers = s.cpl.answers := by
  induction n generalizing s with
  | zero => exact ⟨_, rfl, rfl⟩
  | succ n ih =>
    have work : s.cpl.nextWork = ((List.finRange 4).find? (rd s.cpl.flags)).map fun b => (.refill b, s.cpl) := by
      rw [Cpl.nextWork, noRte, noMgr]
    rw [arbitrate, work]
    cases (List.finRange 4).find? (rd s.cpl.flags) with
    | none => exact ⟨_, rfl, rfl⟩
    | some b =>
      dsimp only [Option.map_some]
      split
      · next op active =>
        have begun : some (s.opOf (.refill b)) = some op := active
        cases begun
        split
        · obtain ⟨c, rounds, answers⟩ := ih (beginOp (.refill b) s) noRte noMgr
          exact ⟨c, rounds, answers⟩
        · exact ⟨_, rfl, rfl⟩
      · exact ⟨_, rfl, rfl⟩

theorem plannerResume_flags (s : State) (noRte : s.cpl.rtePlace = none) (noMgr : s.cpl.mgrPlace = none) :
    ∃ c, plannerResume s = s.onCpl (fun _ => c) ∧ c.answers = s.cpl.answers := by
  unfold plannerResume
  split
  · exact arbitrate_flags 8 s noRte noMgr
  · exact ⟨s.cpl, rfl, rfl⟩

/-! ## The settling of the orders with the sweep IDLE (R99 to R105) -/

/-- From `s` to `t` at most `n` TUNE frames entered the Control Queue behind the claims, and nothing else claimed a place; no
RSP was formed, no answer taken, no MIX frame came, no pending flag was cleared and the sweep stayed as it was. -/
structure Settled (n : Nat) (s t : State) : Prop where
  state : t.swp.state = s.swp.state
  mgr : t.mgr = s.mgr
  answers : t.cpl.answers = s.cpl.answers
  voice : ∀ d, rd s.rif.voiceQ d = none → rd t.rif.voiceQ d = none
  pend : ∀ k, rd s.lmp.pending k = true → rd t.lmp.pending k = true
  tunes : ∃ l : List Queued, l.length ≤ n ∧ (∀ q ∈ l, q.cls = .tune) ∧ claims t.rif.ctlQ = claims s.rif.ctlQ ++ l

namespace Settled

variable {m n : Nat} {s t u : State}

theorem trans (a : Settled m s t) (b : Settled n t u) : Settled (m + n) s u where
  state := b.state.trans a.state
  mgr := b.mgr.trans a.mgr
  answers := b.answers.trans a.answers
  voice d h := b.voice d (a.voice d h)
  pend k h := b.pend k (a.pend k h)
  tunes := by
    obtain ⟨la, lena, tunea, ea⟩ := a.tunes
    obtain ⟨lb, lenb, tuneb, eb⟩ := b.tunes
    refine ⟨la ++ lb, by simp; omega, fun q mem => ?_, by rw [eb, ea, List.append_assoc]⟩
    rcases List.mem_append.mp mem with first | second
    · exact tunea q first
    · exact tuneb q second

theorem le (a : Settled m s t) (h : m ≤ n) : Settled n s t :=
  { a with tunes := let ⟨l, len, tune, e⟩ := a.tunes; ⟨l, len.trans h, tune, e⟩ }

/-- What leaves the claims as they are brings no TUNE frame. -/
theorem of_claims (state : t.swp.state = s.swp.state) (mgr : t.mgr = s.mgr) (answers : t.cpl.answers = s.cpl.answers)
    (voice : t.rif.voiceQ = s.rif.voiceQ) (pend : t.lmp = s.lmp) (same : claims t.rif.ctlQ = claims s.rif.ctlQ) :
    Settled 0 s t :=
  ⟨state, mgr, answers, fun d h => by rw [voice]; exact h, fun k h => by rw [pend]; exact h,
    [], Nat.le_refl _, by simp, by rw [same, List.append_nil]⟩

theorem refl (s : State) : Settled 0 s s := of_claims rfl rfl rfl rfl rfl rfl

theorem onRte (f : Rte → Rte) : Settled 0 s (s.onRte f) := of_claims rfl rfl rfl rfl rfl rfl

theorem onLmn (f : Lmn → Lmn) : Settled 0 s (s.onLmn f) := of_claims rfl rfl rfl rfl rfl rfl

theorem of_remarked (h : Remarked s t) : Settled 0 s t where
  state := h.state
  mgr := h.mgr
  answers := by rw [h.cpl]
  voice := h.voice
  pend := h.pend
  tunes := ⟨[], Nat.le_refl _, by simp, by rw [h.rif, List.append_nil]⟩

end Settled

theorem note_settled (kind : NoteKind) (fields : List Byte) (s : State) : Settled 0 s (note kind fields s) := by
  have offered : (note kind fields s).rif = if s.notesOn then s.rif.admitNote (s.noteFrame kind fields) else s.rif := rfl
  refine Settled.of_claims rfl rfl rfl ?_ rfl ?_
  · rw [offered]
    split
    · unfold Rif.admitNote
      split
      · rfl
      · rfl
    · rfl
  · rw [offered]
    split
    · exact claims_admitNote _
    · rfl

theorem requestRte_settled (r : RteRequest) (s : State) : Settled 0 s (requestRte r s) := by
  unfold requestRte
  split
  · exact Settled.of_claims rfl rfl rfl rfl rfl rfl
  · exact Settled.of_claims rfl rfl rfl rfl rfl rfl

theorem setPhase_settled (k : LinkId) (p : Phase) (s : State) : Settled 0 s (setPhase k p s) :=
  .of_remarked (setPhase_remarked k p s)

/-- An admitted TUNE frame (R105, R169). -/
theorem tuneAdmitted_settled {f : Frame} {r : Rif} {s : State}
    (admitted : s.rif.admitted { cls := .tune, frame := f } = some r) : Settled 1 s (s.onRif fun _ => r) :=
  ⟨rfl, rfl, rfl, fun d h => (congrArg (rd · d) (admitted_voiceQ admitted)).trans h, fun _ h => h,
    [_], Nat.le_refl _, fun q mem => by rw [List.mem_singleton.mp mem], claims_admitted admitted rfl⟩

theorem tuneAccepted_settled (s : State) : Settled 0 s (tuneAccepted s) := by
  unfold tuneAccepted
  split
  · exact .onRte _
  · exact .refl s

/-- A batch brings at most its own frames to the queue (R105). -/
theorem offerTunes_settled (l : List HeldTune) (s : State) : Settled l.length s (offerTunes l s) := by
  induction l generalizing s with
  | nil => exact Settled.refl s
  | cons h l ih =>
    unfold offerTunes
    rw [List.length_cons, Nat.add_comm]
    split
    · next r admitted =>
      refine (tuneAdmitted_settled admitted).trans ?_
      dsimp only
      split
      · exact ((tuneAccepted_settled _).trans (ih _)).le (by omega)
      · exact ih _
    · exact ((Settled.onRte _).trans (ih _)).le (by omega)

theorem radios_length (c : LinkCfg) : c.radios.length ≤ 3 := by
  unfold LinkCfg.radios
  split
  · exact Nat.le_succ 2
  · exact Nat.le_refl 3

/-- A launch brings at most three TUNE frames (R105). -/
theorem launch_settled {s : State} (idle : s.swp.state = .idle) (o : Order) (c : Chosen) : Settled 3 s (launch o c s) := by
  unfold launch
  extract_lets k chosen tuning marked
  have tuned : Settled 0 s tuning := (Settled.onRte _).trans (setPhase_settled _ _ _)
  have advanced : Settled 0 tuning tuning.advanceGen := .of_remarked .advanceGen
  have remarked : Settled 0 tuning.advanceGen marked :=
    .of_remarked (ownRecomputeLink_remarked ((tuned.trans advanced).state.trans idle) _ _)
  refine (((tuned.trans advanced).trans remarked).trans ((Settled.onRte _).trans (offerTunes_settled _ _))).le ?_
  simpa using radios_length _

theorem startOrder_settled {s : State} (idle : s.swp.state = .idle) (o : Order) : Settled 3 s (startOrder o s) := by
  have enters : Settled 0 s (s.onRte fun r => { r with staged := none, active := some { o with confirms := 0 } }) :=
    .onRte _
  have launches (c : Chosen) := (enters.trans (launch_settled (enters.state.trans idle) { o with confirms := 0 } c)).le
    (Nat.le_refl 3)
  have checks (r : RteRequest) := (enters.trans ((setPhase_settled o.link .checking _).trans (requestRte_settled r _))).le
    (Nat.zero_le 3)
  unfold startOrder
  dsimp only
  split
  · exact launches _
  · exact launches _
  · exact launches _
  · exact checks _
  · exact checks _

theorem fillStaged_settled {s t : State} (filled : fillStaged s = some t) : Settled 0 s t := by
  unfold fillStaged at filled
  split at filled
  · cases filled
    exact .onRte _
  · split at filled
    · cases filled
      exact ((Settled.onLmn _).trans (.onRte _)).trans (setPhase_settled _ _ _)
    · cases filled

/-- The settling starts one order at most, so that three TUNE frames at most are offered (R100, R102, R105). -/
theorem rteSettle_settled {s : State} (idle : s.swp.state = .idle) : Settled 3 s (rteSettle s) := by
  have noOrder (u : State) : u.rte.active = none ↔ u.standing.active = none := by simp [State.standing]
  have both := rteSettle_keeps (s := s) (P := fun u => Settled 3 s u ∧ (u.standing.active = none → Settled 0 s u))
    ?_ ?_ ?_ ⟨(Settled.refl s).le (Nat.zero_le 3), fun _ => Settled.refl s⟩
  · exact both.1
  · rintro u t ⟨started, unstarted⟩ _ filled
    have fills := fillStaged_settled filled
    refine ⟨started.trans fills, fun none => (unstarted ?_).trans fills⟩
    rcases fillStaged_standing filled with ⟨o, -, -, e⟩ | ⟨k, r, -, e⟩
    · rwa [e] at none
    · rwa [e] at none
  · rintro u o ⟨started, unstarted⟩ _ active
    refine ⟨?_, fun none => ?_⟩
    · exact ((unstarted ((noOrder u).mp active)).trans (startOrder_settled (started.state.trans idle) o)).le (by decide)
    · rw [startOrder_standing] at none
      cases none
  · rintro u o ⟨started, unstarted⟩ _ _
    have defers : Settled 0 u (deferOrder o u) := (Settled.onRte _).trans (note_settled _ _ _)
    exact ⟨started.trans defers, fun none => (unstarted none).trans defers⟩

end Sys2Proof.Machine
end

section
/-! Proofs of the family of the Cue Ring: the entry to BYPASS, with a RESUME recorded and without (R54, R55, R173, R174). -/

namespace Sys2Proof.Machine

theorem forEach_append {α : Type} (a b : List α) (f : α → State → State) (s : State) :
    forEach (a ++ b) f s = forEach b f (forEach a f s) := List.foldl_append

/-! ## The entry (R173) -/

/-- What the entry leaves with these RSP frames, kept apart before any RESUME, alone in the Control Queue (R173). -/
def State.atEntry (s : State) (kept : List KeptRsp) : State :=
  { bypassBlocks s with
    rif := { (bypassBlocks s).rif with ctlQ := kept.map fun x => x.frame.queuedRsp } }

/-- RSP frames kept before any RESUME are released into an empty Control Queue (R173). -/
theorem releaseKept_entry (s : State) (kept rest : List KeptRsp) (plain : ∀ x ∈ kept, x.resume = false)
    (room : kept.length ≤ 24) : releaseKept (kept ++ rest) (bypassBlocks s) = releaseKept rest (s.atEntry kept) := by
  have empty : (bypassBlocks s).rif.ctlQ = [] := by rw [(bypassBlocks_enters s).rif]; rfl
  rw [releaseKept_offers kept rest _ fun x mem => .inl (plain x mem), offers_room _ _ (by simpa [empty] using room), empty,
    List.map_map]
  rfl

theorem exec_bypassEntry (s : State) : exec .bypassEntry s = .next (event enterBypass s) := rfl

section
variable {s : State} {e : EntryMark} (ring : s.onRing = true) (marked : s.rif.entry = some e)
include ring marked

/-- The entry sends the RSP to the BYPASS, empties the blocks and releases the RSP frames kept apart (R173). -/
theorem exec_bypassEntry_enters :
    exec .bypassEntry s = .next (releaseKept e.kept (bypassBlocks (s.setOut (.sent e.rsp.bytes)))) := by
  have quietMarked : s.quieted.rif.entry = some e := marked
  rw [exec_bypassEntry, event_live (onRing_iff.mp ring).1, enterBypass, quietMarked]
  rfl

/-- The first FILL slot under the mark is the entry (R173, notes/assumptions/12). -/
theorem exec_bypassEntry_eq_fillSlot : exec .bypassEntry s = exec .fillSlot s := by
  obtain ⟨live, notPermanent⟩ := onRing_iff.mp ring
  have permanent : ¬s.quieted.rif.permanent = true := Bool.eq_false_iff.mp notPermanent
  have quietMarked : s.quieted.rif.entry.isSome = true := Option.isSome_iff_exists.mpr ⟨e, marked⟩
  rw [exec_bypassEntry, exec_fillSlot, event_live live, event_live live, fillSlot, if_neg permanent, if_pos quietMarked]

/-- Without a RESUME the kept RSP frames stand alone in the Control Queue (R173). -/
theorem exec_fillSlot_entry (plain : ∀ x ∈ e.kept, x.resume = false) (room : e.kept.length ≤ 24) :
    exec .fillSlot s = .next ((s.setOut (.sent e.rsp.bytes)).atEntry e.kept) := by
  have released := releaseKept_entry (s.setOut (.sent e.rsp.bytes)) e.kept [] plain room
  rw [List.append_nil] at released
  rw [← exec_bypassEntry_eq_fillSlot ring marked, exec_bypassEntry_enters ring marked, released]
  rfl

end

/-! ## The return to NORMAL mode (R55, R56, R94, R116, R142, R174) -/

/-- The blocks before the settling of the orders: NORMAL mode, the planner's records `c`, VERIFY wants, every eligible lamp
pending and the refresh timer restarted. -/
def State.resumed (s : State) (c : Cpl) : State :=
  lampResume (verifyWants ((s.onRif fun r => { r with mode := .normal }).onCpl fun _ => c))

/-- With no request waiting the planner may begin REFILLs, and the orders settle (R56, R116). -/
theorem resumeBlocks_eq (s : State) (noRte : s.cpl.rtePlace = none) (noMgr : s.cpl.mgrPlace = none) :
    ∃ c, resumeBlocks s = rteSettle (s.resumed c) ∧ c.answers = s.cpl.answers := by
  obtain ⟨c, planner, answers⟩ := plannerResume_flags (s.onRif fun r => { r with mode := .normal }) noRte noMgr
  exact ⟨c, by rw [resumeBlocks, planner]; rfl, answers⟩

/-- An UNCERTAIN carrier's link is wanted at the return (R94). -/
theorem resumed_want {s : State} {c : Cpl} {k : LinkId} (uncertain : (s.link k).carrier.state = .uncertain) :
    (s.resumed c).want k ≠ none := by
  have want : (s.resumed c).want k =
      if (s.want k).isNone && (s.link k).carrier.state = .uncertain then some .verify else s.want k := rd_tab _ k
  rw [want]
  cases s.want k with
  | none => simp [uncertain]
  | some r => simp

/-- Every eligible lamp is pending at the return (R142). -/
theorem resumed_pend {s : State} {c : Cpl} {k : LinkId} (eligible : s.eligible k = true) :
    rd (s.resumed c).lmp.pending k = true := by
  have pending : rd (s.resumed c).lmp.pending k = (rd s.lmp.pending k || (true && s.eligible k)) := rd_tab _ k
  rw [pending, eligible]
  exact Bool.or_true _

/-- What the return leaves from the state `w` of the resumed blocks, once the RSP frames `l` have been offered. -/
structure Returned (l : List Frame) (w t : State) : Prop where
  inner : Inner w t
  mgr : t.mgr = w.mgr
  answers : t.cpl.answers = []
  idle : t.swp.state = .idle
  voice : ∀ d, rd w.rif.voiceQ d = none → rd t.rif.voiceQ d = none
  pend : ∀ k, rd w.lmp.pending k = true → rd t.lmp.pending k = true
  wanted : ∀ k, w.want k ≠ none → t.want k ≠ none ∨ t.rte.holds k = true
  rsps : t.rif.ctlQ.filter (·.cls = .rsp) = w.rif.ctlQ.filter (·.cls = .rsp) ++ l.map Frame.queuedRsp

/-- The RSP frames of a queue are claims. -/
theorem filter_rsp_claims (q : List Queued) : q.filter (·.cls = .rsp) = (claims q).filter (·.cls = .rsp) := by
  rw [claims, List.filter_filter]
  refine List.filter_congr fun x _ => ?_
  cases cls : x.cls <;> simp [Queued.isNote, cls]

theorem filter_queuedRsp {α : Type} (l : List α) (f : α → Frame) :
    (l.map fun x => (f x).queuedRsp).filter (·.cls = .rsp) = l.map fun x => (f x).queuedRsp :=
  List.filter_eq_self.mpr fun q mem => by
    obtain ⟨x, -, rfl⟩ := List.mem_map.mp mem
    rfl

/-- The orders settle, the answers of the CPL are taken, and the RSP frames are offered: beside at most three TUNE frames each
of them finds a place (R105, R169). -/
theorem returned {l : List Frame} {w : State} (idle : w.swp.state = .idle)
    (room : (claims w.rif.ctlQ).length + 3 + l.length ≤ 24) :
    Returned l w (forEach l offerRsp ((rteSettle w).onCpl fun c => { c with answers := [] })) := by
  have settled := rteSettle_settled idle
  obtain ⟨tunes, few, tune, behind⟩ := settled.tunes
  have fits : (claims (rteSettle w).rif.ctlQ).length + l.length ≤ 24 := by rw [behind, List.length_append]; omega
  obtain ⟨r, offered, sameVoice, placed⟩ := offers_claims l ((rteSettle w).onCpl fun c => { c with answers := [] }) fits
  have inner := ((rteSettle_inner w).trans (Inner.onCpl (fun c => { c with answers := [] }) id id)).trans (offers_inner l _)
  rw [offered] at inner ⊢
  refine ⟨inner, settled.mgr, rfl, settled.state.trans idle, fun d none => ?_, settled.pend, fun k wanted => ?_, ?_⟩
  · exact (congrArg (rd · d) sameVoice).trans (settled.voice d none)
  · obtain ⟨reason, want⟩ := Option.ne_none_iff_exists'.mp wanted
    rcases rteSettle_provides want with stays | ⟨o, order, ofLink, -⟩
    · exact .inl (Option.ne_none_iff_exists'.mpr ⟨reason, stays⟩)
    · exact .inr (List.any_eq_true.mpr ⟨o, order, decide_eq_true ofLink⟩)
  · have noRsp : tunes.filter (·.cls = .rsp) = [] := List.filter_eq_nil_iff.mpr fun q mem => by simp [tune q mem]
    have all : (l.map Frame.queuedRsp).filter (·.cls = .rsp) = l.map Frame.queuedRsp := filter_queuedRsp l id
    have queue : claims r.ctlQ = claims w.rif.ctlQ ++ tunes ++ l.map Frame.queuedRsp := placed.trans (by rw [← behind]; rfl)
    rw [filter_rsp_claims, queue, List.filter_append, List.filter_append, noRsp, all, List.append_nil, ← filter_rsp_claims]

/-- The return to NORMAL: the orders settle, and the BYPASSED answers are offered (R55, R116). -/
theorem resumeNormal_eq {s : State} (idle : s.swp.state = .idle) (noRte : s.cpl.rtePlace = none)
    (noMgr : s.cpl.mgrPlace = none) : ∃ c, resumeNormal s = forEach (s.cpl.answers.map (HeldAnswer.rsp s.rif.node)) offerRsp
      ((rteSettle (s.resumed c)).onCpl fun c => { c with answers := [] }) := by
  obtain ⟨c, blocks, answers⟩ := resumeBlocks_eq s noRte noMgr
  have taken : (rteSettle (s.resumed c)).cpl.answers = s.cpl.answers :=
    (rteSettle_settled (s := s.resumed c) idle).answers.trans answers
  have node : (rteSettle (s.resumed c)).rif.node = s.rif.node := (rteSettle_inner _).node
  exact ⟨c, by rw [resumeNormal, blocks, sendHeldAnswers, taken, sendBypassed_offers, onCpl_rif, node]⟩

/-- The RESUME kept apart takes effect before its RSP, and the RSP frames kept after it follow (R173). -/
theorem releaseKept_resumes {x : KeptRsp} {s : State} (resume : x.resume = true) (bypass : s.rif.mode = .bypass)
    (idle : s.swp.state = .idle) (noRte : s.cpl.rtePlace = none) (noMgr : s.cpl.mgrPlace = none) (post : List KeptRsp) :
    ∃ c, releaseKept (x :: post) s =
      forEach (s.cpl.answers.map (HeldAnswer.rsp s.rif.node) ++ x.frame :: post.map (·.frame)) offerRsp
        ((rteSettle (s.resumed c)).onCpl fun c => { c with answers := [] }) := by
  obtain ⟨c, returns⟩ := resumeNormal_eq idle noRte noMgr
  have effect : (x.resume && decide (s.rif.mode = .bypass)) = true := by rw [resume, bypass]; rfl
  have normal : (offerRsp x.frame (resumeNormal s)).rif.mode = .normal := by
    rw [returns, (offerRsp_inner _ _).mode, (offers_inner _ _).mode, onCpl_rif, (rteSettle_inner _).mode]
    rfl
  have rest := releaseKept_offers post [] (offerRsp x.frame (resumeNormal s)) fun _ _ => .inr normal
  rw [List.append_nil, releaseKept] at rest
  refine ⟨c, ?_⟩
  rw [releaseKept, if_pos effect, rest, returns, forEach_append, forEach_cons]

/-- With a RESUME recorded the entry is followed by the return to NORMAL mode in the same event (R173, R174). -/
theorem exec_fillSlot_resumes {s : State} {e : EntryMark} (ring : s.onRing = true) (marked : s.rif.entry = some e)
    {pre post : List KeptRsp} {x : KeptRsp} (kept : e.kept = pre ++ x :: post) (plain : ∀ y ∈ pre, y.resume = false)
    (resume : x.resume = true) (room : s.cpl.answers.length + s.cpl.cutShort.length + e.kept.length ≤ 21) :
    ∃ c t, exec .fillSlot s = .next t
      ∧ Returned ((s.cpl.answers ++ s.cpl.cutShort).map (HeldAnswer.rsp s.rif.node) ++ x.frame :: post.map (·.frame))
          (((s.setOut (.sent e.rsp.bytes)).atEntry pre).resumed c) t := by
  have length : e.kept.length = pre.length + (post.length + 1) := by rw [kept, List.length_append, List.length_cons]
  have enters := bypassBlocks_enters (s.setOut (.sent e.rsp.bytes))
  have before := releaseKept_entry (s.setOut (.sent e.rsp.bytes)) pre (x :: post) plain (by omega)
  have leaves := exec_bypassEntry_enters ring marked
  rw [exec_bypassEntry_eq_fillSlot ring marked, kept, before] at leaves
  rw [State.atEntry] at leaves ⊢
  generalize bypassBlocks (s.setOut (.sent e.rsp.bytes)) = b at *
  have idle : b.swp.state = .idle := (congrArg Swp.state enters.swp :)
  have answers : b.cpl.answers = s.cpl.answers ++ s.cpl.cutShort := (congrArg Cpl.answers enters.cpl :)
  have node : b.rif.node = s.rif.node := (congrArg Rif.node enters.rif :)
  obtain ⟨c, released⟩ := releaseKept_resumes
    (s := { b with rif := { b.rif with ctlQ := pre.map fun y => y.frame.queuedRsp } }) resume (congrArg Rif.mode enters.rif :)
    idle (congrArg Cpl.rtePlace enters.cpl :) (congrArg Cpl.mgrPlace enters.cpl :) post
  rw [answers, node] at released
  refine ⟨c, _, leaves.trans (congrArg Host.Outcome.next released), returned idle ?_⟩
  have claimed : (claims (pre.map fun y => y.frame.queuedRsp)).length ≤ pre.length :=
    (List.length_filter_le _ _).trans (List.length_map _).le
  simp only [List.length_append, List.length_map, List.length_cons]
  exact (Nat.add_le_add_right (Nat.add_le_add_right claimed 3) _).trans (by omega)

/-- Settles O15: the mark and the RSP frames kept apart under it; the entry without a RESUME, whose blocks are those of
`bypassBlocks`; the entry with a RESUME, from which the orders settle and every RSP finds a place. -/
theorem bypassRequestAndEntry : Obligations.BypassRequestAndEntry := by
  refine ⟨fun h s taken => exec_bypass_taken taken, fun h params s taken nonempty => exec_bypass_params taken nonempty,
    fun h e s marked => ⟨exec_resume_marked marked, exec_identify_marked marked, fun taken normal => ?_⟩, ?_, ?_⟩
  · obtain ⟨length, entering⟩ := statusBytes_marked marked normal
    exact ⟨s.statusBytes, length, entering, rfl, exec_status_marked marked taken⟩
  · intro e pre post x s ring marked kept plain resume room
    obtain ⟨c, t, leaves, back⟩ := exec_fillSlot_resumes ring marked kept plain resume room
    have enters := bypassBlocks_enters (s.setOut (.sent e.rsp.bytes))
    rw [State.atEntry] at back
    generalize bypassBlocks (s.setOut (.sent e.rsp.bytes)) = b at *
    have noMix (d : DestId) : rd t.rif.voiceQ d = none :=
      back.voice d ((congrArg (fun r => rd r.voiceQ d) enters.rif).trans (rd_replicate _ d))
    have lost (before : s.rif.notesLost = true) : t.rif.notesLost = true :=
      back.inner.lost ((congrArg Rif.notesLost enters.rif).trans (by simp [State.emptiedForBypass, before]))
    refine ⟨exec_bypassEntry_eq_fillSlot ring marked, t, leaves, back.inner.ringOut.trans enters.ringOut, back.inner.mode,
      back.inner.entry.trans (congrArg Rif.entry enters.rif :), back.inner.node.trans (congrArg Rif.node enters.rif :),
      back.inner.errors.trans (congrArg Rif.errors enters.rif :),
      tab_ext fun d => (noMix d).trans (rd_replicate _ d).symm, lost, ?_, back.mgr.trans enters.mgr, back.answers,
      fun k eligible => ?_, ?_, fun k doubtful => ?_, back.idle, back.inner.tly.trans enters.tly,
      back.inner.bands.trans enters.bands, back.inner.windows.trans enters.windows, back.inner.tbm.trans enters.tbm,
      back.inner.pins.trans enters.pins, back.inner.pending.trans enters.pending⟩
    · have rsps := back.rsps.trans (congrArg (· ++ _) (filter_queuedRsp pre (·.frame)))
      rw [List.map_append, List.map_map, List.map_cons, List.map_map, ← List.append_assoc] at rsps
      exact rsps
    · exact back.pend k (resumed_pend ((congrArg (fun l => l.cfg.eligible) (enters.link k)).trans eligible))
    · have period := congrArg (fun m : Mgr => some (1000 * m.settings.lampRefresh)) enters.mgr
      exact (congrArg Lmp.refresh back.inner.lmp).trans period
    · exact back.wanted k (resumed_want ((congrArg (fun l => l.carrier.state) (enters.link k)).trans
        (abandoned_uncertain _ k doubtful)))
  · intro e s ring marked plain room
    refine ⟨exec_bypassEntry_eq_fillSlot ring marked, _, exec_fillSlot_entry ring marked plain room, ?_⟩
    have enters := bypassBlocks_enters (s.setOut (.sent e.rsp.bytes))
    rw [State.atEntry]
    generalize bypassBlocks (s.setOut (.sent e.rsp.bytes)) = b at *
    have queues := congrArg (fun r : Rif => { r with ctlQ := e.kept.map fun x : KeptRsp => x.frame.queuedRsp }) enters.rif
    have flags : b.cpl.flags = s.cpl.flagsBack := (congrArg Cpl.flags enters.cpl :)
    exact ⟨enters.ringOut, queues, enters.mgr, enters.rte, (congrArg Cpl.active enters.cpl :),
      (congrArg Cpl.rtePlace enters.cpl :), (congrArg Cpl.mgrPlace enters.cpl :), (congrArg Cpl.log enters.cpl :),
      (congrArg Cpl.answers enters.cpl :), fun band => flags ▸ flagsBack_iff s.cpl band,
      (congrArg Swp.state enters.swp :), (congrArg Swp.probe enters.swp :), (congrArg Swp.probeTimer enters.swp :),
      (congrArg Swp.probeHold enters.swp :), (congrArg Swp.reportHold enters.swp :), (congrArg Swp.cfg enters.swp :),
      (congrArg Swp.probeTag enters.swp :), (congrArg Swp.interval enters.swp :),
      fun k => (enters.link k).symm ▸ abandoned_fields _ k, enters.gen, enters.bands, enters.windows, enters.lmn, enters.tly,
      enters.tbm, (congrArg Lmp.refresh enters.lmp :), (congrArg Lmp.debts enters.lmp :),
      (congrArg Lmp.palette enters.lmp :), (congrArg Lmp.test enters.lmp :), enters.pend, enters.pins, enters.pending⟩

end Sys2Proof.Machine
end

section
/-! Proofs of the invariants: the machine right after reset, and a law that one step breaks (R34, R46, R114, R165). -/

namespace Sys2Proof.Machine

/-! ## The cold records meet the laws (R165) -/

section
variable (straps : Byte) (q : List Instr)

@[simp] theorem cold_link (k : LinkId) : (State.cold straps q).link k = .cold := rd_replicate _ k

@[simp] theorem cold_window (w : Fin 8) : rd (State.cold straps q).plan.windows w = .cold := rd_replicate _ w

@[simp] theorem cold_spares (b : BandId) : rd (State.cold straps q).cpl.spares b = [] := rd_replicate _ b

theorem cold_withinCapacity : (State.cold straps q).withinCapacity :=
  ⟨Nat.zero_le _, Nat.zero_le _, Nat.zero_le _, fun b => by simp, Nat.zero_le _, Nat.zero_le _⟩

theorem cold_pendingEligible : (State.cold straps q).pendingEligible := fun k pending => by
  rw [show rd (State.cold straps q).lmp.pending k = false from rd_replicate _ k] at pending
  cases pending

/-- Every cold slot is OFFLINE, so the merge contributes nothing (R117, R131). -/
theorem mergedTallies_cold : mergedTallies Tly.cold.slots = Vector.replicate 64 .empty := by
  have offline (acc : Vector Buses 64) : Slot.cold.mergeInto acc = acc := mergeInto_of_offline rfl acc
  have slots : Tly.cold.slots.toList = List.replicate 4 Slot.cold := rfl
  rw [mergedTallies, slots]
  simp [List.replicate, offline]

theorem cold_tallyMerged : (State.cold straps q).tallyMerged := by
  have slot (i : SlotId) : (State.cold straps q).slot i = .cold := rd_replicate _ i
  refine ⟨fun k => ?_, fun i _ => by rw [slot]; rfl, fun i _ => by rw [slot]; exact ⟨rfl, rfl, rfl⟩⟩
  rw [cold_link, show (State.cold straps q).tly = Tly.cold from rfl, mergedTallies_cold, rd_replicate]
  rfl

theorem cold_noHeldMix : (State.cold straps q).noHeldMix := fun d _ _ _ => rd_replicate _ d

theorem cold_sparesDistinct : (State.cold straps q).sparesDistinct := fun b => by simp

theorem cold_callsClear : (State.cold straps q).callsClear := fun d _ => ⟨rd_replicate _ d, rd_replicate _ d⟩

/-- There are no orders, every phase is IDLE and nothing is wanted (R97, R98). -/
theorem cold_ordersPlaced : (State.cold straps q).ordersPlaced := by
  have noOrder : (State.cold straps q).rte.orders = [] := rfl
  have free (k : LinkId) : (State.cold straps q).rte.holds k = false := rfl
  refine ⟨by simp [noOrder], fun k => by simp [free], fun k => by simp [free, Link.cold, LinkCarrier.cold], ?_, ?_, fun _ => noOrder⟩
  · rintro o (staged | deferred)
    · cases staged
    · cases deferred
  · intro o active
    cases active

theorem cold_requestsKept : (State.cold straps q).requestsKept :=
  ⟨fun _ waits => (nomatch waits), fun _ active => (nomatch active), fun owed => (nomatch owed)⟩

theorem cold_carriersRegular : (State.cold straps q).carriersRegular := by
  refine ⟨fun k _ => by rw [cold_link]; rfl, ?_⟩
  rintro o n (staged | deferred)
  · cases staged
  · cases deferred

theorem cold_snapshotCurrent : (State.cold straps q).snapshotCurrent := fun _ _ active => by cases active

theorem cold_windowsClear : (State.cold straps q).windowsClear := fun w y _ => by
  rw [cold_window]
  rfl

end

/-- Settles O60: the machine right after reset is a cold one. -/
theorem resetMeetsInvariants : Obligations.ResetMeetsInvariants := by
  intro s reset
  obtain ⟨straps, q, rfl⟩ : ∃ straps q, s = State.cold straps q := by
    rcases reset with rfl | cold
    · exact ⟨defaultStraps, [], rfl⟩
    · exact cold
  exact ⟨cold_withinCapacity _ _, cold_pendingEligible _ _, cold_tallyMerged _ _, cold_noHeldMix _ _, cold_sparesDistinct _ _,
    cold_callsClear _ _, cold_ordersPlaced _ _, cold_requestsKept _ _, cold_carriersRegular _ _, cold_snapshotCurrent _ _,
    cold_windowsClear _ _⟩

/-! ## A result stays owed after its operation has ended -/

/-- An AUDIT of origin RETUNE whose result is owed. `State.requestsKept` does not say which kinds an operation of origin RETUNE
has, and only the completions of CHECK, CONFIRM and SEARCH clear the result-owed flag (R114). -/
def owedAudit : State :=
  { State.reset with
    cpl := { Cpl.cold with active := some (freshOp .audit .retune 0 none none none .full (State.reset.snapshot 0) none) }
    rte := { Rte.cold with owed := true }
    pending := [.auditCompletion] }

/-- The completion finds the band disabled, writes the verdict, and the planner becomes IDLE (R33, R34, R42, R46). -/
def owedAuditDone : State :=
  { owedAudit with cpl := { Cpl.cold with log := { ConflictLog.empty with verdict := some .range } }, pending := [] }

theorem step_owedAudit : step owedAudit = .next owedAuditDone := rfl

theorem owedAudit_requestsKept : owedAudit.requestsKept := ⟨fun _ waits => (nomatch waits), fun _ _ _ notOwed => (nomatch notOwed), fun _ => ⟨_, rfl, rfl⟩⟩

/-- Refutes O58: its law of requests fails. The completion of an AUDIT of origin RETUNE whose result is owed leaves the
result-owed flag set and no operation of that origin. -/
theorem not_boundsAndTalliesKept : ¬ Obligations.BoundsAndTalliesKept := by
  intro kept
  obtain ⟨-, -, -, -, requests, -⟩ := kept owedAudit owedAuditDone step_owedAudit
  have placed : owedAudit.ordersPlaced := cold_ordersPlaced defaultStraps []
  obtain ⟨-, -, owes⟩ := requests placed owedAudit_requestsKept
  obtain ⟨op, active, -⟩ := owes rfl
  cases active

end Sys2Proof.Machine
end

section
/-! Proofs of the family of the sweep and the planner: what their own work, from an offered frame to a whole pass, leaves as it
stands in the plan, the wants, the orders, the lamps, the Voice Queue and the OWN marks (R60, R61, R65, R75). -/

namespace Sys2Proof.Machine

/-- Between `s` and `t` only the sweep and the planner worked: the plan, the wants, the orders, the lamps and the Voice Queue
stand, the same cells are OWN, and what the Control Queue held beside NOTEs is still at its head. -/
structure Aside (s t : State) : Prop where
  ledger : t.ledger = s.ledger
  lmp    : t.lmp = s.lmp
  voiceQ : t.rif.voiceQ = s.rif.voiceQ
  own    : ∀ b j, (rd (rd t.swp.cells b) j).state = .own ↔ (rd (rd s.swp.cells b) j).state = .own
  queue  : claims s.rif.ctlQ <+: claims t.rif.ctlQ

namespace Aside

variable {s t u : State}

theorem refl (s : State) : Aside s s := ⟨rfl, rfl, rfl, fun _ _ => .rfl, List.prefix_refl _⟩

theorem trans (a : Aside s t) (b : Aside t u) : Aside s u where
  ledger := b.ledger.trans a.ledger
  lmp := b.lmp.trans a.lmp
  voiceQ := b.voiceQ.trans a.voiceQ
  own j k := (b.own j k).trans (a.own j k)
  queue := a.queue.trans b.queue

theorem plan (h : Aside s t) : t.plan = s.plan := congrArg Prod.fst h.ledger
theorem lmn (h : Aside s t) : t.lmn = s.lmn := lmn_of_ledger h.ledger
theorem rte (h : Aside s t) : t.rte = s.rte := rte_of_ledger h.ledger
theorem link (h : Aside s t) (k : LinkId) : t.link k = s.link k := link_of_ledger h.ledger k

theorem onCpl (f : Cpl → Cpl) : Aside s (s.onCpl f) := ⟨rfl, rfl, rfl, fun _ _ => .rfl, List.prefix_refl _⟩

theorem onMgr (f : Mgr → Mgr) : Aside s (s.onMgr f) := ⟨rfl, rfl, rfl, fun _ _ => .rfl, List.prefix_refl _⟩

theorem onSwp (f : Swp → Swp) (cells : (f s.swp).cells = s.swp.cells) : Aside s (s.onSwp f) :=
  ⟨rfl, rfl, rfl, fun b j => by rw [onSwp_swp, cells], List.prefix_refl _⟩

theorem onRif (f : Rif → Rif) (voiceQ : (f s.rif).voiceQ = s.rif.voiceQ) (queue : claims s.rif.ctlQ <+: claims (f s.rif).ctlQ) :
    Aside s (s.onRif f) := ⟨rfl, rfl, voiceQ, fun _ _ => .rfl, queue⟩

theorem ite {c : Prop} [Decidable c] (yes : Aside s t) (no : Aside s u) : Aside s (if c then t else u) := by
  split
  · exact yes
  · exact no

end Aside

/-! ## Frames offered (R169, R176) -/

section
variable (s : State)

theorem admitted_aside {s : State} {r : Rif} {q : Queued} (admitted : s.rif.admitted q = some r) (notNote : q.isNote = false) :
    Aside s (s.onRif fun _ => r) :=
  .onRif _ (admitted_voiceQ admitted) (by rw [claims_admitted admitted notNote]; exact List.prefix_append _ _)

theorem note_aside (kind : NoteKind) (fields : List Byte) : Aside s (note kind fields s) := by
  unfold note
  refine .onRif _ ?_ ?_
  · split
    · unfold Rif.admitNote
      split <;> rfl
    · rfl
  · split
    · rw [claims_admitNote]
    · exact List.prefix_refl _

theorem offerRsp_aside (f : Frame) : Aside s (offerRsp f s) := by
  unfold offerRsp
  split
  · next admitted => exact admitted_aside admitted rfl
  · exact .onMgr _

/-! ## The planner (R41, R42) -/

theorem answerOp_aside (op : ActiveOp) (st : RspStatus) (results : List Byte) : Aside s (answerOp op st results s) := by
  unfold answerOp
  split
  · exact offerRsp_aside s _
  · exact .refl s

theorem beginOp_aside (w : Work) : Aside s (beginOp w s) := by
  unfold beginOp
  exact .onCpl _

theorem arbitrate_aside (n : Nat) : Aside s (arbitrate n s) := by
  induction n generalizing s with
  | zero => exact .onCpl _
  | succ n ih =>
    unfold arbitrate
    split
    · exact .onCpl _
    · next w c next =>
      have begun : Aside s (beginOp w (s.onCpl fun _ => c)) := (Aside.onCpl _).trans (beginOp_aside _ w)
      simp only
      split
      · exact .ite (begun.trans ((answerOp_aside _ _ _ _).trans (ih _))) begun
      · exact begun

theorem arbiterNext_aside : Aside s (arbiterNext s) := arbitrate_aside s 8

theorem requestRte_aside (r : RteRequest) : Aside s (requestRte r s) := .ite (beginOp_aside s _) (.onCpl _)

theorem setRefillFlag_aside (b : BandId) : Aside s (setRefillFlag b s) :=
  have flagged : Aside s (s.onCpl fun c => { c with flags := wr c.flags b true }) := .onCpl _
  .ite (flagged.trans (arbiterNext_aside _)) flagged

theorem spareRemoveCells_aside (b : BandId) (hit : Nat → Bool) : Aside s (spareRemoveCells b hit s) := by
  unfold spareRemoveCells onSpares
  exact .onCpl _

theorem planCommit_aside (b : BandId) (n : Option Nat) : Aside s (planCommit b n s) := by
  unfold planCommit
  split
  · exact (Aside.onCpl _).trans (setRefillFlag_aside _ b)
  · exact setRefillFlag_aside s b

/-! ## The pass (R65, R71, R75) -/

theorem clearProbe_aside : Aside s (clearProbe s) := .onSwp _ rfl

theorem beginPass_aside : Aside s (beginPass s) := .onSwp _ rfl

theorem discardReport_aside : Aside s (discardReport s) :=
  .ite ((Aside.onSwp _ rfl).trans (.onRif _ rfl (List.prefix_refl _))) (.refl s)

/-- What becomes of a PROBE frame is the sweep's own work. -/
abbrev AsideOffer (offer : ProbeOffer) : Prop := ∀ h s, Aside s (offer h s)

theorem keepProbe_aside : AsideOffer keepProbe := fun _ _ => .onSwp _ rfl

theorem offerProbe_aside : AsideOffer offerProbe := by
  intro h s
  unfold offerProbe
  split
  · next admitted => exact (admitted_aside admitted rfl).trans (.onSwp _ rfl)
  · exact keepProbe_aside h s

theorem probeCell_aside {offer : ProbeOffer} (offers : AsideOffer offer) (j pos : Nat) : Aside s (probeCell offer j pos s) :=
  (Aside.onSwp _ rfl).trans (offers _ _)

theorem aged_own (c : Cell) : c.aged.state = .own ↔ c.state = .own := by
  cases state : c.state <;> simp only [Cell.aged, state] <;> split <;> simp_all

theorem ageCells_aside : Aside s (ageCells s) := by
  refine ⟨rfl, rfl, rfl, fun b j => ?_, List.prefix_refl _⟩
  simp only [ageCells, onSwp_swp, rd_wr]
  split
  · next same =>
    rw [← same, rd_tab]
    split
    · exact aged_own _
    · exact .rfl
  · exact .rfl

theorem passEnd_aside : Aside s (passEnd s) :=
  (ageCells_aside s).trans ((note_aside _ _ _).trans (setRefillFlag_aside _ _))

theorem sweepTake_aside {offer : ProbeOffer} (offers : AsideOffer offer) (n : Nat) : Aside s (sweepTake offer n s) := by
  induction n generalizing s with
  | zero => exact .refl s
  | succ n ih =>
    have ended := passEnd_aside s
    unfold sweepTake
    simp only
    split
    · exact probeCell_aside s offers _ _
    · split
      · exact ended.trans (.onSwp _ rfl)
      · exact ended.trans (.onSwp _ rfl)
      · exact ended.trans (.onSwp _ rfl)
      · exact .ite (ended.trans (.onSwp _ rfl)) (ended.trans ((beginPass_aside _).trans (ih _)))

theorem sweepOnBy_aside {offer : ProbeOffer} (offers : AsideOffer offer) : Aside s (sweepOnBy offer s) :=
  have done : Aside s (s.onSwp fun w => { w with cursor := w.cursor + 1 }) := .onSwp _ rfl
  .ite (done.trans (.onSwp _ rfl)) (done.trans (sweepTake_aside _ offers 2))

theorem sweepOn_aside : Aside s (sweepOn s) := sweepOnBy_aside s offerProbe_aside

theorem admitCell_aside {s : State} {f : Frame} {r : Rif} (admitted : s.rif.admitCell f = some r) :
    Aside s (s.onRif fun _ => r) := by
  unfold Rif.admitCell at admitted
  split at admitted
  · cases admitted
    refine .onRif _ rfl ?_
    rw [claims_append]
    exact List.prefix_append _ _
  · cases admitted

theorem offerReport_aside {offer : ProbeOffer} (offers : AsideOffer offer) (f : Frame) : Aside s (offerReport offer f s) := by
  unfold offerReport
  split
  · next admitted => exact ((admitCell_aside admitted).trans (.onSwp _ rfl)).trans (sweepOnBy_aside _ offers)
  · exact .onSwp _ rfl

/-! ## Triggers (R67, R68, R76, R86) -/

theorem sweepTrigger_aside : Aside s (sweepTrigger s) := by
  have starts : Aside s (sweepStart s) :=
    (Aside.onSwp _ rfl).trans ((beginPass_aside _).trans (sweepTake_aside _ offerProbe_aside 2))
  have restarts : Aside s (sweepRestart s) :=
    (clearProbe_aside s).trans ((discardReport_aside _).trans ((beginPass_aside _).trans (sweepTake_aside _ offerProbe_aside 2)))
  have steps : Aside s (sweepTake offerProbe 2 (if s.swp.cursor = 0 then beginPass s else s)) :=
    (Aside.ite (beginPass_aside s) (.refl s)).trans (sweepTake_aside _ offerProbe_aside 2)
  unfold sweepTrigger
  split
  · exact starts
  · exact .ite restarts (.refl s)
  · exact .ite restarts (.refl s)
  · exact .ite steps (.refl s)

theorem sweepAutoTrigger_aside : Aside s (sweepAutoTrigger s) := .ite (.ite (.refl s) (sweepTrigger_aside s)) (.refl s)

theorem degradeReport_aside (k : LinkId) : Aside s (degradeReport k s) := .ite (sweepAutoTrigger_aside s) (.refl s)

theorem healthDegrade_aside (k : LinkId) (old new : Health) : Aside s (healthDegrade k old new s) :=
  .ite (degradeReport_aside s k) (.refl s)

theorem intervalExpiry_aside : Aside s (intervalExpiry s) := .ite (sweepAutoTrigger_aside s) (.refl s)

theorem sweepHalt_aside : Aside s (sweepHalt s) :=
  (clearProbe_aside s).trans ((discardReport_aside _).trans (.onSwp _ rfl))

/-! ## OWN marking (R60, R73) -/

/-- After the OWN marks are recomputed the sweep may leave a probed cell that became OWN, and goes on from there. -/
theorem ownRecompute_aside (b : BandId) (touched : Span → Bool) : Aside (remarkCells b touched s) (ownRecompute b touched s) := by
  have goesOn (u : State) : Aside u (sweepOn (clearProbe u)) := (clearProbe_aside u).trans (sweepOn_aside _)
  unfold ownRecompute
  simp only
  split
  · split
    · exact .ite (goesOn _) (.refl _)
    · exact .ite (goesOn _) (.refl _)
    · exact .refl _
  · exact .refl _

end

end Sys2Proof.Machine
end

section
/-! Proofs about every command: what each comes to (R165, R166, R172, R175), and that every command completes and leaves the
waiting queue as it is. -/

namespace Sys2Proof.Machine

/-! ## What a command comes to -/

/-- The events of the part itself: expiries, completions, FILL slots and what they owe. -/
inductive PartEvent : (State → State) → Prop
  | fillSlot : PartEvent fillSlot
  | queueSpaceEvent : PartEvent queueSpaceEvent
  | offerLamp : PartEvent offerLamp
  | enterBypass : PartEvent enterBypass
  | tuneExpiry : PartEvent tuneExpiry
  | silenceExpiry (k : LinkId) : PartEvent (silenceExpiry k)
  | slotSilence (i : SlotId) : PartEvent (slotSilence i)
  | slotHold (i : SlotId) : PartEvent (slotHold i)
  | probeTimeout : PartEvent probeTimeout
  | refreshExpiry : PartEvent refreshExpiry
  | intervalExpiry : PartEvent intervalExpiry
  | completeCheck (kinds : OpKind → Bool) : PartEvent (whileRunning kinds completeCheck)
  | completeSearch (kinds : OpKind → Bool) : PartEvent (whileRunning kinds fun _ => completeSearch)
  | completeAudit (kinds : OpKind → Bool) : PartEvent (whileRunning kinds completeAudit)
  | completeRefill (kinds : OpKind → Bool) : PartEvent (whileRunning kinds completeRefill)
  | completeSignature (kinds : OpKind → Bool) : PartEvent (whileRunning kinds completeSignature)
  | searchEntry (kinds : OpKind → Bool) : PartEvent (whileRunning kinds fun _ => searchEntry)
  | logConflict (kinds : OpKind → Bool) : PartEvent (whileRunning kinds logConflict)

/-- The rules of the writable tables (R180). -/
inductive WriteRule : Write → Prop
  | band : WriteRule writeBand
  | link : WriteRule writeLink
  | window : WriteRule writeWindow
  | switcher : WriteRule writeSwitcher
  | sourcemap : WriteRule writeSourcemap
  | palette : WriteRule writePalette
  | condition : WriteRule writeCondition
  | talksrc : WriteRule writeTalkSource
  | dest : WriteRule writeDest
  | xpoint : WriteRule writeXpoint
  | settings : WriteRule writeSettings

/-- The requests that are answered at their taking (R175). -/
inductive RequestRule : Request → Prop
  | refuse (st : RspStatus) : RequestRule fun _ s => refuse st s
  | ofLength (n : Nat) {f : Request} (rule : RequestRule f) : RequestRule (ofLength n f)
  | identify : RequestRule identifyRequest
  | status : RequestRule statusRequest
  | read : RequestRule readRequest
  | readLog : RequestRule readLogRequest
  | moveLink : RequestRule moveLink
  | releaseLink : RequestRule releaseLink
  | cancelMove : RequestRule cancelMove
  | sweepGo : RequestRule sweepGoRequest
  | sweepStop : RequestRule sweepStopRequest
  | lampTest : RequestRule lampTest
  | showLock : RequestRule showLockRequest
  | showUnlock : RequestRule showUnlockRequest
  | write (n : Nat) {f : Write} (rule : WriteRule f) (index : Nat) (record : List Byte) :
      RequestRule fun _ s => ofRecord n f index record s
  | writeRequest : RequestRule writeRequest

/-- How a CMD is taken (R175, R182, R185, R186). -/
inductive TakingRule : Handler → Prop
  | answered (code : Byte) {f : Request} (rule : RequestRule f) : TakingRule (answered code f)
  | planner (kind : OpKind) (n : Nat) : TakingRule (askPlanner kind n)
  | bypass : TakingRule takeBypass
  | resume : TakingRule takeResume
  | restart : TakingRule takeRestart

/-- What a frame that is handed on does (R166, R172). -/
inductive HandRule : (State → State) → Prop
  | none : HandRule id
  | tally (src : Node) (p : List Byte) : HandRule (takeTally src p)
  | cycle (p : List Byte) : HandRule (takeCycle p)
  | voice (src : Node) (p : List Byte) : HandRule (takeVoice src p)
  | linkMeter (src : Node) (p : List Byte) : HandRule (takeLinkMeter src p)
  | probeMeter (src : Node) (p : List Byte) : HandRule (takeProbeMeter src p)
  | tuned (src : Node) (p : List Byte) : HandRule (takeTuned src p)
  | cmd {f : Handler} (rule : TakingRule f) (a : Asker) (p : List Byte) : HandRule (manage f a p)

/-- What a command comes to from a state. -/
inductive ComesTo (s : State) : State → Prop
  | resetLow : ComesTo s (resetLow s)
  | losePower : ComesTo s (losePower s)
  | coldStart (straps : Byte) : ComesTo s (coldStart straps s)
  | event {f : State → State} (rule : PartEvent f) : ComesTo s (event f s)
  | receive (raw : List Byte) (parsed : Option Frame) {hand : State → State} (rule : HandRule hand) :
      ComesTo s (receive raw parsed hand s)

/-! ## Codes name no other rule (R162, R166, R175, R179) -/

theorem tableWrite_rule {table : Byte} {f : Write} (write : tableWrite table = some f) :
    ∃ n g, WriteRule g ∧ f = ofRecord n g := by
  have chosen {c : Prop} [Decidable c] {n : Nat} {g : Write} {rest : Option Write} (rule : WriteRule g)
      (others : rest = some f → ∃ n g, WriteRule g ∧ f = ofRecord n g) (write : (if c then some (ofRecord n g) else rest) = some f) :
      ∃ n g, WriteRule g ∧ f = ofRecord n g := by
    split at write
    · cases write
      exact ⟨n, g, rule, rfl⟩
    · exact others write
  refine chosen .band (chosen .link (chosen .window (chosen .switcher (chosen .sourcemap (chosen .palette
    (chosen .condition (chosen .talksrc (chosen .dest (chosen .xpoint (chosen .settings ?_)))))))))) write
  intro none
  cases none

theorem TakingRule.ite {c : Prop} [Decidable c] {f g : Handler} (yes : TakingRule f) (no : TakingRule g) :
    TakingRule (if c then f else g) := by
  split
  · exact yes
  · exact no

theorem HandRule.ite {c : Prop} [Decidable c] {f g : State → State} (yes : HandRule f) (no : HandRule g) :
    HandRule (if c then f else g) := by
  split
  · exact yes
  · exact no

theorem handler_rule (code : Byte) : TakingRule (handler code) :=
  .ite (.answered _ (.ofLength 0 .identify)) <| .ite (.answered _ (.ofLength 0 .status)) <|
  .ite (.answered _ (.ofLength 4 .read)) <| .ite (.answered _ .writeRequest) <| .ite (.planner .check 6) <|
  .ite (.planner .audit 1) <| .ite (.planner .refill 1) <| .ite (.planner .signature 0) <|
  .ite (.answered _ (.ofLength 0 .readLog)) <| .ite (.answered _ (.ofLength 4 .moveLink)) <|
  .ite (.answered _ (.ofLength 2 .releaseLink)) <| .ite (.answered _ (.ofLength 1 .cancelMove)) <|
  .ite (.answered _ .sweepGo) <| .ite (.answered _ (.ofLength 0 .sweepStop)) <| .ite (.answered _ (.ofLength 1 .lampTest)) <|
  .ite (.answered _ (.ofLength 8 .showLock)) <| .ite (.answered _ (.ofLength 8 .showUnlock)) <| .ite .bypass <|
  .ite .resume <| .ite .restart <| .answered _ (.refuse _)

theorem takeCmd_rule (src : Node) (p : List Byte) : HandRule (takeCmd src p) :=
  match p with
  | [] => .none
  | [_] => .none
  | code :: _ :: params => .cmd (handler_rule code) _ params

theorem takeMeter_rule (src : Node) (p : List Byte) : HandRule (takeMeter src p) := by
  cases p with
  | nil => exact .none
  | cons form fields =>
    have byForm : takeMeter src (form :: fields) =
        if form = 0 then takeLinkMeter src fields else if form = 1 then takeProbeMeter src fields else id := by
      funext s
      simp only [takeMeter]
      split_ifs <;> rfl
    rw [byForm]
    exact .ite (.linkMeter src fields) (.ite (.probeMeter src fields) .none)

theorem deliver_rule (f : Frame) : HandRule (deliver f) := by
  have byKind : deliver f = if f.kind = Kind.cmd then takeCmd f.src f.payload else if f.kind = Kind.voice then
      takeVoice f.src f.payload else if f.kind = Kind.meter then takeMeter f.src f.payload else if f.kind = Kind.tuned then
      takeTuned f.src f.payload else if f.kind = Kind.tally then takeTally f.src f.payload else if f.kind = Kind.cycle then
      takeCycle f.payload else id := by
    funext s
    unfold deliver
    split_ifs <;> rfl
  rw [byKind]
  exact .ite (takeCmd_rule _ _) <| .ite (.voice _ _) <| .ite (takeMeter_rule _ _) <| .ite (.tuned _ _) <|
    .ite (.tally _ _) <| .ite (.cycle _) .none

/-! ## Every command comes to one of these -/

section
variable (s : State)

theorem receiveBytes_comes (raw : List Byte) : ComesTo s (receiveBytes raw s) := by
  unfold receiveBytes
  cases parseFrame raw with
  | none => exact .receive raw _ .none
  | some f => exact .receive raw _ (deliver_rule f)

theorem receiveCmd_comes (h : CmdHead) (code : Byte) (params : List Byte) {f : Handler} (rule : TakingRule f) :
    ComesTo s (receiveCmd h code params f s) := .receive _ _ (.cmd rule _ params)

theorem receiveWrite_comes (h : CmdHead) (table : Byte) (n : Nat) {f : Write} (rule : WriteRule f) (index : Half)
    (record : List Byte) : ComesTo s (receiveWrite h table n f index record s) :=
  receiveCmd_comes s h _ _ (.answered _ (.write n rule _ _))

theorem exec_comes (c : Instr) : ∃ t, exec c s = .next t ∧ ComesTo s t := by
  cases c with
  | resetNLow => exact ⟨_, rfl, .resetLow⟩
  | coldReset straps => exact ⟨_, rfl, .coldStart straps⟩
  | ringInFrame raw => exact ⟨_, rfl, receiveBytes_comes s raw⟩
  | fillSlot => exact ⟨_, rfl, .event .fillSlot⟩
  | queueSpaceEvent => exact ⟨_, rfl, .event .queueSpaceEvent⟩
  | lampFrameBuild => exact ⟨_, rfl, .event .offerLamp⟩
  | bypassEntry => exact ⟨_, rfl, .event .enterBypass⟩
  | tally h p => exact ⟨_, rfl, .receive _ _ (.tally h.src p)⟩
  | cycle h p => exact ⟨_, rfl, .receive _ _ (.cycle p)⟩
  | voice h p => exact ⟨_, rfl, .receive _ _ (.voice h.src p)⟩
  | meterLinkForm h p => exact ⟨_, rfl, .receive _ _ (.linkMeter h.src p)⟩
  | meterProbeForm h p => exact ⟨_, rfl, .receive _ _ (.probeMeter h.src p)⟩
  | tuned h p => exact ⟨_, rfl, .receive _ _ (.tuned h.src p)⟩
  | tuneTimerExpiry => exact ⟨_, rfl, .event .tuneExpiry⟩
  | meterSilenceExpiry k => exact ⟨_, rfl, .event (.silenceExpiry k)⟩
  | switcherSilenceExpiry i => exact ⟨_, rfl, .event (.slotSilence i)⟩
  | switcherHoldExpiry i => exact ⟨_, rfl, .event (.slotHold i)⟩
  | probeTimeout => exact ⟨_, rfl, .event .probeTimeout⟩
  | lampRefreshExpiry => exact ⟨_, rfl, .event .refreshExpiry⟩
  | sweepIntervalExpiry => exact ⟨_, rfl, .event .intervalExpiry⟩
  | checkCompletion => exact ⟨_, rfl, .event (.completeCheck _)⟩
  | searchCompletion => exact ⟨_, rfl, .event (.completeSearch _)⟩
  | auditCompletion => exact ⟨_, rfl, .event (.completeAudit _)⟩
  | refillCompletion => exact ⟨_, rfl, .event (.completeRefill _)⟩
  | signatureCompletion => exact ⟨_, rfl, .event (.completeSignature _)⟩
  | identify h p => exact ⟨_, rfl, receiveCmd_comes s h _ p (.answered _ (.ofLength 0 .identify))⟩
  | status h p => exact ⟨_, rfl, receiveCmd_comes s h _ p (.answered _ (.ofLength 0 .status))⟩
  | read h p => exact ⟨_, rfl, receiveCmd_comes s h _ p (.answered _ (.ofLength 4 .read))⟩
  | writeBand h i r => exact ⟨_, rfl, receiveWrite_comes s h _ 18 .band i r⟩
  | writeLink h i r => exact ⟨_, rfl, receiveWrite_comes s h _ 22 .link i r⟩
  | writeWindow h i r => exact ⟨_, rfl, receiveWrite_comes s h _ 6 .window i r⟩
  | writeSwitcher h i r => exact ⟨_, rfl, receiveWrite_comes s h _ 27 .switcher i r⟩
  | writeSourcemap h i r => exact ⟨_, rfl, receiveWrite_comes s h _ 64 .sourcemap i r⟩
  | writePalette h i r => exact ⟨_, rfl, receiveWrite_comes s h _ 4 .palette i r⟩
  | writeCondition h i r => exact ⟨_, rfl, receiveWrite_comes s h _ 2 .condition i r⟩
  | writeTalksrc h i r => exact ⟨_, rfl, receiveWrite_comes s h _ 3 .talksrc i r⟩
  | writeDest h i r => exact ⟨_, rfl, receiveWrite_comes s h _ 6 .dest i r⟩
  | writeXpoint h i r => exact ⟨_, rfl, receiveWrite_comes s h _ 64 .xpoint i r⟩
  | writeSettings h i r => exact ⟨_, rfl, receiveWrite_comes s h _ 12 .settings i r⟩
  | check h p => exact ⟨_, rfl, receiveCmd_comes s h _ p (.planner .check 6)⟩
  | audit h p => exact ⟨_, rfl, receiveCmd_comes s h _ p (.planner .audit 1)⟩
  | refill h p => exact ⟨_, rfl, receiveCmd_comes s h _ p (.planner .refill 1)⟩
  | signature h p => exact ⟨_, rfl, receiveCmd_comes s h _ p (.planner .signature 0)⟩
  | readLog h p => exact ⟨_, rfl, receiveCmd_comes s h _ p (.answered _ (.ofLength 0 .readLog))⟩
  | moveLink h p => exact ⟨_, rfl, receiveCmd_comes s h _ p (.answered _ (.ofLength 4 .moveLink))⟩
  | releaseLink h p => exact ⟨_, rfl, receiveCmd_comes s h _ p (.answered _ (.ofLength 2 .releaseLink))⟩
  | cancelMove h p => exact ⟨_, rfl, receiveCmd_comes s h _ p (.answered _ (.ofLength 1 .cancelMove))⟩
  | sweepGo h p => exact ⟨_, rfl, receiveCmd_comes s h _ p (.answered _ .sweepGo)⟩
  | sweepStop h p => exact ⟨_, rfl, receiveCmd_comes s h _ p (.answered _ (.ofLength 0 .sweepStop))⟩
  | lampTest h p => exact ⟨_, rfl, receiveCmd_comes s h _ p (.answered _ (.ofLength 1 .lampTest))⟩
  | showLock h p => exact ⟨_, rfl, receiveCmd_comes s h _ p (.answered _ (.ofLength 8 .showLock))⟩
  | showUnlock h p => exact ⟨_, rfl, receiveCmd_comes s h _ p (.answered _ (.ofLength 8 .showUnlock))⟩
  | bypass h p => exact ⟨_, rfl, receiveCmd_comes s h _ p .bypass⟩
  | resume h p => exact ⟨_, rfl, receiveCmd_comes s h _ p .resume⟩
  | restart h p => exact ⟨_, rfl, receiveCmd_comes s h _ p .restart⟩
  | unknownRequest h code p => exact ⟨_, rfl, receiveCmd_comes s h _ p (.answered _ (.refuse _))⟩
  | powerLoss => exact ⟨_, rfl, .losePower⟩
  | searchEntryVerdict => exact ⟨_, rfl, .event (.searchEntry _)⟩
  | conflictLogged => exact ⟨_, rfl, .event (.logConflict _)⟩

end

/-! ## What a WRITE leaves (R180) -/

/-- A write refused leaves the state; a write taken leaves what its table's rule says. -/
inductive Written (s : State) : State → Prop
  | refused : Written s s
  | band (b : BandId) (e : BandEntry) : Written s (takeBand b e s)
  | link (k : LinkId) (c : LinkCfg) : Written s (takeLink k c s)
  | window (w : Fin 8) (e : Window) : Written s (s.onPlan fun p => { p with windows := wr p.windows w e }).advanceGen
  | slot (i : SlotId) (f : Slot → Slot) {u : State} (noted : Inner (onSlot i f s) u)
      (beside : Aside (onSlot i f s) u) : Written s (remerge u)
  | lamp (f : Lmp → Lmp) : Written s (lampPendAll (s.onLmp f))
  | talk (f : Tbm → Tbm) (dests : (f s.tbm).dests = s.tbm.dests) : Written s (s.onTbm f)
  | dest (d : DestId) (e : Dest) (f : Tbm → Tbm) (dests : (f s.tbm).dests = wr s.tbm.dests d e) (changed : DestId → Bool)
      (drops : Bool) (relinked : (rd s.tbm.dests d).link ≠ e.link → drops = true) :
      Written s (if drops then withdrawMix d (callReport changed (s.onTbm f)) else callReport changed (s.onTbm f))
  | settings (x : Settings) : Written s (takeSettings x s)

theorem Written.accepts_talk {s : State} {f : Tbm → Tbm} (dests : (f s.tbm).dests = s.tbm.dests) :
    Written s (accept (s.onTbm f)).state := .talk f dests

theorem switcherNote_inner (i : SlotId) (node : Node) (before after : SlotState) (s : State) :
    Inner s (switcherNote i node before after s) := by
  unfold switcherNote
  split
  · exact note_inner _ _ _
  · exact Inner.refl s

theorem switcherNote_aside (i : SlotId) (node : Node) (before after : SlotState) (s : State) :
    Aside s (switcherNote i node before after s) := .ite (note_aside _ _ _) (.refl s)

section
variable (index : Nat) (record : List Byte) (s : State)

theorem writeBand_written : Written s (writeBand index record s).state := by
  unfold writeBand
  repeat' split
  all_goals first | exact .refused | exact .band _ _

theorem writeLink_written : Written s (writeLink index record s).state := by
  unfold writeLink
  simp only
  repeat' split
  all_goals first | exact .refused | exact .link _ _

theorem writeWindow_written : Written s (writeWindow index record s).state := by
  unfold writeWindow
  repeat' split
  all_goals first | exact .refused | exact .window _ _

theorem writeSwitcher_written : Written s (writeSwitcher index record s).state := by
  unfold writeSwitcher
  simp only
  repeat' split
  all_goals first
    | exact .refused
    | exact .slot _ _ (switcherNote_inner _ _ _ _ _) (switcherNote_aside _ _ _ _ _)
    | exact .slot _ _ (Inner.refl _) (.refl _)

theorem writeSourcemap_written : Written s (writeSourcemap index record s).state := by
  unfold writeSourcemap
  repeat' split
  all_goals first | exact .refused | exact .slot _ _ (Inner.refl _) (.refl _)

theorem writePalette_written : Written s (writePalette index record s).state := by
  unfold writePalette
  repeat' split
  all_goals first | exact .refused | exact .lamp _

theorem writeCondition_written : Written s (writeCondition index record s).state := by
  unfold writeCondition
  repeat' split
  all_goals first | exact .refused | exact .lamp _

theorem writeTalkSource_written : Written s (writeTalkSource index record s).state := by
  unfold writeTalkSource
  simp only
  repeat' split
  all_goals first | exact .refused | exact .accepts_talk rfl

theorem writeDest_written : Written s (writeDest index record s).state := by
  unfold writeDest
  split
  · exact .refused
  · next d _ =>
    split
    · exact .refused
    · next e _ =>
      simp only
      split
      · exact .refused
      · exact .dest d e _ rfl _ _ fun relinked => by simp [relinked]

theorem writeXpoint_written : Written s (writeXpoint index record s).state := by
  unfold writeXpoint
  repeat' split
  all_goals first | exact .refused | exact .accepts_talk rfl

theorem writeSettings_written : Written s (writeSettings index record s).state := by
  unfold writeSettings
  repeat' split
  all_goals first | exact .refused | exact .settings _

theorem WriteRule.written {f : Write} (rule : WriteRule f) : Written s (f index record s).state := by
  cases rule with
  | band => exact writeBand_written index record s
  | link => exact writeLink_written index record s
  | window => exact writeWindow_written index record s
  | switcher => exact writeSwitcher_written index record s
  | sourcemap => exact writeSourcemap_written index record s
  | palette => exact writePalette_written index record s
  | condition => exact writeCondition_written index record s
  | talksrc => exact writeTalkSource_written index record s
  | dest => exact writeDest_written index record s
  | xpoint => exact writeXpoint_written index record s
  | settings => exact writeSettings_written index record s

theorem ofRecord_written (n : Nat) {f : Write} (rule : WriteRule f) : Written s (ofRecord n f index record s).state := by
  unfold ofRecord
  split
  · exact rule.written index record s
  · exact .refused

theorem writeRequest_written (params : List Byte) : Written s (writeRequest params s).state := by
  unfold writeRequest
  split
  · split
    · next write =>
      obtain ⟨n, g, rule, rfl⟩ := tableWrite_rule write
      exact ofRecord_written _ _ s n rule
    · exact .refused
  · exact .refused

end

/-! ## What an answered request leaves (R175) -/

/-- The state that an answered request leaves: that of a write, of inner work, or of one of the requests with effects of their
own. -/
inductive Answered (s : State) : State → Prop
  | written {t : State} (write : Written s t) : Answered s t
  | inner {t : State} (work : Inner s t) : Answered s t
  | status : Answered s ((s.onRif fun r => { r with notesLost := false }).useFree 1)
  | read : Answered s (s.useFree 30)
  | lock (f : Mgr → Mgr) (hold : (f s.mgr).hold = s.mgr.hold) : Answered s (s.onMgr f)

theorem Answered.accepts_lock {s : State} {f : Mgr → Mgr} (hold : (f s.mgr).hold = s.mgr.hold) :
    Answered s (accept (s.onMgr f)).state := .lock f hold

theorem sweepGo_inner (params : List Byte) (s : State) : Inner s (sweepGoRequest params s).state := by
  unfold sweepGoRequest sweepGo
  simp only
  repeat' split
  all_goals first
    | exact Inner.refl s
    | exact (Inner.onSwp _).trans (sweepTrigger_inner _)
    | exact sweepTrigger_inner s

theorem showLock_answered (params : List Byte) (s : State) : Answered s (showLockRequest params s).state := by
  unfold showLockRequest
  split
  · exact .inner (Inner.refl s)
  · exact .accepts_lock rfl

theorem showUnlock_answered (params : List Byte) (s : State) : Answered s (showUnlockRequest params s).state := by
  unfold showUnlockRequest
  split
  · split
    · exact .accepts_lock rfl
    · exact .inner (Inner.refl s)
  · exact .inner (Inner.refl s)

theorem read_answered (params : List Byte) (s : State) : Answered s (readRequest params s).state := by
  unfold readRequest
  simp only
  split
  · exact .inner (Inner.refl s)
  · split
    · exact .inner (Inner.refl s)
    · exact .read

theorem lampTest_answered (params : List Byte) (s : State) : Answered s (lampTest params s).state := by
  unfold lampTest
  split
  · exact .inner (Inner.refl s)
  · exact .written (.lamp _)

theorem RequestRule.answered {f : Request} (rule : RequestRule f) (params : List Byte) (s : State) :
    Answered s (f params s).state := by
  induction rule with
  | refuse st => exact .inner (Inner.refl s)
  | ofLength n _ ih =>
    unfold Machine.ofLength
    split
    · exact ih
    · exact .inner (Inner.refl s)
  | identify => exact .inner (Inner.refl s)
  | status => exact .status
  | read => exact read_answered params s
  | readLog => exact .inner (Inner.refl s)
  | moveLink => exact .inner (moveLink_inner params s)
  | releaseLink => exact .inner (releaseLink_inner params s)
  | cancelMove => exact .inner (cancelMove_inner params s)
  | sweepGo => exact .inner (sweepGo_inner params s)
  | sweepStop => exact .inner (sweepHalt_inner s)
  | lampTest => exact lampTest_answered params s
  | showLock => exact showLock_answered params s
  | showUnlock => exact showUnlock_answered params s
  | write n rule index record => exact .written (ofRecord_written index record s n rule)
  | writeRequest => exact .written (writeRequest_written s params)

/-! ## The waiting queue stays (spec/95) -/

theorem remerge_pending (s : State) : (remerge s).pending = s.pending :=
  ((lampPendWhere_inner _ _).trans (rteTally_inner _ _ _)).pending

theorem takeBand_pending (b : BandId) (e : BandEntry) (s : State) : (takeBand b e s).pending = s.pending := by
  unfold takeBand
  extract_lets old s1 s2
  have cells : s2.pending = s.pending := by
    unfold s2
    split
    · exact (remarkCells_inner _ _ _).pending
    · rfl
  split
  · exact (emptySpares_inner _ _).pending.trans cells
  · exact cells

theorem dropWant_inner (k : LinkId) (s : State) : Inner s (dropWant k s) := by
  unfold dropWant
  split
  · exact setWant_inner _ _ _
  · exact Inner.refl s

/-- Once the new record stands, a taken link write does inner work and sets the lamp's flags and debts (R9, R10, R138). -/
theorem takeLink_from (k : LinkId) (c : LinkCfg) (s : State) :
    ∃ u, Inner (s.onLink k fun l => { l with
        cfg := c, carrier := if (s.link k).stands && (s.link k).cfg.inUse && !c.inUse then l.carrier.retired else l.carrier }) u
      ∧ takeLink k c s = lampLinkWrite k (s.link k).cfg c u := by
  unfold takeLink
  extract_lets l retire s1 s2 s3 s4 s5
  have advanced : Inner s1 s2 := by
    unfold s2
    split
    · exact Inner.advanceGen
    · exact Inner.refl _
  have marked : Inner s2 s3 := by
    unfold s3
    split
    · exact ownRecomputeLink_inner _ _ _
    · exact Inner.refl _
  have unwanted : Inner s3 s4 := by
    unfold s4
    split
    · exact dropWant_inner _ _
    · exact Inner.refl _
  have retired : Inner s4 s5 := by
    unfold s5
    split
    · exact (healthNone_inner _ _).trans (mixReport_inner _ _)
    · exact Inner.refl _
  exact ⟨s5, ((advanced.trans marked).trans unwanted).trans retired, rfl⟩

theorem takeSettings_pending (x : Settings) (s : State) : (takeSettings x s).pending = s.pending := by
  unfold takeSettings
  simp only
  split <;> split <;> rfl

theorem Written.pending {s t : State} (write : Written s t) : t.pending = s.pending := by
  cases write with
  | refused => rfl
  | band b e => exact takeBand_pending b e s
  | link k c =>
    obtain ⟨u, work, taken⟩ := takeLink_from k c s
    rw [taken]
    exact work.pending
  | window w e => rfl
  | slot i f noted => exact (remerge_pending _).trans noted.pending
  | lamp f => rfl
  | talk f => rfl
  | dest d e f dests changed drops =>
    split <;> rfl
  | settings x => exact takeSettings_pending x s

theorem Answered.pending {s t : State} (answer : Answered s t) : t.pending = s.pending := by
  cases answer with
  | written write => exact write.pending
  | inner work => exact work.pending
  | status => rfl
  | read => rfl
  | lock f => rfl

/-- What the LMP's offer can change: the Ring Interface, with the Voice Queue as it stands, and the Lamp Driver (R140). -/
theorem offerLamp_changes (s : State) : ∃ r l, offerLamp s = { s with rif := r, lmp := l } ∧ r.voiceQ = s.rif.voiceQ := by
  unfold offerLamp
  split
  · split
    · exact ⟨s.rif, s.lmp, rfl, rfl⟩
    · simp only
      split
      · next admitted => exact ⟨_, _, rfl, admitted_voiceQ admitted⟩
      · exact ⟨s.rif, s.lmp, rfl, rfl⟩
  · exact ⟨s.rif, s.lmp, rfl, rfl⟩

/-- A queue-space event serves one producer: the LMP, or the inner work of another (R170). -/
theorem queueSpace_serves (s : State) : queueSpace s = offerLamp s ∨ Inner s (queueSpace s) := by
  unfold queueSpace
  split
  · split
    · exact .inr ((Inner.onRte _ id).trans (offerTunes_inner _ _))
    · split
      · exact .inl rfl
      · split
        · exact .inr (offerProbe_inner _ _)
        · split
          · next hold =>
            refine .inr ((Inner.onMgr _ rfl fun c => ?_).trans (offerRsp_inner _ _))
            rw [hold] at c
            exact (Nat.le_succ _).trans c
          · split
            · exact .inr (offerReport_inner keepProbe_inner _ _)
            · exact .inr (Inner.refl s)
  · exact .inr (Inner.refl s)

section
variable (s : State)

theorem answerCmd_pending (f : Frame) (resume : Bool) : (answerCmd f resume s).pending = s.pending := by
  unfold answerCmd
  split
  · rfl
  · exact (offerRsp_inner _ _).pending

theorem resumeNormal_pending : (resumeNormal s).pending = s.pending := by
  have blocks : (resumeBlocks s).pending = s.pending := (rteSettle_inner _).pending.trans (plannerResume_inner _).pending
  exact (sendBypassed_inner _ _).pending.trans blocks

theorem restartBlocks_pending : (restartBlocks s).pending = s.pending := by
  have emptied : (plannerRestart (abandonOrders (sweepHalt (clearHold (s.onRif Rif.restarted))))).pending = s.pending :=
    ((sweepHalt_inner _).trans (abandonOrders_inner _)).pending
  have swept (u : State) : (ownRecomputeAll (sweepReset u)).pending = u.pending :=
    ((sweepReset_inner u).trans (ownRecomputeAll_inner _)).pending
  have restarted (u : State) : (lampRestart (talkbackSilence (tallyRestart (monitorRestart u)))).pending = u.pending := rfl
  unfold restartBlocks
  rw [(rteSettle_inner _).pending, restarted, swept, emptied]

theorem releaseKept_pending (l : List KeptRsp) : (releaseKept l s).pending = s.pending := by
  induction l generalizing s with
  | nil => rfl
  | cons k rest ih =>
    rw [releaseKept, ih, (offerRsp_inner _ _).pending]
    split
    · exact resumeNormal_pending s
    · rfl

theorem queueSpaceEvent_pending : (queueSpaceEvent s).pending = s.pending := by
  have serves (u : State) : (queueSpace u).pending = u.pending := by
    rcases queueSpace_serves u with lamp | work
    · obtain ⟨r, l, changed, -⟩ := offerLamp_changes u
      rw [lamp, changed]
    · exact work.pending
  rcases queueSpaceEvent_cases s with ⟨-, same⟩ | ⟨-, served⟩
  · rw [same]
  · rw [served, serves]
    rfl

theorem enterBypass_pending : (enterBypass s).pending = s.pending := by
  unfold enterBypass
  split
  · exact (releaseKept_pending _ _).trans (bypassBlocks_enters _).pending
  · rfl

theorem fillSlot_pending : (fillSlot s).pending = s.pending := by
  have control (u : State) : (controlTurn u).pending = u.pending := by
    rcases controlTurn_cases u with ⟨q, -, sent⟩ | ⟨-, fill⟩
    · rw [sent]
      rfl
    · rw [fill]
      rfl
  unfold fillSlot
  split
  · rfl
  · split
    · exact enterBypass_pending s
    · unfold Machine.arbiterTurn
      split
      · rfl
      · exact (control _).trans (queueSpaceEvent_pending s)

end

theorem TakingRule.pending {f : Handler} (rule : TakingRule f) (a : Asker) (p : List Byte) (s : State) :
    (f a p s).pending = s.pending := by
  cases rule with
  | answered code rule => exact (answerCmd_pending _ _ _).trans (rule.answered p s).pending
  | planner kind n =>
    unfold askPlanner
    split
    · split
      · next requested => exact (requestMgr_inner requested).pending
      · exact answerCmd_pending _ _ _
    · exact answerCmd_pending _ _ _
  | bypass =>
    unfold takeBypass
    split
    · rfl
    · exact answerCmd_pending _ _ _
  | resume =>
    unfold takeResume
    split
    · exact answerCmd_pending _ _ _
    · split
      · exact answerCmd_pending _ _ _
      · refine (answerCmd_pending _ _ _).trans ?_
        split
        · exact resumeNormal_pending s
        · rfl
  | restart =>
    unfold takeRestart
    split
    · exact answerCmd_pending _ _ _
    · split
      · exact answerCmd_pending _ _ _
      · exact (answerCmd_pending _ _ _).trans ((sendBypassed_inner _ _).pending.trans (restartBlocks_pending s))

/-- What TALLY, CYCLE and VOICE frames leave: inner work but for the slot, the epoch or the buffer (R122, R147, R148). -/
theorem takeTally_pending (src : Node) (p : List Byte) (s : State) : (takeTally src p s).pending = s.pending := by
  unfold takeTally
  split
  · exact (remerge_pending _).trans (switcherNote_inner _ _ _ _ _).pending
  · rfl

theorem takeCycle_pending (p : List Byte) (s : State) : (takeCycle p s).pending = s.pending := by
  unfold takeCycle
  split <;> rfl

theorem takeVoice_pending (src : Node) (p : List Byte) (s : State) : (takeVoice src p s).pending = s.pending := by
  unfold takeVoice
  split
  · split
    · rfl
    · split <;> rfl
  · rfl

theorem HandRule.pending {f : State → State} (rule : HandRule f) (s : State) : (f s).pending = s.pending := by
  cases rule with
  | none => rfl
  | tally src p => exact takeTally_pending src p s
  | cycle p => exact takeCycle_pending p s
  | voice src p => exact takeVoice_pending src p s
  | linkMeter src p => exact (takeLinkMeter_inner src p s).pending
  | probeMeter src p => exact (takeProbeMeter_inner src p s).pending
  | tuned src p => exact (takeTuned_inner src p s).pending
  | cmd rule a p =>
    unfold manage
    split
    · rfl
    · exact rule.pending a p s

theorem slotSilence_pending (i : SlotId) (s : State) : (slotSilence i s).pending = s.pending := by
  have noted (node : Node) (a b : SlotState) (u : State) := (switcherNote_inner i node a b u).pending
  unfold slotSilence
  simp only
  split
  · rfl
  · split
    · exact (remerge_pending _).trans (noted _ _ _ _)
    · exact noted _ _ _ _

theorem slotHold_pending (i : SlotId) (s : State) : (slotHold i s).pending = s.pending := by
  unfold slotHold
  simp only
  split
  · rfl
  · exact (remerge_pending _).trans (switcherNote_inner _ _ _ _ _).pending

/-- An event of the planner is its completion's inner work, or nothing. -/
theorem whileRunning_inner {f : ActiveOp → State → State} (work : ∀ op s, Inner s (f op s)) (kinds : OpKind → Bool) (s : State) :
    Inner s (whileRunning kinds f s) := by
  unfold whileRunning
  split
  · split
    · exact work _ _
    · exact Inner.refl s
  · exact Inner.refl s

theorem PartEvent.pending {f : State → State} (rule : PartEvent f) (s : State) : (f s).pending = s.pending := by
  cases rule with
  | fillSlot => exact fillSlot_pending s
  | queueSpaceEvent => exact queueSpaceEvent_pending s
  | offerLamp =>
    obtain ⟨r, l, changed, -⟩ := offerLamp_changes s
    rw [changed]
  | enterBypass => exact enterBypass_pending s
  | tuneExpiry => exact (tuneExpiry_inner s).pending
  | silenceExpiry k => exact (silenceExpiry_inner k s).pending
  | slotSilence i => exact slotSilence_pending i s
  | slotHold i => exact slotHold_pending i s
  | probeTimeout => exact (probeTimeout_inner s).pending
  | refreshExpiry =>
    unfold Machine.refreshExpiry
    split <;> rfl
  | intervalExpiry => exact (intervalExpiry_inner s).pending
  | completeCheck kinds => exact (whileRunning_inner completeCheck_inner kinds s).pending
  | completeSearch kinds => exact (whileRunning_inner (fun _ => completeSearch_inner) kinds s).pending
  | completeAudit kinds => exact (whileRunning_inner completeAudit_inner kinds s).pending
  | completeRefill kinds => exact (whileRunning_inner completeRefill_inner kinds s).pending
  | completeSignature kinds => exact (whileRunning_inner completeSignature_inner kinds s).pending
  | searchEntry kinds => exact (whileRunning_inner (fun _ => searchEntry_inner) kinds s).pending
  | logConflict kinds => exact (whileRunning_inner logConflict_inner kinds s).pending

theorem ComesTo.pending {s t : State} (comes : ComesTo s t) : t.pending = s.pending := by
  cases comes with
  | resetLow => rfl
  | losePower => rfl
  | coldStart straps => rfl
  | event rule =>
    unfold Machine.event
    split
    · exact rule.pending _
    · rfl
  | receive raw parsed rule =>
    unfold Machine.receive
    split
    · split
      · rfl
      · simp only
        split
        · exact rule.pending _
        · rfl
    · rfl

/-- Settles O2. -/
theorem everyCommandCompletes : Obligations.EveryCommandCompletes := by
  intro c s
  obtain ⟨t, leaves, comes⟩ := exec_comes s c
  exact ⟨t, leaves, comes.pending⟩

/-- Settles O1: the two branches of the step. -/
theorem stepRunsFrontCommand : Obligations.StepRunsFrontCommand := by
  refine ⟨fun c rest s front => ?_, fun s empty => ?_⟩
  · rw [step, front]
  · rw [step, empty]

end Sys2Proof.Machine
end

section
/-! Proofs of the family of talkback mixing: no step leaves a MIX frame waiting for a destination whose link holds it
(R98, R153, R156). -/

namespace Sys2Proof.Machine

/-! ## What keeps the held destinations without MIX frames -/

/-- From `s` to `t` the destinations stand, no MIX frame came, and a link that holds only in `t`, but for the link `x` whose
report is still to come, has no MIX frame waiting (R153). -/
structure MixKept (x : Option LinkId) (s t : State) : Prop where
  dests : t.tbm.dests = s.tbm.dests
  voice : ∀ d, rd s.rif.voiceQ d = none → rd t.rif.voiceQ d = none
  held : ∀ k, x ≠ some k → (t.link k).carrier.holds = true →
    (s.link k).carrier.holds = true ∨ ∀ d, (rd s.tbm.dests d).link = some k → rd t.rif.voiceQ d = none

namespace MixKept

variable {x : Option LinkId} {s t u : State}

theorem noHeldMix (h : MixKept none s t) (kept : s.noHeldMix) : t.noHeldMix := by
  intro d k link holds
  rw [h.dests] at link
  rcases h.held k nofun holds with held | empty
  · exact h.voice d (kept d k link held)
  · exact empty d link

theorem refl (s : State) : MixKept x s s := ⟨rfl, fun _ h => h, fun _ _ h => .inl h⟩

theorem trans (a : MixKept x s t) (b : MixKept x t u) : MixKept x s u where
  dests := b.dests.trans a.dests
  voice d h := b.voice d (a.voice d h)
  held k other holds := by
    rcases b.held k other holds with held | empty
    · exact (a.held k other held).imp id fun empty d link => b.voice d (empty d link)
    · exact .inr fun d link => empty d (by rw [a.dests]; exact link)

theorem weaken (h : MixKept none s t) : MixKept x s t := ⟨h.dests, h.voice, fun k _ => h.held k nofun⟩

theorem ite {c : Prop} [Decidable c] (yes : MixKept x s t) (no : MixKept x s u) : MixKept x s (if c then t else u) := by
  split
  · exact yes
  · exact no

/-- The carriers, the destinations and the Voice Queue stand. -/
theorem of_same (dests : t.tbm.dests = s.tbm.dests) (voiceQ : t.rif.voiceQ = s.rif.voiceQ)
    (carrier : ∀ k, (t.link k).carrier = (s.link k).carrier) : MixKept x s t :=
  ⟨dests, fun d h => by rw [voiceQ]; exact h, fun k _ h => .inl (by rw [← carrier]; exact h)⟩

theorem of_aside (aside : Aside s t) (work : Inner s t) : MixKept x s t :=
  of_same (by rw [work.tbm]) aside.voiceQ fun k => by rw [aside.link]

theorem onRte (f : Rte → Rte) : MixKept x s (s.onRte f) := of_same rfl rfl fun _ => rfl
theorem onCpl (f : Cpl → Cpl) : MixKept x s (s.onCpl f) := of_same rfl rfl fun _ => rfl
theorem onSwp (f : Swp → Swp) : MixKept x s (s.onSwp f) := of_same rfl rfl fun _ => rfl
theorem onLmn (f : Lmn → Lmn) : MixKept x s (s.onLmn f) := of_same rfl rfl fun _ => rfl
theorem onLmp (f : Lmp → Lmp) : MixKept x s (s.onLmp f) := of_same rfl rfl fun _ => rfl
theorem onMgr (f : Mgr → Mgr) : MixKept x s (s.onMgr f) := of_same rfl rfl fun _ => rfl
theorem setOut (o : RingOut) : MixKept x s (s.setOut o) := of_same rfl rfl fun _ => rfl
theorem advanceGen : MixKept x s s.advanceGen := of_same rfl rfl fun _ => rfl

theorem onHealth (k : LinkId) (f : LinkHealth → LinkHealth) : MixKept x s (s.onHealth k f) :=
  of_same rfl rfl fun j => by
    rw [State.onHealth, link_onLink]
    split
    · next same => rw [same]
    · rfl

/-- A link's carrier fields change, and its report is still to come. -/
theorem onCarrier (k : LinkId) (f : LinkCarrier → LinkCarrier) : MixKept (some k) s (s.onCarrier k f) :=
  ⟨rfl, fun _ h => h, fun j other holds => .inl (by
    rwa [State.onCarrier, link_onLink_ne _ _ _ _ fun same => other (congrArg some same)] at holds)⟩

/-- The report of a link withdraws what waits for the destinations it holds (R153). -/
theorem reported {k : LinkId} (h : MixKept (some k) s t) : MixKept none s (mixReport k t) := by
  have links (j : LinkId) : (mixReport k t).link j = t.link j := link_of_ledger (mixReport_ledger t k) j
  have voice (d : DestId) (empty : rd t.rif.voiceQ d = none) : rd (mixReport k t).rif.voiceQ d = none :=
    (mixReport_remarked k t).voice d empty
  refine ⟨(congrArg Tbm.dests (mixReport_inner k t).tbm).trans h.dests, fun d empty => voice d (h.voice d empty), ?_⟩
  intro j _ holds
  rw [links] at holds
  by_cases same : k = j
  · subst same
    refine .inr fun d link => ?_
    rw [← h.dests] at link
    simp [mixReport, holds, link]
  · exact (h.held j (fun e => same (Option.some.inj e)) holds).imp id fun empty d link => voice d (empty d link)

theorem phaseReported {k : LinkId} (h : MixKept (some k) s t) : MixKept none s (phaseReport k t) := h.reported.trans (onLmp _)

theorem forEach {α : Type} (l : List α) {f : α → State → State} (step : ∀ a s, MixKept x s (f a s)) (s : State) :
    MixKept x s (forEach l f s) := by
  induction l generalizing s with
  | nil => exact refl s
  | cons a l ih => exact (step a s).trans (ih _)

end MixKept

section
variable {x : Option LinkId} (s : State)

theorem note_mixKept (kind : NoteKind) (fields : List Byte) : MixKept x s (note kind fields s) :=
  .of_aside (note_aside s kind fields) (note_inner kind fields s)

theorem admitted_mixKept {s : State} {r : Rif} {q : Queued} (admitted : s.rif.admitted q = some r) :
    MixKept x s (s.onRif fun _ => r) := .of_same rfl (admitted_voiceQ admitted) fun _ => rfl

theorem offerRsp_mixKept (f : Frame) : MixKept x s (offerRsp f s) := .of_aside (offerRsp_aside s f) (offerRsp_inner f s)

theorem answerCmd_mixKept (f : Frame) (resume : Bool) : MixKept x s (answerCmd f resume s) := by
  unfold answerCmd
  split
  · exact .of_same rfl rfl fun _ => rfl
  · exact offerRsp_mixKept s f

theorem requestRte_mixKept (r : RteRequest) : MixKept x s (requestRte r s) :=
  .of_aside (requestRte_aside s r) (requestRte_inner r s)

theorem arbiterNext_mixKept : MixKept x s (arbiterNext s) := .of_aside (arbiterNext_aside s) (arbiterNext_inner s)

theorem answerOp_mixKept (op : ActiveOp) (st : RspStatus) (results : List Byte) : MixKept x s (answerOp op st results s) :=
  .of_aside (answerOp_aside s op st results) (answerOp_inner op st results s)

theorem ownRecomputeLink_mixKept (k : LinkId) (spans : List Span) : MixKept x s (ownRecomputeLink k spans s) := by
  refine .of_same ?_ ((ownRecompute_aside s _ _).voiceQ.trans rfl) fun j => ?_
  · exact congrArg Tbm.dests (ownRecomputeLink_inner k spans s).tbm
  · rw [link_of_ledger (ownRecomputeLink_ledger s k spans)]

theorem setWant_mixKept (k : LinkId) (w : Option Reason) : MixKept x s (setWant k w s) := .onLmn _

theorem phaseReport_mixKept (k : LinkId) : MixKept none s (phaseReport k s) := (MixKept.refl s).phaseReported

theorem setPhase_mixKept (k : LinkId) (p : Phase) : MixKept none s (setPhase k p s) := (MixKept.onCarrier k _).phaseReported

theorem healthLamp_mixKept (k : LinkId) (old new : Health) : MixKept x s (healthLamp k old new s) := .ite (.onLmp _) (.refl s)

theorem healthDegrade_mixKept (k : LinkId) (old new : Health) : MixKept x s (healthDegrade k old new s) :=
  .of_aside (healthDegrade_aside s k old new) (healthDegrade_inner k old new s)

theorem healthCommit_mixKept (k : LinkId) : MixKept x s (healthCommit k s) :=
  ((MixKept.onHealth k _).trans (.onHealth k _)).trans (healthLamp_mixKept _ k _ _)

theorem healthNone_mixKept (k : LinkId) : MixKept x s (healthNone k s) :=
  ((MixKept.onHealth k _).trans (setWant_mixKept _ k none)).trans (healthLamp_mixKept _ k _ _)

theorem healthLost_mixKept (k : LinkId) : MixKept x s (healthLost k s) :=
  ((MixKept.onHealth k _).trans (healthDegrade_mixKept _ k _ _)).trans (healthLamp_mixKept _ k _ _)

/-! ## The Retune Engine (R98 to R116) -/

theorem offerTunes_mixKept (l : List HeldTune) : MixKept x s (offerTunes l s) := by
  induction l generalizing s with
  | nil => exact .refl s
  | cons h rest ih =>
    unfold offerTunes
    split
    · next admitted =>
      have accepted (u : State) : MixKept x u (tuneAccepted u) := .ite (.onRte _) (.refl u)
      exact (admitted_mixKept admitted).trans ((MixKept.ite (accepted _) (.refl _)).trans (ih _))
    · exact (MixKept.onRte _).trans (ih _)

theorem tuneBatch_mixKept (o : Order) (nodes : List Node) (channel : Nat) (awaited : Bool) :
    MixKept x s (tuneBatch o nodes channel awaited s) := (MixKept.onRte _).trans (offerTunes_mixKept _ _)

theorem launch_mixKept (o : Order) (c : Chosen) : MixKept none s (launch o c s) :=
  ((MixKept.onRte _).trans (setPhase_mixKept _ _ _)).trans
    ((MixKept.advanceGen.trans (ownRecomputeLink_mixKept _ _ _)).trans (tuneBatch_mixKept _ _ _ _ _))

theorem fillStaged_mixKept {s t : State} (filled : fillStaged s = some t) : MixKept none s t := by
  unfold fillStaged at filled
  split at filled
  · cases filled
    exact .onRte _
  · split at filled
    · cases filled
      exact ((setWant_mixKept _ _ _).trans (.onRte _)).trans (setPhase_mixKept _ _ _)
    · cases filled

theorem startOrder_mixKept (o : Order) : MixKept none s (startOrder o s) := by
  have enters : MixKept none s (s.onRte fun r => { r with staged := none, active := some { o with confirms := 0 } }) := .onRte _
  have checks (r : RteRequest) := enters.trans ((setPhase_mixKept _ o.link .checking).trans (requestRte_mixKept _ r))
  unfold startOrder
  dsimp only
  split
  · exact enters.trans (launch_mixKept _ _ _)
  · exact enters.trans (launch_mixKept _ _ _)
  · exact enters.trans (launch_mixKept _ _ _)
  · exact checks _
  · exact checks _

theorem rteSettle_mixKept : MixKept none s (rteSettle s) :=
  rteSettle_keeps (P := MixKept none s) (fun _ _ kept _ filled => kept.trans (fillStaged_mixKept filled))
    (fun _ o kept _ _ => kept.trans (startOrder_mixKept _ o))
    (fun _ _ kept _ _ => kept.trans ((MixKept.onRte _).trans (note_mixKept _ _ _))) (.refl s)

theorem leaveActive_mixKept (k : LinkId) : MixKept (some k) s (leaveActive k s) := (MixKept.onCarrier k _).trans (.onRte _)

theorem failOrder_mixKept (o : Order) (cause : Cause) (total : Nat) : MixKept none s (failOrder o cause total s) :=
  (leaveActive_mixKept s o.link).phaseReported.trans ((note_mixKept _ _ _).trans (rteSettle_mixKept _))

theorem commit_mixKept (o : Order) (c : Chosen) : MixKept none s (commit o c s) := by
  unfold commit
  extract_lets k old s1 s2 s3 s4 s5 s6
  have records : MixKept (some k) s s2 :=
    ((MixKept.onRte _).trans (.onCarrier k _)).trans ((leaveActive_mixKept _ k).trans .advanceGen)
  have planned : MixKept (some k) s2 s4 := (ownRecomputeLink_mixKept _ _ _).trans
    (.of_aside (planCommit_aside _ _ _) (planCommit_inner _ _ _))
  have graded : MixKept (some k) s4 s5 := by
    unfold s5
    split
    · exact healthCommit_mixKept _ k
    · exact healthNone_mixKept _ k
  have noted : MixKept (some k) s s6 := (records.trans planned).trans (graded.trans (note_mixKept _ _ _))
  exact noted.phaseReported.trans (rteSettle_mixKept _)

theorem loseCarrier_mixKept (o : Order) (cause : Cause) (spans : List Span) : MixKept none s (loseCarrier o cause spans s) := by
  unfold loseCarrier
  extract_lets k s1 s2 s3
  have lost : MixKept (some k) s s1 := ((MixKept.onCarrier k _).trans (leaveActive_mixKept _ k)).trans .advanceGen
  have marked : MixKept (some k) s1 (if spans.isEmpty then s1 else ownRecomputeLink k spans s1) :=
    .ite (.refl _) (ownRecomputeLink_mixKept _ _ _)
  have noted : MixKept (some k) s s3 :=
    (lost.trans marked).trans ((healthLost_mixKept _ k).trans (note_mixKept _ _ _))
  exact noted.phaseReported.trans (rteSettle_mixKept _)

theorem failRevert_mixKept (o : Order) : MixKept none s (failRevert o s) :=
  (MixKept.onRte _).trans (loseCarrier_mixKept _ _ _ _)

theorem endRevert_mixKept (o : Order) : MixKept none s (endRevert o s) := by
  have records : MixKept (some o.link) s (leaveActive o.link
      ((closeBatch s).onCarrier o.link fun c => { c with state := .committed })).advanceGen :=
    ((MixKept.onRte _).trans (.onCarrier _ _)).trans ((leaveActive_mixKept _ _).trans .advanceGen)
  unfold endRevert
  exact ((records.trans (ownRecomputeLink_mixKept _ _ _)).trans (note_mixKept _ _ _)).phaseReported.trans (rteSettle_mixKept _)

/-- A move that leaves TUNING: the link held its destinations already (R109). -/
theorem failTuning_mixKept {o : Order} (tuning : (s.link o.link).carrier.phase = .tuning) (cause : Cause) :
    MixKept none s (failTuning o cause s) := by
  have held : (s.link o.link).carrier.holds = true := by simp [LinkCarrier.holds, tuning]
  unfold failTuning
  extract_lets k s1 s2 nodes
  have left : MixKept none s s1 :=
    have changed : MixKept (some k) s s1 := (MixKept.onRte _).trans (.onCarrier k _)
    ⟨changed.dests, changed.voice, fun j _ holds => by
      by_cases same : k = j
      · exact .inl (same ▸ held)
      · exact changed.held j (fun e => same (Option.some.inj e)) holds⟩
  have marked : MixKept none s s2 := left.trans (MixKept.advanceGen.trans (ownRecomputeLink_mixKept _ _ _))
  split
  · exact marked.trans (loseCarrier_mixKept _ _ _ _)
  · split
    · exact marked.trans ((tuneBatch_mixKept _ _ _ _ _).trans (failOrder_mixKept _ _ _ _))
    · exact marked.trans ((phaseReport_mixKept _ _).trans (tuneBatch_mixKept _ _ _ _ _))

theorem tunedOk_mixKept (o : Order) (p : Phase) (src : Node) : MixKept none s (tunedOk o p src s) := by
  have marked : MixKept none s (s.onRte fun r => { r with active := some (o.mark src) }) := .onRte _
  unfold tunedOk
  simp only
  split
  · split
    · exact marked.trans (commit_mixKept _ _ _)
    · exact marked.trans (endRevert_mixKept _ _)
    · exact marked
  · exact marked

theorem tunedFail_mixKept (o : Order) : MixKept none s (tunedFail o (s.link o.link).carrier.phase s) := by
  unfold tunedFail
  split
  · next tuning => exact failTuning_mixKept s tuning _
  · exact failRevert_mixKept s o
  · exact .refl s

theorem takeTuned_mixKept (src : Node) (p : List Byte) : MixKept none s (takeTuned src p s) := by
  unfold takeTuned
  split
  · simp only
    exact .ite (.ite (tunedOk_mixKept _ _ _ _) (.ite (tunedFail_mixKept s _) (.refl s))) (.refl s)
  · exact .refl s

theorem tuneExpiry_mixKept : MixKept none s (tuneExpiry s) := by
  unfold tuneExpiry
  split
  · split
    · next tuning => exact failTuning_mixKept s tuning _
    · exact failRevert_mixKept s _
    · exact .refl s
  · exact .refl s

theorem resultForOrder_mixKept (o : Order) (res : PlannerResult) : MixKept none s (resultForOrder o res s) := by
  unfold resultForOrder
  split
  · exact failOrder_mixKept _ _ _ _
  · exact .ite (launch_mixKept _ _ _) (.ite ((MixKept.onRte _).trans (requestRte_mixKept _ _)) (failOrder_mixKept _ _ _ _))

theorem takeResult_mixKept (res : PlannerResult) : MixKept none s (takeResult res s) := by
  unfold takeResult
  refine .ite (.onRte _) ?_
  split
  · exact .ite (resultForOrder_mixKept _ _ _) (.refl s)
  · exact .refl s

theorem stageOrder_mixKept (o : Order) : MixKept none s (stageOrder o s) :=
  ((setWant_mixKept _ _ _).trans (.onRte _)).trans ((setPhase_mixKept _ _ _).trans (rteSettle_mixKept _))

theorem removeWaiting_mixKept (k : LinkId) : MixKept none s (removeWaiting k s) :=
  (MixKept.onRte _).trans (setPhase_mixKept _ _ _)

theorem withdrawRequest_mixKept : MixKept none s (withdrawRequest s) := by
  unfold withdrawRequest
  refine .ite (.onCpl _) ?_
  split
  · exact .ite (.onRte _) (.refl s)
  · exact .refl s

theorem withdrawRecovered_mixKept (k : LinkId) : MixKept none s (withdrawRecovered k s) := by
  unfold withdrawRecovered
  split
  · exact .ite ((removeWaiting_mixKept _ _).trans ((note_mixKept _ _ _).trans (rteSettle_mixKept _))) (.refl s)
  · exact .refl s

theorem enterWant_mixKept (k : LinkId) (r : Reason) : MixKept none s (enterWant k r s) :=
  (setWant_mixKept _ _ _).trans (rteSettle_mixKept _)

theorem moveLink_mixKept (p : List Byte) : MixKept none s (moveLink p s).state := by
  unfold moveLink
  simp only
  repeat' split
  all_goals first | exact .refl s | exact stageOrder_mixKept _ _

theorem releaseLink_mixKept (p : List Byte) : MixKept none s (releaseLink p s).state := by
  unfold releaseLink
  simp only
  repeat' split
  all_goals first | exact .refl s | exact stageOrder_mixKept _ _

theorem cancelMove_mixKept (p : List Byte) : MixKept none s (cancelMove p s).state := by
  have withdrawn (k : LinkId) : MixKept none s (rteSettle (withdrawRequest (phaseReport k (leaveActive k s)))) :=
    (leaveActive_mixKept s k).phaseReported.trans ((withdrawRequest_mixKept _).trans (rteSettle_mixKept _))
  unfold cancelMove
  repeat' split
  all_goals first
    | exact .refl s
    | exact withdrawn _
    | exact (removeWaiting_mixKept _ _).trans (rteSettle_mixKept _)

/-! ## Reports, probes and the planner's completions -/

theorem digest_mixKept (k : LinkId) (rep : Report) : MixKept none s (digest k rep s) := by
  have wants (h : LinkHealth) (g : Health) (u : State) : MixKept none u (reportWants k h g u) :=
    .ite (.ite ((setWant_mixKept _ _ _).trans (withdrawRecovered_mixKept _ _)) (.refl u)) (.ite (enterWant_mixKept _ _ _) (.refl u))
  have battery (b : Bool) (v : Option Nat) (u : State) : MixKept none u (batteryNote k b v u) := by
    unfold batteryNote
    split
    · exact .ite (note_mixKept _ _ _) (.refl u)
    · exact .refl u
  have noted (a b : Health) (u : State) : MixKept none u (healthNote k a b u) := .ite (note_mixKept _ _ _) (.refl u)
  unfold digest
  extract_lets l f graded grade s1 s2 s3 s4 s5
  have sent : MixKept none s s4 := (((MixKept.onHealth k _).trans (.onHealth k _)).trans (noted _ _ _)).trans
    ((battery _ _ _).trans (healthDegrade_mixKept _ _ _ _))
  exact (sent.trans (.ite (wants _ _ _) (.refl _))).trans (healthLamp_mixKept _ _ _ _)

theorem takeLinkMeter_mixKept (src : Node) (p : List Byte) : MixKept none s (takeLinkMeter src p s) := by
  unfold takeLinkMeter
  split
  · split
    · exact .ite (digest_mixKept s _ _) (.refl s)
    · exact .refl s
  · exact .refl s

theorem silenceExpiry_mixKept (k : LinkId) : MixKept none s (silenceExpiry k s) := by
  have wants (u : State) : MixKept none u (silenceWants k u) :=
    .ite (enterWant_mixKept _ _ _) (.ite (setWant_mixKept _ _ _) (.refl u))
  unfold silenceExpiry
  simp only
  split
  · exact .refl s
  · refine .ite ?_ (.onHealth k _)
    exact (((MixKept.onHealth k _).trans (.onHealth k _)).trans (note_mixKept _ _ _)).trans
      ((healthDegrade_mixKept _ _ _ _).trans ((wants _).trans (healthLamp_mixKept _ _ _ _)))

theorem gradeProbe_mixKept (p : Probe) (level : Int) : MixKept none s (gradeProbe p level s) := by
  have graded (f : Swp → Swp) (hit : Nat → Bool) :
      MixKept none s (spareRemoveCells p.band hit ((clearProbe s).onSwp f)) :=
    ((MixKept.onSwp _).trans (.onSwp f)).trans (.of_aside (spareRemoveCells_aside _ _ _) (spareRemoveCells_inner _ _ _))
  unfold gradeProbe
  exact .ite
    ((graded _ _).trans (.of_aside (offerReport_aside _ offerProbe_aside _) (offerReport_inner offerProbe_inner _ _)))
    ((graded _ _).trans (.of_aside (sweepOn_aside _) (sweepOn_inner _)))

theorem takeProbeMeter_mixKept (src : Node) (p : List Byte) : MixKept none s (takeProbeMeter src p s) := by
  unfold takeProbeMeter
  split
  · exact .ite (gradeProbe_mixKept s _ _) (.refl s)
  · exact .refl s

theorem probeTimeout_aside : Aside s (probeTimeout s) := by
  unfold probeTimeout
  split
  · have counted : Aside s ((clearProbe s).onSwp fun w =>
        { w with timeouts := w.timeouts + 1, passTimeouts := w.passTimeouts + 1 }) := (clearProbe_aside s).trans (.onSwp _ rfl)
    exact .ite (counted.trans ((Aside.onSwp _ rfl).trans (note_aside _ _ _))) (counted.trans (sweepOn_aside _))
  · exact .refl s

theorem searchEntry_aside : Aside s (searchEntry s) := by
  unfold searchEntry
  split
  · split
    · split
      · exact (Aside.onCpl _).trans (.onCpl _)
      · exact .refl s
    · exact .refl s
  · exact .refl s

theorem searchRun_aside (n : Nat) : Aside s (searchRun n s) := by
  induction n generalizing s with
  | zero => exact .refl s
  | succ n ih => exact (searchEntry_aside s).trans (ih _)

theorem completeCheck_mixKept (op : ActiveOp) : MixKept none s (completeCheck op s) := by
  unfold completeCheck
  extract_lets s1 s2
  have handed : MixKept none s1 s2 := by
    unfold s2
    split
    · exact takeResult_mixKept _ _
    · exact answerOp_mixKept _ _ _ _
    · exact answerOp_mixKept _ _ _ _
  exact ((MixKept.onCpl _).trans handed).trans (arbiterNext_mixKept _)

theorem completeSearch_mixKept : MixKept none s (completeSearch s) := by
  have walked : MixKept none s (searchRun Config.listCapacity s) := .of_aside (searchRun_aside s _) (searchRun_inner _ s)
  unfold completeSearch
  simp only
  split
  · exact walked.trans ((takeResult_mixKept _ _).trans (arbiterNext_mixKept _))
  · exact walked

theorem completeRefill_mixKept (op : ActiveOp) : MixKept none s (completeRefill op s) := by
  unfold completeRefill
  simp only
  split
  · exact ((MixKept.onCpl _).trans (.onCpl _)).trans ((answerOp_mixKept _ _ _ _).trans (arbiterNext_mixKept _))
  · exact (answerOp_mixKept _ _ _ _).trans (arbiterNext_mixKept _)

theorem requestMgr_aside {r : MgrRequest} {s t : State} (requested : requestMgr r s = some t) : Aside s t := by
  unfold requestMgr at requested
  split at requested
  · have begun := beginOp_aside s (.mgr r)
    simp only at requested
    split at requested
    · cases requested
      exact .ite (begun.trans ((answerOp_aside _ _ _ _).trans (arbiterNext_aside _))) begun
    · cases requested
      exact begun
  · split at requested
    · cases requested
      exact .onCpl _
    · cases requested

/-! ## Tallies, talkback and the tables -/

theorem remerge_mixKept : MixKept none s (remerge s) := by
  have merged : MixKept none s (s.onPlan fun p => { p with links := tab fun k =>
      { rd p.links k with tally := rd (mergedTallies s.tly.slots) k } }) :=
    .of_same rfl rfl fun k => by rw [State.link, onPlan_plan, rd_tab]; rfl
  exact merged.trans ((MixKept.onLmp _).trans (.ite (rteSettle_mixKept _) (.refl _)))

theorem switcherNote_mixKept (i : SlotId) (node : Node) (before after : SlotState) :
    MixKept none s (switcherNote i node before after s) := .ite (note_mixKept _ _ _) (.refl s)

/-- At a close a held destination gets no MIX frame (R154, R155). -/
theorem closeEpoch_noHeldMix (epoch : Half) (kept : s.noHeldMix) : (closeEpoch epoch s).noHeldMix := by
  intro d k link holds
  have held : s.linkHolds d = true := by
    unfold State.linkHolds
    rw [show (rd s.tbm.dests d).link = some k from link]
    exact holds
  rw [closeEpoch_voiceQ_held s epoch d held]
  exact kept d k link holds

theorem takeLink_mixKept (k : LinkId) (c : LinkCfg) : MixKept none s (takeLink k c s) := by
  unfold takeLink
  extract_lets l retire s1 s2 s3 s4 s5
  have written : MixKept (some k) s s1 := ⟨rfl, fun _ h => h, fun j other holds => .inl (by
    rwa [link_onLink_ne _ _ _ _ fun same => other (congrArg some same)] at holds)⟩
  have unchanged (stays : ¬retire = true) : MixKept none s s1 := .of_same rfl rfl fun j => by
    rw [link_onLink]
    split
    · next same => rw [← same]
    · rfl
  have after (x : Option LinkId) : MixKept x s1 s4 :=
    (MixKept.ite .advanceGen (.refl _)).trans ((MixKept.ite (ownRecomputeLink_mixKept _ _ _) (.refl _)).trans
      (.ite (.ite (setWant_mixKept _ _ _) (.refl _)) (.refl _)))
  have retired : MixKept none s s5 := by
    unfold s5
    split
    · exact ((written.trans (after _)).trans (healthNone_mixKept _ k)).reported
    · next stays => exact (unchanged stays).trans (after _)
  exact retired.trans (.onLmp _)

theorem takeBand_mixKept (b : BandId) (e : BandEntry) : MixKept none s (takeBand b e s) := by
  have written : MixKept none s (s.onPlan fun p => { p with bands := wr p.bands b e }).advanceGen := .of_same rfl rfl fun _ => rfl
  have marked (u : State) : MixKept none u (remarkCells b (fun _ => true) (resetCells b u)) := .of_same rfl rfl fun _ => rfl
  have cells := written.trans (.ite (c := (s.band b).geometryDiffers e = true) (marked _) (.refl _))
  exact .ite (cells.trans ((MixKept.onCpl _).trans (.onCpl _))) cells

theorem takeSettings_mixKept (y : Settings) : MixKept none s (takeSettings y s) := by
  have written : MixKept none s (s.onMgr fun m => { m with settings := y }) := .onMgr _
  exact .ite ((written.trans (.ite (.onLmp _) (.refl _))).trans (.onSwp _)) (written.trans (.ite (.onLmp _) (.refl _)))

end

/-- A taken DEST write that names another link has withdrawn the destination's MIX frame (R156). -/
theorem writtenDest_noHeldMix {s : State} {d : DestId} {e : Dest} {f : Tbm → Tbm} (dests : (f s.tbm).dests = wr s.tbm.dests d e)
    (changed : DestId → Bool) {drops : Bool} (relinked : (rd s.tbm.dests d).link ≠ e.link → drops = true) (kept : s.noHeldMix) :
    (if drops then withdrawMix d (callReport changed (s.onTbm f)) else callReport changed (s.onTbm f)).noHeldMix := by
  have entry (j : DestId) : rd (f s.tbm).dests j = if d = j then e else rd s.tbm.dests j := by rw [dests, rd_wr]
  cases drops with
  | true =>
    intro j k link holds
    have waits : rd (withdrawMix d (callReport changed (s.onTbm f))).rif.voiceQ j = if d = j then none else rd s.rif.voiceQ j :=
      rd_wr _ _ _ _
    have named : (rd (f s.tbm).dests j).link = some k := link
    rw [entry] at named
    rw [if_pos rfl, waits]
    by_cases same : d = j
    · exact if_pos same
    · rw [if_neg same] at named ⊢
      exact kept j k named holds
  | false =>
    intro j k link holds
    have named : (rd (f s.tbm).dests j).link = some k := link
    rw [entry] at named
    refine kept j k ?_ holds
    by_cases same : d = j
    · rw [if_pos same] at named
      have sameLink : (rd s.tbm.dests d).link = e.link := by_contra fun other => nomatch relinked other
      rw [← same, sameLink, named]
    · rwa [if_neg same] at named

theorem Written.noHeldMix {s t : State} (write : Written s t) (kept : s.noHeldMix) : t.noHeldMix := by
  cases write with
  | refused => exact kept
  | band b e => exact (takeBand_mixKept s b e).noHeldMix kept
  | link k c => exact (takeLink_mixKept s k c).noHeldMix kept
  | window w e => exact kept
  | slot i f noted beside =>
    have changed : MixKept none s (onSlot i f s) := .of_same rfl rfl fun _ => rfl
    exact ((changed.trans (.of_aside beside noted)).trans (remerge_mixKept _)).noHeldMix kept
  | lamp f => exact kept
  | talk f dests =>
    have same : MixKept none s (s.onTbm f) := .of_same dests rfl fun _ => rfl
    exact same.noHeldMix kept
  | dest d e f dests changed drops relinked => exact writtenDest_noHeldMix dests changed relinked kept
  | settings x => exact (takeSettings_mixKept s x).noHeldMix kept

theorem RequestRule.noHeldMix {f : Request} (rule : RequestRule f) (p : List Byte) {s : State} (kept : s.noHeldMix) :
    (f p s).state.noHeldMix := by
  have sweeps (c : SweepCfg) : MixKept none s (sweepTrigger (s.onSwp fun w => { w with cfg := c })) :=
    (MixKept.onSwp _).trans (.of_aside (sweepTrigger_aside _) (sweepTrigger_inner _))
  induction rule with
  | refuse st => exact kept
  | ofLength n _ ih =>
    unfold Machine.ofLength
    split
    · exact ih
    · exact kept
  | identify => exact kept
  | status => exact kept
  | read =>
    unfold readRequest
    simp only
    repeat' split
    all_goals exact kept
  | readLog => exact kept
  | moveLink => exact (moveLink_mixKept s p).noHeldMix kept
  | releaseLink => exact (releaseLink_mixKept s p).noHeldMix kept
  | cancelMove => exact (cancelMove_mixKept s p).noHeldMix kept
  | sweepGo =>
    unfold sweepGoRequest Machine.sweepGo
    simp only
    repeat' split
    all_goals first | exact kept | exact (sweeps _).noHeldMix kept
  | sweepStop => exact (MixKept.of_aside (sweepHalt_aside s) (sweepHalt_inner s)).noHeldMix kept
  | lampTest =>
    unfold Machine.lampTest
    split <;> exact kept
  | showLock =>
    unfold showLockRequest
    split <;> exact kept
  | showUnlock =>
    unfold showUnlockRequest
    repeat' split
    all_goals exact kept
  | write n rule index record => exact (ofRecord_written index record s n rule).noHeldMix kept
  | writeRequest => exact (writeRequest_written s p).noHeldMix kept

/-! ## BYPASS, RESUME, RESTART and the ring (R168, R173, R174, R186) -/

section
variable (s : State)

theorem sendBypassed_mixKept (l : List HeldAnswer) : MixKept none s (sendBypassed l s) :=
  .forEach l (fun _ _ => offerRsp_mixKept _ _) s

theorem resumeNormal_mixKept : MixKept none s (resumeNormal s) := by
  have planned (u : State) : MixKept none u (plannerResume u) := .ite (arbiterNext_mixKept u) (.refl u)
  have normal : MixKept none s (s.onRif fun r => { r with mode := .normal }) := .of_same rfl rfl fun _ => rfl
  have lamps (u : State) : MixKept none u (lampResume (verifyWants u)) := .of_same rfl rfl fun _ => rfl
  have blocks : MixKept none s (resumeBlocks s) := (normal.trans (planned _)).trans ((lamps _).trans (rteSettle_mixKept _))
  exact blocks.trans ((MixKept.onCpl _).trans (sendBypassed_mixKept _ _))

theorem releaseKept_mixKept (l : List KeptRsp) : MixKept none s (releaseKept l s) := by
  induction l generalizing s with
  | nil => exact .refl s
  | cons k rest ih =>
    exact ((MixKept.ite (resumeNormal_mixKept s) (.refl s)).trans (offerRsp_mixKept _ k.frame)).trans (ih _)

/-- With the Voice Queue empty nothing waits for any destination. -/
theorem noHeldMix_of_empty {s : State} (empty : ∀ d, rd s.rif.voiceQ d = none) : s.noHeldMix := fun d _ _ _ => empty d

/-- The entry empties the Voice Queue before it releases the RSP frames (R173). -/
theorem enterBypass_noHeldMix (kept : s.noHeldMix) : (enterBypass s).noHeldMix := by
  unfold enterBypass
  split
  · refine (releaseKept_mixKept _ _).noHeldMix (noHeldMix_of_empty fun d => ?_)
    rw [(bypassBlocks_enters _).rif]
    exact rd_replicate _ d
  · exact kept

theorem abandonOrders_voice (d : DestId) (empty : rd s.rif.voiceQ d = none) : rd (abandonOrders s).rif.voiceQ d = none := by
  have idles (u : State) (h : rd u.rif.voiceQ d = none) : rd (idlePhases u).rif.voiceQ d = none :=
    (Remarked.forEach _ (fun k v => setPhase_remarked k .idle v) u).voice d h
  have strays (o : Order) (u : State) (h : rd u.rif.voiceQ d = none) : rd (strayCarrier o u).rif.voiceQ d = none :=
    (ownRecomputeLink_mixKept (x := none) _ _ _).voice d h
  cases active : s.rte.active with
  | none =>
    rw [abandonOrders_none active]
    exact idles _ empty
  | some o =>
    rw [abandonOrders_some active]
    split
    · exact idles _ (strays o _ empty)
    · exact idles _ empty

theorem restartBlocks_noHeldMix : (restartBlocks s).noHeldMix := by
  have emptied : ∀ d, rd (clearHold (s.onRif Rif.restarted)).rif.voiceQ d = none := fun d => rd_replicate _ d
  have halted (d : DestId) : rd (sweepHalt (clearHold (s.onRif Rif.restarted))).rif.voiceQ d = none := by
    rw [(sweepHalt_aside _).voiceQ]
    exact emptied d
  have abandoned (d : DestId) := abandonOrders_voice _ d (halted d)
  have remarked (b : BandId) (u : State) : MixKept none u (remarkCells b (fun _ => true) u) :=
    .of_same rfl rfl fun _ => rfl
  have swept (u : State) : MixKept none u (ownRecomputeAll (sweepReset u)) :=
    (MixKept.of_same (s := u) (t := sweepReset u) rfl rfl fun _ => rfl).trans (.forEach (List.finRange 4) remarked _)
  have quiet (u : State) (empty : ∀ d, rd u.rif.voiceQ d = none) :
      (rteSettle (lampRestart (talkbackSilence (tallyRestart (monitorRestart u))))).noHeldMix :=
    (rteSettle_mixKept _).noHeldMix (noHeldMix_of_empty empty)
  unfold restartBlocks
  exact quiet _ fun d => (swept _).voice d (abandoned d)

theorem queueSpace_mixKept : MixKept none s (queueSpace s) := by
  have lamp : MixKept none s (offerLamp s) := by
    obtain ⟨r, l, changed, voiceQ⟩ := offerLamp_changes s
    rw [changed]
    exact .of_same rfl voiceQ fun _ => rfl
  unfold queueSpace
  refine .ite ?_ (.refl s)
  split
  · exact (MixKept.onRte _).trans (offerTunes_mixKept _ _)
  · refine .ite lamp ?_
    split
    · exact .of_aside (offerProbe_aside _ _) (offerProbe_inner _ _)
    · split
      · exact (MixKept.onMgr _).trans (offerRsp_mixKept _ _)
      · split
        · exact .of_aside (offerReport_aside _ keepProbe_aside _) (offerReport_inner keepProbe_inner _ _)
        · exact .refl s

theorem queueSpaceEvent_mixKept : MixKept none s (queueSpaceEvent s) :=
  have served : MixKept none s (s.onRif fun r => { r with spaceOwed := false }) := .of_same rfl rfl fun _ => rfl
  .ite (served.trans (queueSpace_mixKept _)) (.refl s)

theorem fillSlot_noHeldMix (kept : s.noHeldMix) : (fillSlot s).noHeldMix := by
  have control (u : State) : MixKept none u (controlTurn u) := by
    rcases controlTurn_cases u with ⟨q, -, sent⟩ | ⟨-, fill⟩
    · rw [sent]
      exact .of_same rfl rfl fun _ => rfl
    · rw [fill]
      exact .setOut _
  unfold fillSlot
  split
  · exact kept
  · split
    · exact enterBypass_noHeldMix s kept
    · unfold Machine.arbiterTurn
      split
      · next d f _ =>
        have sent : MixKept none s ((s.send f).onRif fun r => { r with voiceQ := wr r.voiceQ d none, voicePtr := d + 1 }) :=
          ⟨rfl, fun j empty => by rw [onRif_rif, rd_wr]; split <;> simp_all [State.send], fun _ _ h => .inl h⟩
        exact sent.noHeldMix kept
      · exact ((queueSpaceEvent_mixKept s).trans (control _)).noHeldMix kept

end

/-! ## Every command (spec/95) -/

theorem TakingRule.noHeldMix {f : Handler} (rule : TakingRule f) (a : Asker) (p : List Byte) {s : State} (kept : s.noHeldMix) :
    (f a p s).noHeldMix := by
  have answers {u : State} (left : u.noHeldMix) (g : Frame) (resume : Bool) : (answerCmd g resume u).noHeldMix :=
    (answerCmd_mixKept u g resume).noHeldMix left
  cases rule with
  | answered code rule => exact answers (rule.noHeldMix p kept) _ _
  | planner kind n =>
    unfold askPlanner
    split
    · split
      · next requested =>
        exact (MixKept.of_aside (requestMgr_aside requested) (requestMgr_inner requested)).noHeldMix kept
      · exact answers kept _ _
    · exact answers kept _ _
  | bypass =>
    unfold takeBypass
    split
    · exact kept
    · exact answers kept _ _
  | resume =>
    unfold takeResume
    split
    · exact answers kept _ _
    · split
      · exact answers kept _ _
      · refine answers ?_ _ _
        split
        · exact (resumeNormal_mixKept s).noHeldMix kept
        · exact kept
  | restart =>
    unfold takeRestart
    split
    · exact answers kept _ _
    · split
      · exact answers kept _ _
      · exact answers ((sendBypassed_mixKept _ _).noHeldMix (restartBlocks_noHeldMix s)) _ _

theorem onSlot_mixKept (i : SlotId) (f : Slot → Slot) (s : State) : MixKept none s (onSlot i f s) :=
  .of_same rfl rfl fun _ => rfl

theorem HandRule.noHeldMix {f : State → State} (rule : HandRule f) {s : State} (kept : s.noHeldMix) : (f s).noHeldMix := by
  cases rule with
  | none => exact kept
  | tally src p =>
    unfold takeTally
    split
    · next i entries _ _ =>
      exact ((onSlot_mixKept i _ s).trans ((switcherNote_mixKept _ _ _ _ _).trans (remerge_mixKept _))).noHeldMix kept
    · exact kept
  | cycle p =>
    unfold takeCycle
    split
    · exact closeEpoch_noHeldMix s _ kept
    · exact kept
  | voice src p =>
    unfold takeVoice
    repeat' split
    all_goals exact kept
  | linkMeter src p => exact (takeLinkMeter_mixKept s src p).noHeldMix kept
  | probeMeter src p => exact (takeProbeMeter_mixKept s src p).noHeldMix kept
  | tuned src p => exact (takeTuned_mixKept s src p).noHeldMix kept
  | cmd rule a p =>
    unfold manage
    split
    · exact kept
    · exact rule.noHeldMix a p kept

theorem slotSilence_mixKept (i : SlotId) (s : State) : MixKept none s (slotSilence i s) := by
  unfold slotSilence
  simp only
  split
  · exact .refl s
  · exact .ite ((onSlot_mixKept _ _ _).trans ((switcherNote_mixKept _ _ _ _ _).trans (remerge_mixKept _)))
      ((onSlot_mixKept _ _ _).trans (switcherNote_mixKept _ _ _ _ _))

theorem slotHold_mixKept (i : SlotId) (s : State) : MixKept none s (slotHold i s) := by
  unfold slotHold
  simp only
  split
  · exact .refl s
  · exact (onSlot_mixKept _ _ _).trans ((switcherNote_mixKept _ _ _ _ _).trans (remerge_mixKept _))

theorem whileRunning_mixKept {f : ActiveOp → State → State} (work : ∀ op s, MixKept none s (f op s)) (kinds : OpKind → Bool)
    (s : State) : MixKept none s (whileRunning kinds f s) := by
  unfold whileRunning
  split
  · exact .ite (work _ _) (.refl s)
  · exact .refl s

theorem PartEvent.noHeldMix {f : State → State} (rule : PartEvent f) {s : State} (kept : s.noHeldMix) : (f s).noHeldMix := by
  have finished (op : ActiveOp) (st : RspStatus) (results : List Byte) (u : State) :
      MixKept none u (arbiterNext (answerOp op st results u)) := (answerOp_mixKept _ _ _ _).trans (arbiterNext_mixKept _)
  cases rule with
  | fillSlot => exact fillSlot_noHeldMix s kept
  | queueSpaceEvent => exact (queueSpaceEvent_mixKept s).noHeldMix kept
  | offerLamp =>
    obtain ⟨r, l, changed, voiceQ⟩ := offerLamp_changes s
    have lamp : MixKept none s { s with rif := r, lmp := l } := .of_same rfl voiceQ fun _ => rfl
    rw [changed]
    exact lamp.noHeldMix kept
  | enterBypass => exact enterBypass_noHeldMix s kept
  | tuneExpiry => exact (tuneExpiry_mixKept s).noHeldMix kept
  | silenceExpiry k => exact (silenceExpiry_mixKept s k).noHeldMix kept
  | slotSilence i => exact (slotSilence_mixKept i s).noHeldMix kept
  | slotHold i => exact (slotHold_mixKept i s).noHeldMix kept
  | probeTimeout => exact (MixKept.of_aside (probeTimeout_aside s) (probeTimeout_inner s)).noHeldMix kept
  | refreshExpiry =>
    unfold Machine.refreshExpiry
    split <;> exact kept
  | intervalExpiry => exact (MixKept.of_aside (intervalExpiry_aside s) (intervalExpiry_inner s)).noHeldMix kept
  | completeCheck kinds => exact (whileRunning_mixKept (fun op u => completeCheck_mixKept u op) kinds s).noHeldMix kept
  | completeSearch kinds => exact (whileRunning_mixKept (fun _ u => completeSearch_mixKept u) kinds s).noHeldMix kept
  | completeAudit kinds =>
    exact (whileRunning_mixKept (fun op u => (MixKept.onCpl _).trans (finished op _ _ _)) kinds s).noHeldMix kept
  | completeRefill kinds => exact (whileRunning_mixKept (fun op u => completeRefill_mixKept u op) kinds s).noHeldMix kept
  | completeSignature kinds => exact (whileRunning_mixKept (fun op u => finished op _ _ u) kinds s).noHeldMix kept
  | searchEntry kinds =>
    exact (whileRunning_mixKept (fun _ u => .of_aside (searchEntry_aside u) (searchEntry_inner u)) kinds s).noHeldMix kept
  | logConflict kinds =>
    refine (whileRunning_mixKept (fun op u => ?_) kinds s).noHeldMix kept
    unfold Machine.logConflict
    split
    · exact .onCpl _
    · exact .refl u

theorem ComesTo.noHeldMix {s t : State} (comes : ComesTo s t) (kept : s.noHeldMix) : t.noHeldMix := by
  cases comes with
  | resetLow => exact kept
  | losePower => exact kept
  | coldStart straps => exact noHeldMix_of_empty fun d => rd_replicate _ d
  | event rule =>
    unfold Machine.event
    split
    · exact rule.noHeldMix (s := s.setOut .quiet) kept
    · exact kept
  | receive raw parsed rule =>
    unfold Machine.receive
    split
    · split
      · exact kept
      · simp only
        split
        · exact rule.noHeldMix (s := s.setOut _) kept
        · exact kept
    · exact kept

/-- Settles O59, over what every command comes to. -/
theorem noMixWhileHeldKept : Obligations.NoMixWhileHeldKept := by
  intro s t kept leaves
  cases waiting : s.pending with
  | nil =>
    rw [stepRunsFrontCommand.2 s waiting] at leaves
    cases leaves
    exact kept
  | cons c rest =>
    rw [stepRunsFrontCommand.1 c rest s waiting] at leaves
    obtain ⟨u, next, comes⟩ := exec_comes { s with pending := rest } c
    rw [next] at leaves
    cases leaves
    exact comes.noHeldMix kept

end Sys2Proof.Machine
end

section
/-! Proofs of the frames and the arrivals: the bytes of a frame and the frame read from them (R161), the typed rows against their
bytes, the part out of the ring (R165), the table of R172, and the voice turns (R168). -/

namespace Sys2Proof.Machine

/-! ## A frame and its bytes (R161) -/

theorem byte_toNat {n : Nat} (small : n < 256) : (byte n).toNat = n := by
  rw [byte, BitVec.toNat_ofNat, Nat.mod_eq_of_lt small]

theorem byte_toNat_self (b : Byte) : byte b.toNat = b := by simp [byte]

section
variable (kind : Byte) (dst src : Node) (payload : List Byte) (check : Half)

/-- A payload that fits a frame is read back with its check, which passes or not (R161). -/
theorem parseFrame_wire (fits : payload.length ≤ 240) : parseFrame (wire kind dst src payload check) =
    given (check = crc16 (body kind dst src payload)) { kind := kind, dst := dst, src := src, payload := payload } := by
  have len : (byte payload.length).toNat = payload.length := byte_toNat (by omega)
  have high : at0 (payload ++ halfBytes check) payload.length = check.extractLsb' 8 8 := by
    simp [at0, halfBytes]
  have low : at0 (payload ++ halfBytes check) (payload.length + 1) = check.extractLsb' 0 8 := by
    simp [at0, halfBytes]
  have room : (decide (payload.length ≤ 240) && decide (payload.length + 2 ≤ (payload ++ halfBytes check).length)) = true := by
    simp [halfBytes, fits]
  simp only [wire, body, List.cons_append, parseFrame, len, room, if_true, List.take_left, high, low, half_of_halfBytes, given]
  exact ite_congr (propext decide_eq_true_iff.symm) (fun _ => rfl) fun _ => rfl

theorem parseFrame_bytes {f : Frame} (fits : f.payload.length ≤ 240) : parseFrame f.bytes = some f := by
  rw [Frame.bytes, parseFrame_wire _ _ _ _ _ fits]
  simp [given]

/-- What is read as a frame begins with the frame's own bytes (R161; notes/assumptions/8). -/
theorem bytes_of_parseFrame {raw : List Byte} {f : Frame} (parsed : parseFrame raw = some f) :
    ∃ extra, raw = f.bytes ++ extra ∧ f.payload.length ≤ 240 := by
  unfold parseFrame at parsed
  split at parsed
  · next kind dst src len rest =>
    split at parsed
    · next room =>
      obtain ⟨small, whole⟩ : len.toNat ≤ 240 ∧ len.toNat + 2 ≤ rest.length := by simpa using room
      extract_lets payload at parsed
      split at parsed
      · next right =>
        obtain rfl := Option.some.inj parsed
        have length : payload.length = len.toNat := by simp [payload]; omega
        refine ⟨rest.drop (len.toNat + 2), ?_, by simpa only [length] using small⟩
        have check : rest = payload ++ halfBytes (half (at0 rest len.toNat) (at0 rest (len.toNat + 1)))
            ++ rest.drop (len.toNat + 2) := by
          rw [halfBytes_half]
          have first : rest.drop len.toNat = at0 rest len.toNat :: rest.drop (len.toNat + 1) := by
            rw [List.drop_eq_getElem_cons (by omega), at0, List.getD_eq_getElem _ _ (by omega)]
          have second : rest.drop (len.toNat + 1) = at0 rest (len.toNat + 1) :: rest.drop (len.toNat + 2) := by
            rw [List.drop_eq_getElem_cons (by omega), at0, List.getD_eq_getElem _ _ (by omega)]
          calc rest = payload ++ rest.drop len.toNat := (List.take_append_drop _ _).symm
            _ = _ := by rw [first, second]; simp
        rw [Frame.bytes, wire, body, length, byte_toNat_self, ← right]
        simpa using check
      · cases parsed
    · cases parsed
  · cases parsed

end

/-- Settles O6. -/
theorem frameBytesAgree : Obligations.FrameBytesAgree :=
  ⟨fun _ fits => parseFrame_bytes fits, fun _ _ parsed => bytes_of_parseFrame parsed⟩

/-! ## The typed rows and the bytes they spell (R161 to R163) -/

/-- A typed frame arrives as its bytes do, where its block does with it what delivery does (R161, R166). -/
theorem receiveFrame_bytes {kind : Byte} {h : FrameHead} {payload : List Byte} {hand : State → State} (s : State)
    (fits : payload.length ≤ 240)
    (handed : ∀ t, hand t = deliver { kind := kind, dst := h.dst, src := h.src, payload := payload } t) :
    receiveFrame kind h payload hand s = receiveBytes (wire kind h.dst h.src payload h.check) s := by
  have parsed := parseFrame_wire kind h.dst h.src payload h.check fits
  have same : hand = deliver { kind := kind, dst := h.dst, src := h.src, payload := payload } := funext handed
  unfold receiveFrame receiveBytes
  by_cases right : h.check = crc16 (body kind h.dst h.src payload)
  · have reads : parseFrame (wire kind h.dst h.src payload h.check)
        = some { kind := kind, dst := h.dst, src := h.src, payload := payload } := by
      rw [parsed, given, if_pos (decide_eq_true right)]
    have passes : (decide (payload.length ≤ 240) && decide (h.check = crc16 (body kind h.dst h.src payload))) = true := by
      simp only [fits, decide_true, decide_eq_true right, Bool.and_self]
    simp only [reads, given, passes, if_true, same]
  · have fails : parseFrame (wire kind h.dst h.src payload h.check) = none := by simp [parsed, right, given]
    simp [fails, right, given, receive]

/-- A typed CMD arrives as its bytes do, where its handler is that of its code on these parameters (R162). -/
theorem receiveCmd_bytes (h : CmdHead) {code : Byte} {params : List Byte} {f : Handler} (s : State)
    (fits : params.length + 2 ≤ 240) (handled : ∀ a t, f a params t = handler code a params t) :
    receiveCmd h code params f s = receiveBytes (h.wire code params) s := by
  refine receiveFrame_bytes (h := h.frame) s (by simp only [List.length_cons]; omega) fun t => ?_
  rw [deliver, if_pos rfl]
  simp only [takeCmd, manage]
  split
  · rfl
  · exact handled _ t

theorem u16_halfBytes (x : Half) : u16 (x.extractLsb' 8 8) (x.extractLsb' 0 8) = x.toNat := by
  simp only [u16, BitVec.extractLsb'_toNat, Nat.shiftRight_eq_div_pow]
  omega

/-- A typed WRITE arrives as its bytes do, where the write is that of its table (R163, R180). -/
theorem receiveWrite_bytes (h : CmdHead) {table : Byte} {n : Nat} {f : Write} {index : Half} {record : List Byte} (s : State)
    (fits : record.length + 5 ≤ 240) (ruled : tableWrite table = some (ofRecord n f)) :
    receiveWrite h table n f index record s = receiveBytes (h.wireWrite table index record) s := by
  refine receiveCmd_bytes h s (by simpa [writeParams, halfBytes] using fits) fun a t => ?_
  have written : writeRequest (writeParams table index record) t = ofRecord n f index.toNat record t := by
    simp only [writeRequest, writeParams, halfBytes, List.cons_append, List.nil_append, ruled, u16_halfBytes]
  rw [show handler Req.write = answered Req.write writeRequest from rfl, answered, answered, written]

/-- A code that is none of the part's has the handler that says so (R175). -/
theorem handler_unknown {code : Byte} (unknown : knownCode code = false) :
    handler code = answered code fun _ s => refuse .unknownRequest s := by
  have other (c : Byte) (known : knownCode c = true) : code ≠ c := by
    rintro rfl
    rw [known] at unknown
    cases unknown
  simp only [handler, if_neg (other _ (show knownCode Req.identify = true from rfl)),
    if_neg (other _ (show knownCode Req.status = true from rfl)), if_neg (other _ (show knownCode Req.read = true from rfl)),
    if_neg (other _ (show knownCode Req.write = true from rfl)), if_neg (other _ (show knownCode Req.check = true from rfl)),
    if_neg (other _ (show knownCode Req.audit = true from rfl)), if_neg (other _ (show knownCode Req.refill = true from rfl)),
    if_neg (other _ (show knownCode Req.signature = true from rfl)), if_neg (other _ (show knownCode Req.readLog = true from rfl)),
    if_neg (other _ (show knownCode Req.moveLink = true from rfl)),
    if_neg (other _ (show knownCode Req.releaseLink = true from rfl)),
    if_neg (other _ (show knownCode Req.cancelMove = true from rfl)), if_neg (other _ (show knownCode Req.sweepGo = true from rfl)),
    if_neg (other _ (show knownCode Req.sweepStop = true from rfl)), if_neg (other _ (show knownCode Req.lampTest = true from rfl)),
    if_neg (other _ (show knownCode Req.showLock = true from rfl)),
    if_neg (other _ (show knownCode Req.showUnlock = true from rfl)), if_neg (other _ (show knownCode Req.bypass = true from rfl)),
    if_neg (other _ (show knownCode Req.resume = true from rfl)), if_neg (other _ (show knownCode Req.restart = true from rfl))]

/-- A well-formed command that stands for an arriving frame receives its bytes (R161 to R163; notes/assumptions/8). -/
theorem exec_receiveBytes {c : Instr} {raw : List Byte} (s : State) (formed : c.WellFormed = true)
    (spelled : c.wireBytes = some raw) : exec c s = .next (receiveBytes raw s) := by
  have fitsParams {p : List Byte} (fits : paramsFit p = true) : p.length + 2 ≤ 240 := by simpa [paramsFit, maxPayload] using fits
  have fitsRecord {r : List Byte} (fits : recordFits r = true) : r.length + 5 ≤ 240 := by simpa [recordFits, maxPayload] using fits
  have fitsFrame {p : List Byte} (fit : fits p = true) : p.length ≤ 240 := of_decide_eq_true fit
  cases c with
  | ringInFrame raw' => obtain rfl := Option.some.inj spelled; rfl
  | tally h p => obtain rfl := Option.some.inj spelled; exact congrArg _ (receiveFrame_bytes s (fitsFrame formed) fun t => rfl)
  | cycle h p => obtain rfl := Option.some.inj spelled; exact congrArg _ (receiveFrame_bytes s (fitsFrame formed) fun t => rfl)
  | voice h p => obtain rfl := Option.some.inj spelled; exact congrArg _ (receiveFrame_bytes s (fitsFrame formed) fun t => rfl)
  | tuned h p => obtain rfl := Option.some.inj spelled; exact congrArg _ (receiveFrame_bytes s (fitsFrame formed) fun t => rfl)
  | meterLinkForm h p =>
    obtain rfl := Option.some.inj spelled
    exact congrArg _ (receiveFrame_bytes s (by simpa [Instr.WellFormed, maxPayload] using formed) fun t => rfl)
  | meterProbeForm h p =>
    obtain rfl := Option.some.inj spelled
    exact congrArg _ (receiveFrame_bytes s (by simpa [Instr.WellFormed, maxPayload] using formed) fun t => rfl)
  | unknownRequest h c p =>
    obtain rfl := Option.some.inj spelled
    obtain ⟨fits, unknown⟩ : paramsFit p = true ∧ knownCode c = false := by simpa [Instr.WellFormed] using formed
    exact congrArg _ (receiveCmd_bytes h s (fitsParams fits) fun a t => by rw [handler_unknown unknown])
  | writeBand h i r | writeLink h i r | writeWindow h i r | writeSwitcher h i r | writeSourcemap h i r | writePalette h i r
  | writeCondition h i r | writeTalksrc h i r | writeDest h i r | writeXpoint h i r | writeSettings h i r =>
    obtain rfl := Option.some.inj spelled
    exact congrArg _ (receiveWrite_bytes h s (fitsRecord formed) rfl)
  | identify h p | status h p | read h p | check h p | audit h p | refill h p | signature h p | readLog h p | moveLink h p
  | releaseLink h p | cancelMove h p | sweepGo h p | sweepStop h p | lampTest h p | showLock h p | showUnlock h p | bypass h p
  | resume h p | restart h p =>
    obtain rfl := Option.some.inj spelled
    exact congrArg _ (receiveCmd_bytes h s (fitsParams formed) fun a t => rfl)
  | _ => cases spelled

/-- Settles O7. -/
theorem frameCommandsAreTheirBytes : Obligations.FrameCommandsAreTheirBytes := fun _ _ s formed spelled =>
  exec_receiveBytes s formed spelled

/-! ## The part out of the ring (R165) -/

theorem receive_around {raw : List Byte} {parsed : Option Frame} {hand : State → State} {s : State} (dead : s.live = false) :
    receive raw parsed hand s = { s with ringOut := .around raw } := by
  unfold receive
  exact if_neg (by simp [dead])

/-- A frame that arrives while the part does not run goes round it (R165). -/
theorem exec_around {c : Instr} {raw : List Byte} {s : State} (dead : s.live = false) (spelled : c.wireBytes = some raw) :
    exec c s = .next { s with ringOut := .around raw } := by
  cases c with
  | ringInFrame raw' | tally h p | cycle h p | voice h p | meterLinkForm h p | meterProbeForm h p | tuned h p | identify h p
  | status h p | read h p | writeBand h i r | writeLink h i r | writeWindow h i r | writeSwitcher h i r | writeSourcemap h i r
  | writePalette h i r | writeCondition h i r | writeTalksrc h i r | writeDest h i r | writeXpoint h i r | writeSettings h i r
  | check h p | audit h p | refill h p | signature h p | readLog h p | moveLink h p | releaseLink h p | cancelMove h p
  | sweepGo h p | sweepStop h p | lampTest h p | showLock h p | showUnlock h p | bypass h p | resume h p | restart h p
  | unknownRequest h code p =>
    obtain rfl := Option.some.inj spelled
    exact congrArg _ (receive_around dead)
  | _ => cases spelled

/-- A part permanently in BYPASS forwards what arrives (R165, R172). -/
theorem receiveBytes_permanent {raw : List Byte} {s : State} (live : s.live = true) (permanent : s.rif.permanent = true) :
    receiveBytes raw s = { s with
      ringOut := .forwarded raw
      rif := { s.rif with errors := if parseFrame raw = none then min 65535 (s.rif.errors + 1) else s.rif.errors } } := by
  cases parsed : parseFrame raw with
  | none => rw [receiveBytes_fails live parsed, if_pos rfl]
  | some f =>
    rw [receiveBytes_passes (slot := false) (hand := false) live parsed (by rw [Rif.handling, if_pos permanent])]
    rfl

/-- Settles O5. -/
theorem partOutOfTheRing : Obligations.PartOutOfTheRing := by
  refine ⟨fun s => rfl, fun s => rfl, fun c raw s dead spelled => exec_around dead spelled, fun s dead => ?_,
    fun s live permanent => ⟨fun c raw formed spelled => ?_, ?_⟩⟩
  · exact congrArg _ (show event fillSlot s = s.setOut .quiet by rw [event, dead]; rfl)
  · rw [exec_receiveBytes s formed spelled, receiveBytes_permanent live permanent]
  · refine congrArg _ (show event fillSlot s = s.setOut .quiet from ?_)
    rw [event_live live, fillSlot]
    exact if_pos permanent

end Sys2Proof.Machine
end

section
/-! Proofs of the records: what a WRITE stores is returned byte for byte by a READ (R163). -/

namespace Sys2Proof.Machine

/-! ## The fields of a record (R163) -/

section
variable {lo hi n k m : Nat} {b x y : Byte}

theorem given_eq_some {α : Type} {c : Bool} {v w : α} : given c v = some w ↔ c = true ∧ v = w := by
  cases c <;> simp [given]

theorem inRange_eq_some : inRange lo hi n = some m ↔ (lo ≤ n ∧ n ≤ hi) ∧ n = m := by simp [inRange, given_eq_some]

theorem inRangeInt_eq_some {lo hi i j : Int} : inRangeInt lo hi i = some j ↔ (lo ≤ i ∧ i ≤ hi) ∧ i = j := by
  simp [inRangeInt, given_eq_some]

theorem nodeField_eq_some : nodeField b = some x ↔ b.toNat ≤ 239 ∧ b = x := by simp [nodeField, given_eq_some]

theorem onOff_of_read {v : Bool} (read : readOnOff b = some v) : onOff v = b := by
  unfold readOnOff at read
  split at read
  · next zero => exact Option.some.inj read ▸ zero.symm
  · split at read
    · next one => exact Option.some.inj read ▸ one.symm
    · cases read

theorem kindCode_of_read {v : LinkKind} (read : readLinkKind b = some v) : v.code = b := by
  unfold readLinkKind at read
  repeat' split at read
  all_goals cases read <;> subst_vars <;> rfl

theorem anchorCode_of_read {v : Anchor} (read : readAnchor b = some v) : v.code = b := by
  unfold readAnchor at read
  repeat' split at read
  all_goals cases read <;> subst_vars <;> rfl

theorem cadenceCode_of_read {v : Cadence} (read : readCadence b = some v) : v.code = b := by
  unfold readCadence at read
  repeat' split at read
  all_goals cases read <;> subst_vars <;> rfl

theorem byte_of_finField {i : Fin n} (read : finField n b.toNat = some i) : byte i.val = b := by
  rw [val_eq_iff_finField.mpr read, byte_toNat_self]

theorem finOrNoneByte_of_read {v : Option (Fin n)} (read : finOrNone n b = some v) : finOrNoneByte v = b := by
  unfold finOrNone at read
  split at read
  · next none => exact Option.some.inj read ▸ none.symm
  · obtain ⟨i, field, rfl⟩ := Option.map_eq_some_iff.mp read
    exact byte_of_finField field

theorem n16_u16 : n16 (u16 x y) = [x, y] := by
  have high : (BitVec.ofNat 16 (u16 x y)).extractLsb' 8 8 = x := by
    apply BitVec.eq_of_toNat_eq
    simp only [u16, BitVec.extractLsb'_toNat, BitVec.toNat_ofNat, Nat.shiftRight_eq_div_pow]
    omega
  have low : (BitVec.ofNat 16 (u16 x y)).extractLsb' 0 8 = y := by
    apply BitVec.eq_of_toNat_eq
    simp only [u16, BitVec.extractLsb'_toNat, BitVec.toNat_ofNat, Nat.shiftRight_eq_div_pow]
    omega
  rw [n16, halfBytes, high, low]

theorem n24_u24 : n24 (u24 b x y) = [b, x, y] := by
  have bytes (n : Nat) (z : Byte) (low : n % 256 = z.toNat) : byte n = z :=
    BitVec.eq_of_toNat_eq (by simpa [byte] using low)
  rw [n24, u24, bytes _ b (by omega), bytes _ x (by omega), bytes _ y (by omega)]

theorem signedByte_toInt : signedByte b.toInt = b := BitVec.ofInt_toInt

theorem byte_of_inRange (read : inRange lo hi b.toNat = some m) : byte m = b := by
  rw [← (inRange_eq_some.mp read).2, byte_toNat_self]

theorem n16_of_inRange (read : inRange lo hi (u16 x y) = some m) : n16 m = [x, y] := by
  rw [← (inRange_eq_some.mp read).2, n16_u16]

theorem signedByte_of_inRange {lo hi i : Int} (read : inRangeInt lo hi b.toInt = some i) : signedByte i = b := by
  rw [← (inRangeInt_eq_some.mp read).2, signedByte_toInt]

theorem eq_of_nodeField (read : nodeField b = some x) : x = b := (nodeField_eq_some.mp read).2.symm

end

/-! ## The records (R163) -/

section
variable {r : List Byte}

theorem bandEntry_bytes {e : BandEntry} (read : readBand r = some e) : e.bytes = r := by
  unfold readBand at read
  split at read
  · simp only [Option.bind_eq_bind, Option.bind_eq_some_iff, Option.pure_def, Option.some.injEq, inRange_eq_some,
      inRangeInt_eq_some, nodeField_eq_some] at read
    obtain ⟨enabled, en, _, ⟨-, rfl⟩, _, ⟨-, rfl⟩, _, ⟨-, rfl⟩, _, ⟨-, rfl⟩, three, thr, _, ⟨-, rfl⟩, _, ⟨-, rfl⟩, _,
      ⟨-, rfl⟩, _, ⟨-, rfl⟩, rfl⟩ := read
    simp only [List.cons_append, List.nil_append, BandEntry.bytes, onOff_of_read en, onOff_of_read thr, n16_u16, n24_u24, byte_toNat_self, signedByte_toInt]
  · cases read

/-- A record is read field by field. -/
theorem field_of_read {α β : Type} {o : Option α} {f : α → Option β} {e : β} (read : (o >>= f) = some e) :
    ∃ v, o = some v ∧ f v = some e := Option.bind_eq_some_iff.mp read

theorem linkCfg_bytes {e : LinkCfg} (read : readLinkCfg r = some e) : e.bytes = r := by
  unfold readLinkCfg at read
  split at read
  · obtain ⟨_, use, read⟩ := field_of_read read
    obtain ⟨_, kind, read⟩ := field_of_read read
    obtain ⟨_, band, read⟩ := field_of_read read
    obtain ⟨_, width, read⟩ := field_of_read read
    obtain ⟨_, tx, read⟩ := field_of_read read
    obtain ⟨_, rx, read⟩ := field_of_read read
    obtain ⟨_, rx2, read⟩ := field_of_read read
    obtain ⟨_, prio, read⟩ := field_of_read read
    obtain ⟨_, auto, read⟩ := field_of_read read
    obtain ⟨_, rescue, read⟩ := field_of_read read
    obtain ⟨_, blend, read⟩ := field_of_read read
    obtain ⟨_, level, read⟩ := field_of_read read
    obtain ⟨_, margin, read⟩ := field_of_read read
    obtain ⟨_, goodQ, read⟩ := field_of_read read
    obtain ⟨_, poorQ, read⟩ := field_of_read read
    obtain ⟨_, pers, read⟩ := field_of_read read
    obtain ⟨_, batt, read⟩ := field_of_read read
    obtain ⟨_, lampN, read⟩ := field_of_read read
    obtain ⟨_, lampE, read⟩ := field_of_read read
    obtain ⟨_, trim, read⟩ := field_of_read read
    obtain ⟨_, talk, read⟩ := field_of_read read
    obtain rfl := Option.some.inj read
    simp only [List.cons_append, List.nil_append, LinkCfg.bytes, onOff_of_read use, kindCode_of_read kind, byte_of_finField band,
      n16_of_inRange width, eq_of_nodeField tx, eq_of_nodeField rx, eq_of_nodeField rx2, byte_of_inRange prio, onOff_of_read auto,
      onOff_of_read rescue, onOff_of_read blend, signedByte_of_inRange level, byte_of_inRange margin, byte_of_inRange goodQ,
      byte_of_inRange poorQ, byte_of_inRange pers, byte_of_inRange batt, eq_of_nodeField lampN, onOff_of_read lampE,
      signedByte_of_inRange trim, finOrNoneByte_of_read talk]
  · cases read

theorem window_bytes {e : Window} (read : readWindow r = some e) : e.bytes = r := by
  unfold readWindow at read
  split at read
  · simp only [Option.bind_eq_bind, Option.bind_eq_some_iff, Option.pure_def, Option.some.injEq, inRange_eq_some] at read
    obtain ⟨_, en, _, band, _, anchor, _, ⟨-, rfl⟩, _, comp, rfl⟩ := read
    simp only [List.cons_append, List.nil_append, Window.bytes, onOff_of_read en, onOff_of_read comp, byte_of_finField band, anchorCode_of_read anchor, n16_u16]
  · cases read

theorem paletteEntry_bytes {e : PaletteEntry} (read : readPalette r = some e) : e.bytes = r := by
  unfold readPalette at read
  split at read
  · simp only [Option.bind_eq_bind, Option.bind_eq_some_iff, Option.pure_def, Option.some.injEq, inRange_eq_some] at read
    obtain ⟨_, ⟨-, rfl⟩, rfl⟩ := read
    simp only [List.cons_append, List.nil_append, PaletteEntry.bytes, Colour.bytes, byte_toNat_self]
  · cases read

theorem lampCondition_bytes {e : LampCondition} (read : readCondition r = some e) : e.bytes = r := by
  unfold readCondition at read
  split at read
  · simp only [Option.bind_eq_bind, Option.bind_eq_some_iff, Option.pure_def, Option.some.injEq] at read
    obtain ⟨_, palette, _, cadence, rfl⟩ := read
    simp only [LampCondition.bytes, byte_of_finField palette, cadenceCode_of_read cadence]
  · cases read

theorem talkSource_bytes {e : TalkSource} (read : readTalkSource r = some e) : e.bytes = r := by
  unfold readTalkSource at read
  split at read
  · simp only [Option.bind_eq_bind, Option.bind_eq_some_iff, Option.pure_def, Option.some.injEq, inRange_eq_some,
      nodeField_eq_some] at read
    obtain ⟨_, ⟨-, rfl⟩, _, ⟨-, rfl⟩, _, en, rfl⟩ := read
    simp only [TalkSource.bytes, onOff_of_read en, byte_toNat_self]
  · cases read

theorem settings_bytes {e : Settings} (read : readSettings r = some e) : e.bytes = r := by
  unfold readSettings at read
  split at read
  · simp only [Option.bind_eq_bind, Option.bind_eq_some_iff, Option.pure_def, Option.some.injEq, nodeField_eq_some] at read
    obtain ⟨_, ⟨-, rfl⟩, rfl⟩ := read
    simp only [List.cons_append, List.nil_append, Settings.bytes, n16_u16, byte_toNat_self]
  · cases read

/-- The written part of a destination as read; the flags follow it (R163). -/
theorem destBytes_written {e : Dest} {t : Tbm} {d : DestId} (read : readDest r = some e) (stored : rd t.dests d = e) :
    (t.destBytes d).take 6 = r := by
  unfold readDest at read
  split at read
  · simp only [Option.bind_eq_bind, Option.bind_eq_some_iff, Option.pure_def, Option.some.injEq, nodeField_eq_some] at read
    obtain ⟨_, en, _, link, _, ⟨-, rfl⟩, _, feed, _, gain, _, duck, rfl⟩ := read
    simp [Tbm.destBytes, stored, onOff_of_read en, finOrNoneByte_of_read link, finOrNoneByte_of_read feed, byte_of_finField gain,
      byte_of_finField duck]
  · cases read

/-- A list is its bytes at the offsets of its length. -/
theorem map_at0_range {n : Nat} (length : r.length = n) : (List.range n).map (at0 r) = r := by
  apply List.ext_getElem (by simp [length])
  intro i _ inside
  simp [at0, inside]

theorem mapRecord_bytes {l : List (Option LinkId)} (read : readMapRecord r = some l) : l.map finOrNoneByte = r := by
  unfold readMapRecord at read
  induction r generalizing l with
  | nil =>
    obtain rfl : [] = l := by simpa using read
    rfl
  | cons b rest ih =>
    simp only [List.mapM_cons, Option.bind_eq_bind, Option.bind_eq_some_iff, Option.pure_def, Option.some.injEq] at read
    obtain ⟨first, field, others, fields, rfl⟩ := read
    rw [List.map_cons, finOrNoneByte_of_read field, ih fields]

end

/-! ## Crosspoints, suppression maps and slots (R118, R145) -/

theorem flatMap_pairs {r : List Byte} {n : Nat} (length : r.length = 2 * n) :
    ((List.finRange n).flatMap fun d => [at0 r (2 * d.val), at0 r (2 * d.val + 1)]) = r := by
  induction n generalizing r with
  | zero => rw [List.length_eq_zero_iff.mp length]; rfl
  | succ n ih =>
    match r, length with
    | a :: b :: rest, length =>
      rw [List.finRange_succ, List.flatMap_cons, List.flatMap_map]
      exact congrArg ([a, b] ++ ·) (ih (by simp only [List.length_cons] at length; omega))

theorem xpointBytes_of_read {r : List Byte} {e : Vector Xpoint 32} (length : r.length = 64) (read : readXpoints r = some e) :
    xpointBytes e = r := by
  unfold readXpoints at read
  extract_lets entry at read
  split at read
  · next every =>
    obtain rfl := Option.some.inj read
    rw [← flatMap_pairs (n := 32) length, xpointBytes]
    refine List.flatMap_congr fun d _ => ?_
    obtain ⟨x, isEntry⟩ := Option.isSome_iff_exists.mp (List.all_eq_true.mp every d (List.mem_finRange d))
    obtain ⟨_, on, field⟩ := field_of_read isEntry
    obtain ⟨_, gain, field⟩ := field_of_read field
    obtain rfl := Option.some.inj field
    rw [rd_tab, isEntry]
    simp [onOff_of_read on, byte_of_finField gain]
  · cases read

/-- A byte is put together from its bits. -/
theorem foldl_bits (b : Byte) :
    (List.finRange 8).foldl (fun (acc : Byte) i => acc ||| (byte (b.getLsbD i.val).toNat <<< i.val)) 0 = b := by
  revert b
  decide

theorem mapByte_readMap (bs : List Byte) {i : Nat} (inside : i < 8) : mapByte (readMap bs) i = at0 bs i := by
  rw [← foldl_bits (at0 bs i), mapByte]
  congr 1
  funext acc b
  have place : i * 8 + b.val < 64 := by omega
  rw [dif_pos place, readMap, rd_tab, show (i * 8 + b.val) / 8 = i by omega, show (i * 8 + b.val) % 8 = b.val by omega]

theorem mapBytes_readMap (bs : List Byte) : mapBytes (readMap bs) = (List.range 8).map (at0 bs) :=
  List.map_congr_left fun _ inside => mapByte_readMap bs (List.mem_range.mp inside)

/-- A bus byte without further bits is the code of its buses (R162). -/
theorem code_readBuses {b : Byte} (few : b.toNat < 8) : (readBuses b).code = b := by
  revert b
  decide

theorem slot_bytes {r : List Byte} {c : SlotCfg} {t : Slot} (length : r.length = 27) (few : (at0 r 2).toNat < 8)
    (read : readSlotCfg r = some c) (stored : t.cfg = c) : t.bytes = r ++ [t.state.code] := by
  obtain ⟨_, node, read⟩ := field_of_read read
  obtain ⟨_, enabled, read⟩ := field_of_read read
  obtain rfl := Option.some.inj read
  obtain ⟨-, rfl⟩ := nodeField_eq_some.mp node
  have parts : r = (List.range 27).map (at0 r) := (map_at0_range length).symm
  have later (n : Nat) : (List.range 8).map (at0 (r.drop n)) = (List.range 8).map fun i => at0 r (n + i) :=
    List.map_congr_left fun i _ => by simp [at0]
  rw [Slot.bytes, stored]
  simp only [onOff_of_read enabled, code_readBuses few, mapBytes_readMap, later]
  exact congrArg (· ++ [t.state.code]) parts.symm

/-- Settles O8. -/
theorem recordsReadAsWritten : Obligations.RecordsReadAsWritten :=
  ⟨fun _ _ => bandEntry_bytes, fun _ _ => linkCfg_bytes, fun _ _ => window_bytes, fun _ _ => paletteEntry_bytes,
    fun _ _ => lampCondition_bytes, fun _ _ => talkSource_bytes, fun _ _ => xpointBytes_of_read, fun _ _ => settings_bytes,
    fun _ _ => mapRecord_bytes, fun _ _ _ _ => destBytes_written, fun _ _ _ => slot_bytes⟩

end Sys2Proof.Machine
end

section
/-! Proofs of the ring's rules: the records after a COLD_RESET (R165), arrivals in BYPASS (R172), the service of the Voice Queue
(R168) and the admission to the Control Queue (R169, R176, R187). -/

namespace Sys2Proof.Machine

/-! ## The cold records (R165) -/

/-- A COLD_RESET puts every record at its cold value and leaves the queue of commands (R165). -/
theorem exec_coldReset_cold (straps : Byte) (s : State) :
    exec (.coldReset straps) s = .next { State.cold straps s.pending with freeCtr := s.freeCtr } := rfl

/-- A number on the straps is a node address, or it is not (R165). -/
theorem strapsValid_iff {straps : Byte} : strapsValid straps = true ↔ 1 ≤ straps.toNat ∧ straps.toNat ≤ 239 := by
  simp [strapsValid]

/-- Settles O3. -/
theorem coldResetRecords : Obligations.ColdResetRecords := by
  intro straps s
  refine ⟨_, exec_coldReset_cold straps s, fun node => ?_, fun other => ?_, rfl, rfl, fun b => rd_replicate _ b,
    fun k => rd_replicate _ k, fun w => rd_replicate _ w, rfl, rfl, rfl, rfl, rfl,
    fun b => ⟨rd_replicate _ b, rd_replicate _ b⟩, rfl, fun b j => ?_, rfl, rfl, rfl, rfl, rfl, rfl, rfl, rfl,
    fun j => rd_replicate _ j, rfl, rfl, rfl, fun k => rd_replicate _ k, rfl, fun i => ?_, rfl, rfl,
    fun k => ⟨rd_replicate _ k, rd_replicate _ k⟩, rfl, rfl, rfl, fun i => ⟨rd_replicate _ i, rd_replicate _ i, fun d => ?_⟩,
    fun d => ⟨rd_replicate _ d, rd_replicate _ d, rd_replicate _ d, rd_replicate _ d⟩, rfl, rfl⟩
  · have valid := strapsValid_iff.mpr node
    exact ⟨if_pos valid, by simp [State.cold, Rif.cold, valid]⟩
  · have invalid : ¬strapsValid straps = true := fun valid => by
      obtain ⟨low, high⟩ := strapsValid_iff.mp valid
      omega
    exact ⟨if_neg invalid, by simp [State.cold, Rif.cold, invalid]⟩
  · exact (congrArg (fun v => rd v j) (rd_replicate _ b)).trans (rd_replicate _ j)
  · have slot : ({ State.cold straps s.pending with freeCtr := s.freeCtr } : State).slot i = .cold := rd_replicate _ i
    rw [slot]
    exact ⟨rfl, rfl, rfl, fun k => ⟨rd_replicate _ k, rd_replicate _ k, rd_replicate _ k⟩,
      fun x => ⟨rd_replicate _ x, rd_replicate _ x⟩, rfl, rfl, rfl⟩
  · exact (congrArg (fun v => rd v d) (rd_replicate _ i)).trans (rd_replicate _ d)

/-! ## The table of R172 -/

section
variable {r : Rif} {f : Frame}

/-- In BYPASS or with the mark set the table of R172 holds (R173). -/
theorem handling_bypass (away : r.mode = .bypass ∨ r.entry ≠ none) (ring : r.permanent = false) :
    r.handling f = r.bypassHandling f := by
  rw [Rif.handling, if_neg (by simp [ring]), if_neg]
  rcases away with bypass | marked
  · simp [bypass]
  · simp [Option.isNone_iff_eq_none, marked]

theorem bypassRequest_iff : f.payload.head?.any bypassRequest = true ↔
    ∃ c ∈ [Req.status, Req.identify, Req.resume], f.payload.head? = some c := by
  cases f.payload.head? with
  | none => simp
  | some c => simp [bypassRequest, or_assoc]

theorem bypassHandling_cmd (here : f.dst = r.node) (kind : f.kind = Kind.cmd)
    (taken : ∃ c ∈ [Req.status, Req.identify, Req.resume], f.payload.head? = some c) :
    r.bypassHandling f = { slot := true, hand := true } :=
  if_pos (by simp [here, kind, bypassRequest_iff.mpr taken])

/-- A frame that is no CMD taken in BYPASS is not consumed (R172). -/
theorem bypassHandling_passing (passing : ¬(f.dst = r.node ∧ f.kind = Kind.cmd
      ∧ ∃ c ∈ [Req.status, Req.identify, Req.resume], f.payload.head? = some c)) :
    r.bypassHandling f =
      if f.dst = r.node && f.kind = Kind.meter && f.payload.head? = some 0 then { slot := false, hand := true }
      else if f.kind = Kind.tally then { slot := false, hand := true }
      else { slot := f.kind = Kind.fill && r.wantsSlot, hand := false } := by
  rw [Rif.bypassHandling, if_neg]
  rw [Bool.and_eq_true, Bool.and_eq_true, decide_eq_true_eq, decide_eq_true_eq, bypassRequest_iff, and_assoc]
  exact passing

theorem bypassHandling_meter (here : f.dst = r.node) (kind : f.kind = Kind.meter) (form : f.payload.head? = some 0) :
    r.bypassHandling f = { slot := false, hand := true } := by
  rw [bypassHandling_passing fun ⟨_, cmd, _⟩ => by rw [kind] at cmd; exact absurd cmd (by decide)]
  exact if_pos (by simp [here, kind, form])

theorem bypassHandling_tally (kind : f.kind = Kind.tally) : r.bypassHandling f = { slot := false, hand := true } := by
  rw [bypassHandling_passing fun ⟨_, cmd, _⟩ => by rw [kind] at cmd; exact absurd cmd (by decide), if_pos kind, ite_self]

/-- What is neither consumed nor heard leaves a FILL slot only as a FILL frame whose slot the part wants (R172). -/
theorem bypassHandling_other (passing : ¬(f.dst = r.node ∧ f.kind = Kind.cmd
      ∧ ∃ c ∈ [Req.status, Req.identify, Req.resume], f.payload.head? = some c))
    (unheard : ¬(f.dst = r.node ∧ f.kind = Kind.meter ∧ f.payload.head? = some 0)) (other : f.kind ≠ Kind.tally) :
    r.bypassHandling f = { slot := f.kind = Kind.fill && r.wantsSlot, hand := false } := by
  rw [bypassHandling_passing passing, if_neg (by simpa [and_assoc] using unheard), if_neg other]

theorem wantsSlot_iff : r.wantsSlot = true ↔ r.entry ≠ none ∨ r.ctlQ ≠ [] := by
  simp [Rif.wantsSlot, Option.isSome_iff_ne_none]

end

/-- Settles O10. -/
theorem bypassArrivalTable : Obligations.BypassArrivalTable := by
  intro raw s ring away
  obtain ⟨live, notPermanent⟩ := onRing_iff.mp ring
  refine ⟨fun fails => congrArg _ (receiveBytes_fails live fails), fun f parsed => ?_⟩
  have handled {slot hand : Bool} (table : s.rif.bypassHandling f = { slot := slot, hand := hand }) :
      exec (.ringInFrame raw) s = .next (let t := { s with ringOut := if slot then .slot else .forwarded raw }
                                         if hand then deliver f t else t) :=
    congrArg _ (receiveBytes_passes live parsed ((handling_bypass away notPermanent).trans table))
  refine ⟨fun here kind taken => handled (bypassHandling_cmd here kind taken),
    fun here kind form => handled (bypassHandling_meter here kind form), fun kind => handled (bypassHandling_tally kind),
    fun kind => ?_, fun passing unheard other => ?_⟩
  · rw [handled (bypassHandling_other (fun ⟨_, cmd, _⟩ => by rw [kind] at cmd; exact absurd cmd (by decide))
      (fun ⟨_, meter, _⟩ => by rw [kind] at meter; exact absurd meter (by decide)) (by rw [kind]; decide))]
    by_cases wanted : s.rif.entry ≠ none ∨ s.rif.ctlQ ≠ []
    · simp [kind, wantsSlot_iff.mpr wanted, wanted]
    · simp [kind, Bool.eq_false_iff.mpr fun wants => wanted (wantsSlot_iff.mp wants), wanted]
  · obtain ⟨notTally, notFill⟩ : f.kind ≠ Kind.tally ∧ f.kind ≠ Kind.fill := by simpa using other
    rw [handled (bypassHandling_other passing unheard notTally)]
    simpa using fun fill => absurd fill notFill

/-! ## The Voice Queue (R168) -/

/-- Where a test holds somewhere, a first index of it stands no farther from the start. -/
theorem exists_firstFrom {n : Nat} (start : Fin n) {d : Fin n} {p : Fin n → Bool} (holds : p d = true) :
    ∃ e, firstFrom start e p ∧ (e - start).val ≤ (d - start).val := by
  obtain ⟨e, among, least⟩ := Finset.exists_min_image (Finset.univ.filter fun x => p x = true) (fun x => (x - start).val)
    ⟨d, by simp [holds]⟩
  refine ⟨e, ⟨by simpa using among, fun j nearer => Bool.eq_false_iff.mpr fun also => ?_⟩, least d (by simp [holds])⟩
  exact absurd (least j (by simp [also])) (by omega)

/-- The pointer moves on past a destination served before another's. -/
theorem distance_after {d e start : DestId} (nearer : (e - start).val < (d - start).val) :
    (d - (e + 1)).val < (d - start).val := by
  fin_omega

theorem fillTurns_succ {n : Nat} {s t : State} (turn : exec .fillSlot s = .next t) : fillTurns (n + 1) s = fillTurns n t := by
  rw [fillTurns, turn]

/-- A MIX frame is served before the voice pointer has passed its destination (R168). -/
theorem voice_served (d : DestId) (f : Frame) (m : Nat) : ∀ s : State, s.onRing = true → s.rif.entry = none →
    rd s.rif.voiceQ d = some f → (d - s.rif.voicePtr).val = m →
    ∃ n ≤ m, (fillTurns n s).rif.ctlQ = s.rif.ctlQ ∧ ∃ t : State, exec .fillSlot (fillTurns n s) = .next t
      ∧ t.ringOut = .sent { f with src := s.rif.node }.bytes ∧ rd t.rif.voiceQ d = none := by
  induction m using Nat.strong_induction_on with
  | _ m ih =>
    intro s ring clear waits distance
    obtain ⟨e, first, near⟩ := exists_firstFrom s.rif.voicePtr (p := fun x => (rd s.rif.voiceQ x).isSome) (d := d) (by simp [waits])
    obtain ⟨g, occupied⟩ := Option.isSome_iff_exists.mp first.1
    have turn := exec_fillSlot_voice ring clear first occupied
    by_cases itself : e = d
    · subst itself
      obtain rfl : g = f := Option.some.inj (occupied.symm.trans waits)
      exact ⟨0, Nat.zero_le m, rfl, _, turn, rfl, rd_wr_same _ _ _⟩
    · have nearer : (e - s.rif.voicePtr).val < (d - s.rif.voicePtr).val := by
        refine lt_of_le_of_ne near fun same => itself ?_
        simpa using congrArg (· + s.rif.voicePtr) (Fin.ext same : e - s.rif.voicePtr = d - s.rif.voicePtr)
      obtain ⟨n, few, kept, served⟩ := ih (d - (e + 1)).val (by rw [← distance]; exact distance_after nearer) 
        ((s.send g).onRif fun r => { r with voiceQ := wr r.voiceQ e none, voicePtr := e + 1 }) ring clear
        ((rd_wr_ne _ _ _ _ itself).trans waits) rfl
      rw [← fillTurns_succ turn] at kept served
      have := distance_after nearer
      exact ⟨n + 1, by omega, kept, served⟩

/-- Settles O12. -/
theorem voiceServedWithin32 : Obligations.VoiceServedWithin32 := by
  intro s d f ring clear waits
  obtain ⟨n, few, served⟩ := voice_served d f _ s ring clear waits rfl
  exact ⟨n, by have := (d - s.rif.voicePtr).isLt; omega, served⟩

/-! ## Admission to the Control Queue (R169, R176, R187) -/

section
variable {r : Rif} {q : Queued} {f : Frame}

theorem admitted_below (room : r.ctlQ.length < 24) : r.admitted q = some { r with ctlQ := r.ctlQ ++ [q] } := if_pos room

theorem admitNote_below (room : r.ctlQ.length < 24) :
    r.admitNote f = { r with ctlQ := r.ctlQ ++ [{ cls := .note, frame := f }] } := if_pos room

theorem admitCell_below (room : r.ctlQ.length < 24) :
    r.admitCell f = some { r with ctlQ := r.ctlQ ++ [{ cls := .note, frame := f }] } := if_pos room

theorem admitted_full (full : 24 ≤ r.ctlQ.length) : r.admitted q =
    if r.ctlQ.any Queued.isNote then some { r with ctlQ := dropYoungestNote r.ctlQ ++ [q], notesLost := true } else none :=
  if_neg (Nat.not_lt.mpr full)

theorem admitNote_full (full : 24 ≤ r.ctlQ.length) : r.admitNote f = { r with notesLost := true } := if_neg (Nat.not_lt.mpr full)

theorem admitCell_full (full : 24 ≤ r.ctlQ.length) : r.admitCell f = none := if_neg (Nat.not_lt.mpr full)

/-- The youngest NOTE is the last of the queue (R169). -/
theorem dropYoungestNote_split {a b : List Queued} {n : Queued} (note : n.cls = .note) (youngest : ∀ x ∈ b, x.cls ≠ .note) :
    dropYoungestNote (a ++ n :: b) = a ++ b := by
  rw [dropYoungestNote, List.reverse_append, List.reverse_cons, List.append_assoc,
    List.eraseP_append_right _ fun x among => by simpa [Queued.isNote] using youngest x (List.mem_reverse.mp among)]
  simp [Queued.isNote, note]

theorem admitted_displaces {a b : List Queued} {n : Queued} (full : 24 ≤ r.ctlQ.length) (queue : r.ctlQ = a ++ n :: b)
    (note : n.cls = .note) (youngest : ∀ x ∈ b, x.cls ≠ .note) :
    r.admitted q = some { r with ctlQ := a ++ b ++ [q], notesLost := true } := by
  have held : r.ctlQ.any Queued.isNote = true := by simp [queue, Queued.isNote, note]
  rw [admitted_full full, if_pos held, queue, dropYoungestNote_split note youngest]

theorem admitted_refused (full : 24 ≤ r.ctlQ.length) (noNote : ∀ x ∈ r.ctlQ, x.cls ≠ .note) : r.admitted q = none := by
  rw [admitted_full full, if_neg]
  simpa [Queued.isNote] using noNote

end

section
variable {s : State} {f : Frame}

theorem offerRsp_admitted {r : Rif} (taken : s.rif.admitted { cls := .rsp, frame := f } = some r) :
    offerRsp f s = { s with rif := r } := by
  rw [offerRsp, taken]
  rfl

theorem keep_room {m : Mgr} (room : m.hold.length < 6) : m.keep f = { m with hold := m.hold ++ [f] } := if_pos room

theorem keep_full {m : Mgr} (full : 6 ≤ m.hold.length) : m.keep f = m := if_neg (Nat.not_lt.mpr full)

theorem offerRsp_kept (refused : s.rif.admitted { cls := .rsp, frame := f } = none) :
    offerRsp f s = { s with mgr := s.mgr.keep f } := by
  rw [offerRsp, refused]
  rfl

/-- Notes are formed with a report node set and in NORMAL mode (R187). -/
theorem notesOn_iff : s.notesOn = true ↔ s.mgr.settings.reportNode ≠ 0 ∧ s.rif.mode = .normal := by
  simp [State.notesOn, State.normal]

theorem note_formed (kind : NoteKind) (fields : List Byte) (node : s.mgr.settings.reportNode ≠ 0) (normal : s.rif.mode = .normal) :
    note kind fields s = { s with rif := s.rif.admitNote { kind := Kind.note, dst := s.mgr.settings.reportNode,
                                                           src := s.rif.node, payload := kind.code :: fields } } := by
  simp only [note, notesOn_iff.mpr ⟨node, normal⟩, if_true]
  rfl

theorem note_silent (kind : NoteKind) (fields : List Byte) (silent : s.mgr.settings.reportNode = 0 ∨ s.rif.mode = .bypass) :
    note kind fields s = s := by
  have off : s.notesOn = false := Bool.eq_false_iff.mpr fun on => by
    obtain ⟨node, normal⟩ := notesOn_iff.mp on
    rcases silent with none | bypass
    · exact node none
    · rw [normal] at bypass
      cases bypass
  simp only [note, off]
  rfl

end

/-- Settles O13. -/
theorem controlQueueAdmission : Obligations.ControlQueueAdmission :=
  ⟨fun _ _ _ room => ⟨admitted_below room, admitNote_below room, admitCell_below room⟩,
    fun _ _ _ full => ⟨admitNote_full full, admitCell_full full, fun _ _ _ => admitted_displaces full, admitted_refused full⟩,
    fun _ _ _ => offerRsp_admitted,
    fun s f refused => ⟨fun room => by rw [offerRsp_kept refused, keep_room room],
      fun full => by rw [offerRsp_kept refused, keep_full full]⟩,
    fun _ => note_formed, fun _ => note_silent⟩

end Sys2Proof.Machine
end

section
/-! Proofs of the lamps and of the queue-space event: the building of LAMP frames (R135, R136, R139, R140), the writes of the Lamp
Driver's tables (R133, R134, R141), and which producer takes a freed place (R170). -/

namespace Sys2Proof.Machine

/-! ## Which LAMP frame is built (R140) -/

/-- Counting up from a start meets the first index of a test. -/
theorem find?_firstFrom {n : Nat} [NeZero n] {start k : Fin n} {p : Fin n → Bool} (first : firstFrom start k p) :
    ((List.finRange n).map fun i => start + i).find? p = some k := by
  obtain ⟨holds, before⟩ := first
  obtain ⟨nearer, farther, split, lt⟩ := finRange_eq (k - start)
  rw [List.find?_map, Option.map_eq_some_iff]
  refine ⟨k - start, ?_, by simp⟩
  rw [split, List.find?_append, List.find?_eq_none.mpr fun i earlier => ?_, List.find?_cons]
  · simp [holds]
  · have free := before (start + i) (by simpa using lt i earlier)
    simp [free]

section
variable {s : State} {k : LinkId}

theorem nextDue_eq_some (first : firstFrom s.lmp.next k s.lmp.due) : s.lmp.nextDue = some k := find?_firstFrom first

theorem nextDue_eq_none (noDue : ∀ k, s.lmp.due k = false) : s.lmp.nextDue = none :=
  List.find?_eq_none.mpr fun k _ => by simp [noDue]

theorem offerLamp_silent (silent : s.rif.mode = .bypass ∨ ∀ k, s.lmp.due k = false) : offerLamp s = s := by
  unfold offerLamp
  rcases silent with bypass | none
  · exact if_neg (by simp [State.normal, bypass])
  · rw [nextDue_eq_none none]
    exact ite_self s

section
variable (normal : s.rif.mode = .normal) (first : firstFrom s.lmp.next k s.lmp.due)
include normal first

theorem offerLamp_first : offerLamp s = match s.rif.admitted { cls := .lamp, frame := (s.buildLamp k).1 } with
    | some r => { s with rif := r, lmp := (s.buildLamp k).2 }
    | none => s := by
  unfold offerLamp
  rw [if_pos (by simp [State.normal, normal]), nextDue_eq_some first]
  rfl

theorem offerLamp_admitted {r : Rif} (taken : s.rif.admitted { cls := .lamp, frame := (s.buildLamp k).1 } = some r) :
    offerLamp s = { s with rif := r, lmp := (s.buildLamp k).2 } := by
  rw [offerLamp_first normal first, taken]

theorem offerLamp_refused (refused : s.rif.admitted { cls := .lamp, frame := (s.buildLamp k).1 } = none) : offerLamp s = s := by
  rw [offerLamp_first normal first, refused]

end

theorem buildLamp_dark {n : Node} (debt : rd s.lmp.debts k = some n) : s.buildLamp k =
    ({ kind := Kind.lamp, dst := n, src := s.rif.node, payload := [byte k.val, 0, 0, 0, 0, 0, 0, 0, 0] },
      { s.lmp with debts := wr s.lmp.debts k none, next := k }) := by
  rw [State.buildLamp, debt]
  rfl

theorem buildLamp_lit (noDebt : rd s.lmp.debts k = none) : s.buildLamp k =
    ({ kind := Kind.lamp, dst := (s.link k).cfg.lampNode, src := s.rif.node
       payload := [byte k.val, (s.lamp k).cadence.code, (s.lamp k).primary.red, (s.lamp k).primary.green,
         (s.lamp k).primary.blue, (s.lamp k).secondary.red, (s.lamp k).secondary.green, (s.lamp k).secondary.blue,
         byte (s.lamp k).brightness] },
      { s.lmp with pending := wr s.lmp.pending k false, next := k + 1 }) := by
  rw [State.buildLamp, noDebt]
  rfl

/-! ## The refresh (R139) -/

theorem refreshExpiry_stopped (stopped : s.lmp.refresh = none) : refreshExpiry s = s := if_neg (by simp [stopped])

theorem refreshExpiry_running (running : s.lmp.refresh ≠ none) : refreshExpiry s = { s with
    lmp := { s.lmp with
      pending := tab fun k => rd s.lmp.pending k || s.eligible k
      refresh := some (1000 * s.mgr.settings.lampRefresh) } } := by
  rw [refreshExpiry, if_pos (Option.isSome_iff_ne_none.mpr running)]
  simp only [lampRefreshStart, lampPendAll, lampPendWhere, State.onLmp, Bool.true_and]

/-! ## The composed lamp (R135, R136) -/

/-- The lamp of a condition other than PROGRAM and OFF, or of PROGRAM without the blend (R136). -/
def State.shown (s : State) (k : LinkId) (i : Fin 6) : Lamp :=
  { cadence := (rd s.lmp.conditions i).cadence, primary := (s.lmp.entryOf i).colour, secondary := (rd s.lmp.palette 0).colour
    brightness := trimmed (s.lmp.entryOf i).brightness (s.link k).cfg.trim }

theorem called_iff : s.called k = true ↔ ∃ d, (s.link k).cfg.talkback = some d ∧ rd s.tbm.call d = true := by
  unfold State.called
  split
  · next d named => simp [named]
  · next unnamed => simp [unnamed]

theorem warns_iff (l : Link) : l.warns = true ↔ l.carrier.state = .uncertain ∨ l.carrier.state = .lost
    ∨ l.carrier.phase = .tuning ∨ l.carrier.phase = .reverting ∨ l.health.grade = .down := by
  simp [Link.warns, or_assoc]

theorem lamp_test (kind : s.lampKind k = .test) : s.lamp k = s.shown k 0 := by
  rw [State.lamp, kind]
  rfl

theorem lamp_program (kind : s.lampKind k = .program) (plain : (s.link k).cfg.blendLamp = false ∨ (s.link k).tally.preview = false) :
    s.lamp k = s.shown k 1 := by
  rw [State.lamp, kind]
  exact if_neg (by rcases plain with off | off <;> simp [off])

theorem lamp_blend (kind : s.lampKind k = .program) (blend : (s.link k).cfg.blendLamp = true)
    (preview : (s.link k).tally.preview = true) :
    s.lamp k = { s.shown k 1 with cadence := .alternate, secondary := (s.lmp.entryOf 3).colour } := by
  rw [State.lamp, kind]
  exact if_pos (by simp [blend, preview])

theorem lamp_call (kind : s.lampKind k = .call) : s.lamp k = s.shown k 2 := by
  rw [State.lamp, kind]
  rfl

theorem lamp_preview (kind : s.lampKind k = .preview) : s.lamp k = s.shown k 3 := by
  rw [State.lamp, kind]
  rfl

theorem lamp_iso (kind : s.lampKind k = .iso) : s.lamp k = s.shown k 4 := by
  rw [State.lamp, kind]
  rfl

theorem lamp_warning (kind : s.lampKind k = .warning) : s.lamp k = s.shown k 5 := by
  rw [State.lamp, kind]
  rfl

theorem lamp_off (kind : s.lampKind k = .off) : s.lamp k =
    { cadence := .steady, primary := (rd s.lmp.palette 0).colour, secondary := (rd s.lmp.palette 0).colour
      brightness := trimmed (rd s.lmp.palette 0).brightness (s.link k).cfg.trim } := by
  rw [State.lamp, kind]

end

/-- Settles O57. -/
theorem lampFramesBuilt : Obligations.LampFramesBuilt := by
  refine ⟨fun s live => ?_, fun s live => ?_, fun s k l entry shown called warns isLink entries isShown isCalled isWarning => ?_⟩
  · have build : exec .lampFrameBuild s = .next (offerLamp s.quieted) := congrArg _ (event_live live offerLamp)
    refine ⟨fun silent => ?_, fun k normal first f after built => ?_⟩
    · rw [build, offerLamp_silent (s := s.quieted) silent]
    · have frame : s.quieted.buildLamp k = (f, after) := by
        rcases built with ⟨n, debt, rfl, rfl⟩ | ⟨noDebt, rfl, rfl⟩
        · exact buildLamp_dark (s := s.quieted) debt
        · exact buildLamp_lit (s := s.quieted) noDebt
      refine ⟨fun r taken => ?_, fun refused => ?_⟩
      · rw [build, offerLamp_admitted (s := s.quieted) normal first (by rw [frame]; exact taken), frame]
        rfl
      · rw [build, offerLamp_refused (s := s.quieted) normal first (by rw [frame]; exact refused)]
  · have expiry : exec .lampRefreshExpiry s = .next (refreshExpiry s.quieted) := congrArg _ (event_live live refreshExpiry)
    refine ⟨fun stopped => ?_, fun running => ?_⟩
    · rw [expiry, refreshExpiry_stopped (s := s.quieted) stopped]
    · rw [expiry, refreshExpiry_running (s := s.quieted) running]
      rfl
  · subst isLink
    obtain rfl : entry = s.lmp.entryOf := funext entries
    obtain rfl : shown = s.shown k := funext isShown
    rw [← called_iff (s := s) (k := k)] at isCalled
    rw [← warns_iff (s.link k)] at isWarning
    subst isCalled isWarning
    refine ⟨fun test => lamp_test ?_, fun test => ⟨fun program => ⟨lamp_program ?_, lamp_blend ?_⟩,
      fun program => ⟨fun call => lamp_call ?_, fun call => ⟨fun preview => lamp_preview ?_,
        fun preview => ⟨fun iso => lamp_iso ?_, fun iso => ⟨fun warning => lamp_warning ?_, fun warning => lamp_off ?_⟩⟩⟩⟩⟩⟩
    all_goals simp [State.lampKind, *]

/-! ## WRITE to PALETTE and CONDITION, and LAMP_TEST (R133, R134, R141) -/

section
variable {h : CmdHead} {table : Byte} {index : Half} {record : List Byte} {s : State}

/-- A taken WRITE is answered as its rule says (R175, R180). -/
theorem receiveWrite_taken {n : Nat} {f : Write} {st : RspStatus} {results : List Byte} {t : State}
    (taken : s.takesWrite h table index record = true) (length : record.length = n)
    (rule : f index.toNat record s.handed = { status := st, results := results, state := t })
    (unmarked : t.rif.entry = s.rif.entry) :
    receiveWrite h table n f index record s = reply h Req.write st results t := by
  have written : ofRecord n f index.toNat record s.handed = { status := st, results := results, state := t } :=
    (if_pos length).trans rule
  rw [receiveWrite, receiveCmd_taken _ taken, answered]
  simp only [written]
  exact answerCmd_offers (unmarked.trans (takes_entry taken)) _ _

/-- A taken WRITE that its rule refuses (R175, R180). -/
theorem receiveWrite_refused {n : Nat} {f : Write} {st : RspStatus} (taken : s.takesWrite h table index record = true)
    (length : record.length = n) (rule : f index.toNat record s.handed = refuse st s.handed) :
    receiveWrite h table n f index record s = reply h Req.write st [] s.handed := receiveWrite_taken taken length rule rfl

/-- A record of another length is refused RANGE (R180). -/
theorem receiveWrite_length {n : Nat} {f : Write} (taken : s.takesWrite h table index record = true) (length : record.length ≠ n) :
    receiveWrite h table n f index record s = reply h Req.write .range [] s.handed := by
  have written : ofRecord n f index.toNat record s.handed = refuse .range s.handed := if_neg length
  rw [receiveWrite, receiveCmd_taken _ taken, answered]
  simp only [written]
  exact answerCmd_offers (s := s.handed) (takes_entry taken) _ _

theorem finField_none {n k : Nat} (above : n ≤ k) : finField n k = none := dif_neg (by omega)

theorem finField_some {n k : Nat} {i : Fin n} (named : k = i.val) : finField n k = some i := by rw [named, finField_val]

end

section
variable {s : State} {index : Nat}

theorem lampPendAll_eq {all : Vector Bool 64} (every : ∀ k, rd all k = (rd s.lmp.pending k || s.eligible k)) :
    lampPendAll s = { s with lmp := { s.lmp with pending := all } } := by
  have same : (tab fun k => rd s.lmp.pending k || s.eligible k) = all := tab_ext fun k => by rw [rd_tab, every]
  simp only [lampPendAll, lampPendWhere, State.onLmp, Bool.true_and, same]

theorem writePalette_noSuch {record : List Byte} (above : 8 ≤ index) : writePalette index record s = refuse .noSuch s := by
  rw [writePalette, finField_none above]

theorem readPalette_eq (r g b l : Byte) : readPalette [r, g, b, l] =
    (inRange 0 15 l.toNat).bind fun n => some { colour := { red := r, green := g, blue := b }, brightness := n } := rfl

theorem writePalette_range {record : List Byte} {x : Fin 8} (named : index = x.val) (unread : readPalette record = none) :
    writePalette index record s = refuse .range s := by
  rw [writePalette, finField_some named, unread]

theorem writePalette_taken {record : List Byte} {x : Fin 8} {e : PaletteEntry} (named : index = x.val)
    (read : readPalette record = some e) :
    writePalette index record s = accept (lampPendAll (s.onLmp fun l => { l with palette := wr l.palette x e })) := by
  rw [writePalette, finField_some named, read]

theorem writeCondition_noSuch {record : List Byte} (above : 6 ≤ index) : writeCondition index record s = refuse .noSuch s := by
  rw [writeCondition, finField_none above]

theorem readCondition_eq (p c : Byte) : readCondition [p, c] =
    (finField 8 p.toNat).bind fun i => (readCadence c).bind fun d => some { palette := i, cadence := d } := rfl

theorem readCadence_code (c : Cadence) : readCadence c.code = some c := by cases c <;> rfl

theorem readCadence_none {b : Byte} (above : 4 ≤ b.toNat) : readCadence b = none := by
  unfold readCadence
  repeat rw [if_neg (by rintro rfl; exact absurd above (by decide))]

theorem writeCondition_range {record : List Byte} {x : Fin 6} (named : index = x.val) (unread : readCondition record = none) :
    writeCondition index record s = refuse .range s := by
  rw [writeCondition, finField_some named, unread]

theorem writeCondition_taken {record : List Byte} {x : Fin 6} {e : LampCondition} (named : index = x.val)
    (read : readCondition record = some e) :
    writeCondition index record s = accept (lampPendAll (s.onLmp fun l => { l with conditions := wr l.conditions x e })) := by
  rw [writeCondition, finField_some named, read]

end

/-- Settles O27. -/
theorem lampWrites : Obligations.LampWrites := by
  intro h s all every
  refine ⟨fun i r => ⟨fun taken length => congrArg _ (receiveWrite_length taken length),
    fun taken length => congrArg _ (receiveWrite_length taken length)⟩, fun i r g b l taken => ?_, fun i p c taken => ?_,
    fun v taken => ?_⟩
  · refine ⟨fun above => congrArg _ (receiveWrite_refused taken rfl (writePalette_noSuch above)), fun x named => ⟨fun dim => ?_,
      fun lit => ?_⟩⟩
    · refine congrArg _ (receiveWrite_refused taken rfl (writePalette_range named ?_))
      rw [readPalette_eq, inRange, given, if_neg (by simpa using dim)]
      rfl
    · have read : readPalette [r, g, b, l] = some { colour := { red := r, green := g, blue := b }, brightness := l.toNat } := by
        rw [readPalette_eq, inRange_eq_some.mpr ⟨⟨Nat.zero_le _, lit⟩, rfl⟩]
        rfl
      refine congrArg _ (receiveWrite_taken taken rfl ((writePalette_taken named read).trans ?_) ?_)
      · rw [lampPendAll_eq (all := all)]
        · rfl
        · exact every
      · rfl
  · refine ⟨fun above => congrArg _ (receiveWrite_refused taken rfl (writeCondition_noSuch above)), fun x named => ⟨fun outside => ?_,
      fun y cad palette cadence => ?_⟩⟩
    · refine congrArg _ (receiveWrite_refused taken rfl (writeCondition_range named ?_))
      rw [readCondition_eq]
      rcases outside with above | above
      · rw [finField_none above]
        rfl
      · rw [readCadence_none above]
        cases finField 8 p.toNat <;> rfl
    · subst cadence
      have read : readCondition [p, cad.code] = some { palette := y, cadence := cad } := by
        rw [readCondition_eq, finField_some palette, readCadence_code]
        rfl
      refine congrArg _ (receiveWrite_taken taken rfl ((writeCondition_taken named read).trans ?_) ?_)
      · rw [lampPendAll_eq (all := all)]
        · rfl
        · exact every
      · rfl
  · have answer {st : RspStatus} {t : State} (rule : lampTest [v] s.handed = { status := st, results := [], state := t })
        (unmarked : t.rif.entry = s.rif.entry) : exec (.lampTest h [v]) s = .next (reply h Req.lampTest st [] t) := by
      refine congrArg _ ((receiveCmd_taken _ taken).trans ?_)
      rw [answered, show ofLength 1 lampTest [v] s.handed = _ from rule]
      exact answerCmd_offers (unmarked.trans (takes_entry taken)) _ _
    refine ⟨fun onOff => answer ?_ rfl, fun notOff notOn => answer (show lampTest [v] s.handed = refuse .range s.handed from ?_) rfl⟩
    · have read : readOnOff v = some (decide (v = 1)) := by
        rcases onOff with rfl | rfl <;> rfl
      rw [lampTest, show at0 [v] 0 = v from rfl, read]
      simp only [accept]
      rw [lampPendAll_eq (all := all)]
      · rfl
      · exact every
    · rw [lampTest, show at0 [v] 0 = v from rfl, readOnOff, if_neg notOff, if_neg notOn]

/-! ## The queue-space event (R170) -/

section
variable {s : State}

theorem exec_queueSpaceEvent (s : State) : exec .queueSpaceEvent s = .next (event queueSpaceEvent s) := rfl

theorem queueSpace_full (full : 24 ≤ s.rif.ctlQ.length) : queueSpace s = s := if_neg (Nat.not_lt.mpr full)

section
variable (room : s.rif.ctlQ.length < 24)
include room

theorem queueSpace_tune {h : HeldTune} {rest : List HeldTune} (held : s.rte.hold = h :: rest) : queueSpace s = { s with
    rif := { s.rif with ctlQ := s.rif.ctlQ ++ [{ cls := .tune, frame := h.frame }] }
    rte := { s.rte with
      hold := rest
      tuneTimer := if h.awaited = true ∧ s.rte.active ≠ none ∧ ∀ x ∈ rest, x.awaited = false then
          some s.mgr.settings.tuneTimeout else s.rte.tuneTimer } } := by
  have room' : s.rif.ctlQ.length < Config.controlCapacity := room
  rw [queueSpace, if_pos room', held]
  simp only [offerTunes, onRte_rif, admitted_below room]
  by_cases starts : h.awaited = true ∧ s.rte.active ≠ none ∧ ∀ x ∈ rest, x.awaited = false
  · obtain ⟨awaited, active, others⟩ := starts
    rw [if_pos (show (List.isEmpty ([] : List HeldTune) && h.awaited) = true from awaited), tuneAccepted,
      if_pos (by simpa [Option.isSome_iff_ne_none] using ⟨active, others⟩), if_pos ⟨awaited, active, others⟩]
    rfl
  · rw [if_neg starts]
    by_cases awaited : h.awaited = true
    · rw [if_pos (show (List.isEmpty ([] : List HeldTune) && h.awaited) = true from awaited), tuneAccepted, if_neg]
      · rfl
      · intro accepted
        exact starts ⟨awaited, by simpa [Option.isSome_iff_ne_none] using accepted⟩
    · rw [if_neg (show ¬(List.isEmpty ([] : List HeldTune) && h.awaited) = true from awaited)]
      rfl

section
variable (noTune : s.rte.hold = [])
include noTune

theorem queueSpace_lamp {k : LinkId} (normal : s.rif.mode = .normal) (first : firstFrom s.lmp.next k s.lmp.due) :
    queueSpace s = { s with
      rif := { s.rif with ctlQ := s.rif.ctlQ ++ [{ cls := .lamp, frame := (s.buildLamp k).1 }] }
      lmp := (s.buildLamp k).2 } := by
  have due : s.lampDue = true := by simp [State.lampDue, State.normal, normal, nextDue_eq_some first]
  have room' : s.rif.ctlQ.length < Config.controlCapacity := room
  rw [queueSpace, if_pos room', noTune]
  simp only [due, if_true]
  exact offerLamp_admitted normal first (admitted_below room)

section
variable (noLamp : s.rif.mode = .bypass ∨ ∀ k, s.lmp.due k = false)
include noLamp

/-- Without a held TUNE frame and a LAMP frame due the place goes to the holds of the SWP and the MGR (R170). -/
theorem queueSpace_holds : queueSpace s = match s.swp.probeHold with
    | some h => offerProbe h s
    | none => match s.mgr.hold with
      | f :: rest => offerRsp f (s.onMgr fun m => { m with hold := rest })
      | [] => match s.swp.reportHold with
        | some f => offerReport keepProbe f s
        | none => s := by
  have notDue : s.lampDue = false := by
    rcases noLamp with bypass | none
    · simp [State.lampDue, State.normal, bypass]
    · simp [State.lampDue, nextDue_eq_none none]
  have room' : s.rif.ctlQ.length < Config.controlCapacity := room
  rw [queueSpace, if_pos room', noTune]
  simp only [notDue]
  rfl

theorem queueSpace_probe {p : HeldProbe} (held : s.swp.probeHold = some p) : queueSpace s = { s with
    rif := { s.rif with ctlQ := s.rif.ctlQ ++ [{ cls := .probe, frame := p.frame }] }
    swp := { s.swp with probe := some p.probe, probeTimer := some (s.swp.cfg.dwell + 20), probeHold := none } } := by
  rw [queueSpace_holds room noTune noLamp, held]
  simp only [offerProbe, admitted_below room]
  rfl

section
variable (noProbe : s.swp.probeHold = none)
include noProbe

theorem queueSpace_rsp {f : Frame} {rest : List Frame} (held : s.mgr.hold = f :: rest) : queueSpace s = { s with
    rif := { s.rif with ctlQ := s.rif.ctlQ ++ [{ cls := .rsp, frame := f }] }
    mgr := { s.mgr with hold := rest } } := by
  rw [queueSpace_holds room noTune noLamp, noProbe, held]
  exact offerRsp_admitted (admitted_below room)

section
variable (noRsp : s.mgr.hold = [])
include noRsp

theorem queueSpace_nothing (noReport : s.swp.reportHold = none) : queueSpace s = s := by
  rw [queueSpace_holds room noTune noLamp, noProbe, noRsp, noReport]

section
variable {f : Frame} (held : s.swp.reportHold = some f) {u : State} (isAfter : u = { s with
  rif := { s.rif with ctlQ := s.rif.ctlQ ++ [{ cls := .note, frame := f }] }
  swp := { s.swp with reportHold := none, cursor := s.swp.cursor + 1 } })
include held isAfter

/-- The held CELL report is admitted, and the sweep goes on (R74, R170). -/
theorem queueSpace_report : ∃ w : State, w.cellDone = u ∧ queueSpace s = sweepOnBy keepProbe w := by
  refine ⟨(s.onRif fun r => { r with ctlQ := r.ctlQ ++ [{ cls := .note, frame := f }] }).onSwp fun w =>
    { w with reportHold := none }, isAfter.symm, ?_⟩
  rw [queueSpace_holds room noTune noLamp, noProbe, noRsp, held]
  simp only [offerReport, admitCell_below room]
  rfl

theorem queueSpace_reportWaits {j pos : Nat} (next : u.nextIs j pos) (step : s.swp.cfg.mode = .step) :
    queueSpace s = { u with swp := { u.swp with state := .waiting } } := by
  obtain ⟨w, done, event⟩ := queueSpace_report room noTune noLamp noProbe noRsp held isAfter
  have mode : w.swp.cfg.mode = .step := by rw [← step, show w.swp.cfg = w.cellDone.swp.cfg from rfl, done, isAfter]
  rw [event, sweepOnBy_waits mode (done ▸ next), done]
  rfl

theorem queueSpace_reportTakes {v : State} (goes : s.swp.cfg.mode ≠ .step ∨ u.passOver) (next : u.takesNext v true) :
    queueSpace s = v := by
  obtain ⟨w, done, event⟩ := queueSpace_report room noTune noLamp noProbe noRsp held isAfter
  have mode : w.swp.cfg.mode = s.swp.cfg.mode := by rw [show w.swp.cfg = w.cellDone.swp.cfg from rfl, done, isAfter]
  rw [event]
  exact sweepOnBy_takesNext (waits := true) (by rw [mode, done]; exact goes) (done ▸ next)

end

end

end

end

end

end

end

/-- Settles O14. -/
theorem queueSpaceServesInOrder : Obligations.QueueSpaceServesInOrder := by
  refine ⟨fun s live => ⟨fun owed => ?_, fun notOwed => ?_⟩, fun s => ⟨queueSpace_full, fun room => ⟨fun h rest held =>
    queueSpace_tune room held, fun noTune => ⟨fun k normal first => queueSpace_lamp room noTune normal first, fun noLamp =>
    ⟨fun p held => queueSpace_probe room noTune noLamp held, fun noProbe =>
    ⟨fun f rest held => queueSpace_rsp room noTune noLamp noProbe held, fun noRsp =>
    ⟨fun f held u isAfter => ⟨fun j pos next => ⟨fun step => ?_, fun notStep => ?_⟩, fun v spent next => ?_⟩,
      fun noReport => queueSpace_nothing room noTune noLamp noProbe noRsp noReport⟩⟩⟩⟩⟩⟩⟩
  · rw [exec_queueSpaceEvent, event_live live, queueSpaceEvent,
      if_pos (show s.quieted.rif.spaceOwed = true from owed)]
    rfl
  · rw [exec_queueSpaceEvent, event_live live, queueSpaceEvent, if_neg (show ¬s.quieted.rif.spaceOwed = true from
      Bool.eq_false_iff.mp notOwed)]
  · exact queueSpace_reportWaits room noTune noLamp noProbe noRsp held isAfter next step
  · exact queueSpace_reportTakes room noTune noLamp noProbe noRsp held isAfter (.inl notStep) (.inl ⟨j, pos, next, rfl⟩)
  · exact queueSpace_reportTakes room noTune noLamp noProbe noRsp held isAfter (.inr spent) next

end Sys2Proof.Machine
end

section
/-! Proofs of the management requests: IDENTIFY, STATUS, READ and READ_LOG, requests that are refused, the show lock and its key
(R37, R175, R178 to R180, R184). -/

namespace Sys2Proof.Machine

/-! ## A request that is taken (R172, R175) -/

section
variable {h : CmdHead} {code : Byte} {params : List Byte} {s : State}

/-- The three requests of R172 are taken in BYPASS as well. -/
theorem receiveCmd_inBypass (f : Handler) (request : bypassRequest code = true) (taken : s.takesInBypass h code params = true) :
    receiveCmd h code params f s = f h.asker params s.handed := by
  simp only [State.takesInBypass, Bool.and_eq_true, decide_eq_true_eq, Option.isNone_iff_eq_none] at taken
  obtain ⟨⟨⟨⟨⟨ring, bypass⟩, -⟩, passes⟩, here⟩, room⟩ := taken
  obtain ⟨live, notPermanent⟩ := onRing_iff.mp ring
  have handled : s.rif.handling { kind := Kind.cmd, dst := h.dst, src := h.src, payload := code :: h.id :: params }
      = { slot := true, hand := true } := by
    rw [handling_bypass (.inl bypass) notPermanent, Rif.bypassHandling]
    exact if_pos (by simp [here, request])
  have notHeld : ¬Config.holdLimit ≤ s.mgr.hold.length := Nat.not_le.mpr room
  rw [show receiveCmd h code params f s
    = receiveFrame Kind.cmd h.frame (code :: h.id :: params) (manage f h.asker params) s from rfl, receiveFrame_passes live passes]
  simp only [CmdHead.frame, handled]
  exact if_neg notHeld

theorem takesInBypass_entry (taken : s.takesInBypass h code params = true) : s.rif.entry = none := by
  simp only [State.takesInBypass, Bool.and_eq_true, Option.isNone_iff_eq_none] at taken
  exact taken.1.1.1.2

section
variable (taken : s.takes h code params = true)
include taken

/-- A taken request is answered as its rule says (R175). -/
theorem receiveCmd_replies {f : Request} {st : RspStatus} {results : List Byte} {t : State}
    (rule : f params s.handed = { status := st, results := results, state := t }) (unmarked : t.rif.entry = s.rif.entry) :
    receiveCmd h code params (answered code f) s = reply h code st results t := by
  rw [receiveCmd_taken _ taken, answered, rule]
  exact answerCmd_offers (unmarked.trans (takes_entry taken)) _ _

/-- A taken request that its rule refuses (R175). -/
theorem receiveCmd_refused {f : Request} {st : RspStatus} (rule : f params s.handed = refuse st s.handed) :
    receiveCmd h code params (answered code f) s = reply h code st [] s.handed := receiveCmd_replies taken rule rfl

/-- A parameter list of another length is refused RANGE (R175). -/
theorem receiveCmd_length {n : Nat} {f : Request} (length : params.length ≠ n) :
    receiveCmd h code params (answered code (ofLength n f)) s = reply h code .range [] s.handed :=
  receiveCmd_refused taken (if_neg length)

/-- A request that its handler answers RANGE at once (R175, R182). -/
theorem receiveCmd_range {f : Handler}
    (refused : f h.asker params s.handed = answerCmd (s.handed.rspFrame code h.asker .range []) false s.handed) :
    receiveCmd h code params f s = reply h code .range [] s.handed := by
  rw [receiveCmd_taken _ taken, refused]
  exact answerCmd_offers (s := s.handed) (takes_entry taken) _ _

/-- The bytes of a CMD that is taken reach the handler of its code (R161, R162). -/
theorem exec_wire_taken : exec (.ringInFrame (h.wire code params)) s = .next (handler code h.asker params s.handed) := by
  have fits : params.length + 2 ≤ 240 := by
    simp only [State.takes, State.consumes, FrameHead.passes, Bool.and_eq_true, decide_eq_true_eq] at taken
    obtain ⟨⟨⟨⟨-, ⟨fits, -⟩⟩, -⟩, -⟩, -⟩ := taken
    exact fits
  rw [exec_ringInFrame, ← receiveCmd_bytes h (f := handler code) s fits fun _ _ => rfl, receiveCmd_taken _ taken]

end

/-- A request of R172 is answered as its rule says in NORMAL mode and in BYPASS. -/
theorem receiveCmd_replies_both {f : Request} {st : RspStatus} {results : List Byte} {t : State}
    (request : bypassRequest code = true) (taken : s.takes h code params = true ∨ s.takesInBypass h code params = true)
    (rule : f params s.handed = { status := st, results := results, state := t }) (unmarked : t.rif.entry = s.rif.entry) :
    receiveCmd h code params (answered code f) s = reply h code st results t := by
  rcases taken with normal | bypass
  · exact receiveCmd_replies normal rule unmarked
  · rw [receiveCmd_inBypass _ request bypass, answered, rule]
    exact answerCmd_offers (unmarked.trans (takesInBypass_entry bypass)) _ _

end

/-! ## Refused requests (R175, R180) -/

section
variable {h : CmdHead} {params : List Byte} {s : State}

/-- A table id that names no writable table has no write (R180). -/
theorem tableWrite_none {table : Byte} (other : table ∉ [Table.band, Table.link, Table.window, Table.switcher, Table.sourcemap,
    Table.palette, Table.condition, Table.talksrc, Table.dest, Table.xpoint, Table.settings]) : tableWrite table = none := by
  simp only [List.mem_cons, List.not_mem_nil, or_false, not_or] at other
  obtain ⟨band, link, window, switcher, sourcemap, palette, condition, talksrc, dest, xpoint, settings⟩ := other
  simp only [tableWrite, if_neg band, if_neg link, if_neg window, if_neg switcher, if_neg sourcemap, if_neg palette,
    if_neg condition, if_neg talksrc, if_neg dest, if_neg xpoint, if_neg settings]

theorem writeRequest_noTable {table i1 i0 : Byte} {record : List Byte} (none : tableWrite table = none) :
    writeRequest (table :: i1 :: i0 :: record) s = refuse .noSuch s := by
  simp only [writeRequest, none]

theorem writeRequest_short (short : params.length < 3) : writeRequest params s = refuse .range s := by
  unfold writeRequest
  split
  · simp only [List.length_cons] at short
    omega
  · rfl

/-- The bytes of a WRITE that is taken and refused (R180). -/
theorem exec_wireWrite_refused {st : RspStatus} (taken : s.takes h Req.write params = true)
    (rule : writeRequest params s.handed = refuse st s.handed) :
    exec (.ringInFrame (h.wire Req.write params)) s = .next (reply h Req.write st [] s.handed) := by
  rw [exec_wire_taken taken, show handler Req.write = answered Req.write writeRequest from rfl,
    ← receiveCmd_taken (answered Req.write writeRequest) taken, receiveCmd_refused taken rule]

theorem askPlanner_length {kind : OpKind} {n : Nat} {a : Asker} (length : params.length ≠ n) :
    askPlanner kind n a params s = answerCmd (s.rspFrame kind.request a .range []) false s := if_neg length

end

/-- Settles O18. -/
theorem identifyAndRefusedRequests : Obligations.IdentifyAndRefusedRequests := by
  refine ⟨fun h s taken => ?_, fun h code params s _ taken => ?_, fun h params s taken => ⟨fun short => ?_, ?_⟩,
    fun h params s => ⟨fun some => ⟨fun t => ?_, fun t => ?_, fun t => ?_, fun t => ?_, fun t => ?_, fun t => ?_, fun t => ?_⟩,
      fun other => ⟨fun t => ?_, fun t => ?_, fun t => ?_, fun t => ?_⟩, fun other t => ?_, fun other => ⟨fun t => ?_, fun t => ?_⟩,
      fun other t => ?_, fun other => ⟨fun t => ?_, fun t => ?_, fun some t => ?_⟩⟩⟩
  · exact congrArg _ (receiveCmd_replies_both (f := ofLength 0 identifyRequest) rfl taken rfl rfl)
  · exact congrArg _ (receiveCmd_refused taken rfl)
  · exact exec_wireWrite_refused taken (writeRequest_short short)
  · rintro table i1 i0 record rfl other
    exact exec_wireWrite_refused taken (writeRequest_noTable (tableWrite_none other))
  · exact congrArg _ (receiveCmd_length t some)
  · exact congrArg _ (receiveCmd_length t some)
  · exact congrArg _ (receiveCmd_range t (askPlanner_length some))
  · exact congrArg _ (receiveCmd_length t some)
  · exact congrArg _ (receiveCmd_length t some)
  · exact congrArg _ (receiveCmd_range t (if_pos some))
  · exact congrArg _ (receiveCmd_range t (if_pos some))
  · exact congrArg _ (receiveCmd_range t (askPlanner_length other))
  · exact congrArg _ (receiveCmd_range t (askPlanner_length other))
  · exact congrArg _ (receiveCmd_length t other)
  · exact congrArg _ (receiveCmd_length t other)
  · exact congrArg _ (receiveCmd_length t other)
  · exact congrArg _ (receiveCmd_length t other)
  · exact congrArg _ (receiveCmd_length t other)
  · exact congrArg _ (receiveCmd_range t (askPlanner_length other))
  · exact congrArg _ (receiveCmd_length t other)
  · exact congrArg _ (receiveCmd_length t other)
  · exact congrArg _ (receiveCmd_refused t (sweepGoRequest_length s.handed some other))

/-! ## STATUS (R163, R178) -/

theorem toNat_eq_ite (b : Bool) : b.toNat = if b then 1 else 0 := by cases b <;> rfl

/-- Settles O19. -/
theorem statusReading : Obligations.StatusReading := by
  intro h s taken
  have unmarked : s.rif.entry = none := by
    rcases taken with normal | bypass
    · exact takes_entry normal
    · exact takesInBypass_entry bypass
  refine ⟨s.activePhaseByte, (s.handed.onRif fun r => { r with notesLost := false }).useFree 1, fun o active => ?_, rfl,
    (congrArg Host.Outcome.next (receiveCmd_replies_both (f := ofLength 0 statusRequest) rfl taken rfl rfl)).trans ?_⟩
  · rw [State.activePhaseByte, active]
  have mode : s.rif.modeCode = if s.rif.mode = .normal then 0 else 2 := by
    unfold Rif.modeCode
    cases s.rif.mode <;> simp [unmarked]
  have planner : s.cpl.statusBytes
      = (match s.cpl.active with | some op => [1, op.kind.code, op.origin.code] | none => [0, 0xFF, 0xFF])
        ++ [byte ((if s.cpl.rtePlace.isSome then 1 else 0) + (if s.cpl.mgrPlace.isSome then 2 else 0)),
            byte ((if rd s.cpl.flags 0 then 1 else 0) + (if rd s.cpl.flags 1 then 2 else 0)
              + (if rd s.cpl.flags 2 then 4 else 0) + (if rd s.cpl.flags 3 then 8 else 0))] := by
    unfold Cpl.statusBytes flagBits
    cases s.cpl.active <;> simp [onOff, toNat_eq_ite, mul_ite]
  have retune : s.retuneStatus = [(match s.rte.active with | some o => byte o.link.val | none => 0xFF), s.activePhaseByte,
      (match s.rte.staged with | some o => byte o.link.val | none => 0xFF), byte s.rte.deferred.length] := by
    unfold State.retuneStatus
    cases s.rte.active <;> cases s.rte.staged <;> rfl
  have cell : natOrNone s.currentCell = match s.currentCell with | some j => n16 j | none => [0xFF, 0xFF] := by
    cases s.currentCell <;> rfl
  have reading : s.handed.statusBytes = s.statusBytes := rfl
  rw [reading, State.statusBytes, mode, planner, retune, cell]
  simp [onOff] <;> rfl

/-! ## READ and READ_LOG (R37, R179, R182) -/

section
variable (entry : Nat → Option (List Byte))

/-- A reading returns the entries from its first index on, in the room it has, and stops at its count, at an absent entry, or
before the entry that does not fit (R179). -/
theorem readWalk_reads : ∀ n i room : Nat,
    (readWalk entry n i room).length ≤ n ∧ (readWalk entry n i room).flatten.length ≤ room
    ∧ (∀ j < (readWalk entry n i room).length, (readWalk entry n i room)[j]? = entry (i + j))
    ∧ ((readWalk entry n i room).length = n ∨ entry (i + (readWalk entry n i room).length) = none
      ∨ ∃ e, entry (i + (readWalk entry n i room).length) = some e
          ∧ room < (readWalk entry n i room).flatten.length + e.length)
  | 0, i, room => by simp [readWalk]
  | n + 1, i, room => by
    cases present : entry i with
    | none => simp [readWalk, present]
    | some e =>
      by_cases fits : e.length ≤ room
      · obtain ⟨few, inRoom, each, stop⟩ := readWalk_reads n (i + 1) (room - e.length)
        have walk : readWalk entry (n + 1) i room = e :: readWalk entry n (i + 1) (room - e.length) := by
          simp only [readWalk, present, fits, if_true]
        rw [walk]
        have shift (j : Nat) : i + (j + 1) = i + 1 + j := by omega
        simp only [List.length_cons, List.flatten_cons, List.length_append, shift (readWalk entry n (i + 1) (room - e.length)).length]
        refine ⟨by omega, by omega, fun j below => ?_, ?_⟩
        · cases j with
          | zero => exact present.symm
          | succ j =>
            rw [List.getElem?_cons_succ, shift j]
            exact each j (by omega)
        · rcases stop with full | absent | ⟨d, next, long⟩
          · exact .inl (by omega)
          · exact .inr (.inl absent)
          · exact .inr (.inr ⟨d, next, by omega⟩)
      · simp only [readWalk, present, fits, if_false]
        exact ⟨by simp, by simp, by simp, .inr (.inr ⟨e, by simpa using present, by simpa using fits⟩)⟩

end

theorem readsOn_iff {table : Byte} {first i : Nat} : readsOn table first i = true ↔ (table = Table.cells → i / 256 = first / 256) := by
  simp [readsOn, imp_iff_not_or]

section
variable {table i1 i0 n : Byte} {s : State}

theorem readRequest_noSuch (absent : s.entry table (u16 i1 i0) = none) :
    readRequest [table, i1, i0, n] s = refuse .noSuch s := if_pos (by simpa [at16, at0] using absent)

theorem readRequest_range (present : s.entry table (u16 i1 i0) ≠ none) (zero : n = 0) :
    readRequest [table, i1, i0, n] s = refuse .range s := by
  subst zero
  exact (if_neg (by simpa [at16, at0] using present)).trans (if_pos rfl)

theorem readRequest_reads (present : s.entry table (u16 i1 i0) ≠ none) (nonzero : n ≠ 0) :
    readRequest [table, i1, i0, n] s =
      { status := .ok
        results := [table, i1, i0, byte (s.entries table (u16 i1 i0) n.toNat).length]
          ++ (s.entries table (u16 i1 i0) n.toNat).flatten
        state := s.useFree 30 } := by
  have counted : ¬n.toNat = 0 := fun zero => nonzero (BitVec.eq_of_toNat_eq zero)
  refine (if_neg (by simpa [at16, at0] using present)).trans ((if_neg counted).trans ?_)
  rw [show at16 [table, i1, i0, n] 1 = u16 i1 i0 from rfl, n16_u16]
  rfl

end

/-- Settles O20. -/
theorem readAndReadLog : Obligations.ReadAndReadLog := by
  refine ⟨fun h table i1 i0 n s taken => ⟨fun absent => ?_, fun present => ⟨fun zero => ?_, fun nonzero => ?_⟩⟩,
    fun h s taken => ⟨fun e header => ?_, fun empty => ?_⟩⟩
  · exact congrArg _ (receiveCmd_refused taken (readRequest_noSuch (s := s.handed) absent))
  · exact congrArg _ (receiveCmd_refused taken (readRequest_range (s := s.handed) present zero))
  · obtain ⟨few, inRoom, each, stop⟩ := readWalk_reads (fun i => if readsOn table (u16 i1 i0) i then s.entry table i else none)
      n.toNat (u16 i1 i0) readRoom
    have reads : readWalk (fun i => if readsOn table (u16 i1 i0) i then s.entry table i else none) n.toNat (u16 i1 i0) readRoom
        = s.entries table (u16 i1 i0) n.toNat := rfl
    rw [reads] at few inRoom each stop
    refine ⟨s.entries table (u16 i1 i0) n.toNat, s.handed.useFree 30, few, inRoom, fun j below => ?_, ?_, rfl,
      congrArg Host.Outcome.next (receiveCmd_replies taken (readRequest_reads (s := s.handed) present nonzero) rfl)⟩
    · have read := each j below
      by_cases on : readsOn table (u16 i1 i0) (u16 i1 i0 + j) = true
      · exact ⟨read.trans (if_pos on), readsOn_iff.mp on⟩
      · rw [if_neg on, List.getElem?_eq_none_iff] at read
        omega
    · by_cases on : readsOn table (u16 i1 i0) (u16 i1 i0 + (s.entries table (u16 i1 i0) n.toNat).length) = true
      · simp only [on, if_true] at stop
        rcases stop with full | absent | long
        · exact .inl full
        · exact .inr (.inl absent)
        · exact .inr (.inr (.inr long))
      · exact .inr (.inr (.inl (by simpa [readsOn_iff] using on)))
  · refine (congrArg Host.Outcome.next (receiveCmd_replies (f := ofLength 0 readLogRequest) taken rfl rfl)).trans ?_
    simp [ConflictLog.bytes, headerBytes, State.handed, header] <;> rfl
  · refine (congrArg Host.Outcome.next (receiveCmd_replies (f := ofLength 0 readLogRequest) taken rfl rfl)).trans ?_
    simp [ConflictLog.bytes, headerBytes, State.handed, empty, ConflictLog.empty]
    rfl

/-! ## The show lock (R184) -/

/-- The link number of a request's first byte (R163). -/
theorem finField_byte (k : LinkId) : finField 64 (byte k.val).toNat = some k :=
  finField_some (byte_toNat (by have := k.isLt; omega))

section
variable {s : State} {index : Nat} {record : List Byte} (locked : s.mgr.locked = true)
include locked

theorem writeBand_locked (below : index < 4) : writeBand index record s = refuse .locked s := by
  rw [writeBand, finField, dif_pos below]
  exact if_pos locked

theorem writeLink_locked (below : index < 64) : writeLink index record s = refuse .locked s := by
  rw [writeLink, finField, dif_pos below]
  exact if_pos locked

theorem writeWindow_locked (below : index < 8) : writeWindow index record s = refuse .locked s := by
  rw [writeWindow, finField, dif_pos below]
  exact if_pos locked

theorem writeSwitcher_locked (below : index < 4) : writeSwitcher index record s = refuse .locked s := by
  rw [writeSwitcher, finField, dif_pos below]
  exact if_pos locked

theorem writeSourcemap_locked (below : index < 16) : writeSourcemap index record s = refuse .locked s := by
  rw [writeSourcemap, finField, dif_pos below]
  exact if_pos locked

theorem writeSettings_locked (zero : index = 0) : writeSettings index record s = refuse .locked s := by
  rw [writeSettings, if_neg (not_not_intro zero)]
  exact if_pos locked

variable {k : LinkId} {p : List Byte} (inUse : (s.link k).cfg.inUse = true)
include inUse

theorem moveLink_locked : moveLink (byte k.val :: p) s = refuse .locked s := by
  unfold moveLink
  rw [show at0 (byte k.val :: p) 0 = byte k.val from rfl, finField_byte]
  simp only [inUse, locked]
  rfl

theorem releaseLink_locked : releaseLink (byte k.val :: p) s = refuse .locked s := by
  unfold releaseLink
  rw [show at0 (byte k.val :: p) 0 = byte k.val from rfl, finField_byte]
  simp only [inUse, locked]
  rfl

end

section
variable {s : State} {p : List Byte}

theorem showLock_released (released : s.mgr.locked = false) : showLockRequest p s =
    accept (s.onMgr fun m => { m with locked := true, key := readKey p }) := if_neg (by simp [released])

theorem showLock_engaged (engaged : s.mgr.locked = true) : showLockRequest p s = refuse .locked s := if_pos engaged

theorem showUnlock_released (released : s.mgr.locked = false) : showUnlockRequest p s = accept s := if_neg (by simp [released])

theorem showUnlock_matches (engaged : s.mgr.locked = true) (same : s.mgr.key = readKey p) : showUnlockRequest p s =
    accept (s.onMgr fun m => { m with locked := false }) := (if_pos engaged).trans (if_pos same)

theorem showUnlock_differs (engaged : s.mgr.locked = true) (other : s.mgr.key ≠ readKey p) : showUnlockRequest p s =
    refuse .keyMismatch s := (if_pos engaged).trans (if_neg other)

end

/-- Settles O21. -/
theorem showLock : Obligations.ShowLock := by
  refine ⟨fun h a b c d e f g i s => ⟨fun taken => ⟨fun released => ?_, fun engaged => ?_⟩,
    fun taken => ⟨fun released => ?_, fun engaged => ⟨fun same => ?_, fun other => ?_⟩⟩⟩,
    fun h i r s locked => ⟨fun below length taken => ?_, fun below length taken => ?_, fun below length taken => ?_,
      fun below length taken => ?_, fun below length taken => ?_, fun zero length taken => ?_,
      fun k p length inUse taken => ?_, fun k p length inUse taken => ?_, fun taken => ?_⟩⟩
  · exact congrArg _ (receiveCmd_replies taken (showLock_released (s := s.handed) released) rfl)
  · exact congrArg _ (receiveCmd_refused taken (showLock_engaged (s := s.handed) engaged))
  · exact congrArg _ (receiveCmd_replies taken (showUnlock_released (s := s.handed) released) rfl)
  · exact congrArg _ (receiveCmd_replies taken (showUnlock_matches (s := s.handed) engaged same) rfl)
  · exact congrArg _ (receiveCmd_refused taken (showUnlock_differs (s := s.handed) engaged other))
  · exact congrArg _ (receiveWrite_refused taken length (writeBand_locked (s := s.handed) locked below))
  · exact congrArg _ (receiveWrite_refused taken length (writeLink_locked (s := s.handed) locked below))
  · exact congrArg _ (receiveWrite_refused taken length (writeWindow_locked (s := s.handed) locked below))
  · exact congrArg _ (receiveWrite_refused taken length (writeSwitcher_locked (s := s.handed) locked below))
  · exact congrArg _ (receiveWrite_refused taken length (writeSourcemap_locked (s := s.handed) locked below))
  · exact congrArg _ (receiveWrite_refused taken length (writeSettings_locked (s := s.handed) locked zero))
  · exact congrArg _ (receiveCmd_refused taken ((if_pos (by simp [length])).trans
      (moveLink_locked (s := s.handed) (k := k) locked inUse)))
  · exact congrArg _ (receiveCmd_refused taken ((if_pos (by simp [length])).trans
      (releaseLink_locked (s := s.handed) (k := k) locked inUse)))
  · refine congrArg _ ((receiveCmd_taken _ taken).trans ?_)
    have refused : takeRestart h.asker [] s.handed = answerCmd (s.handed.rspFrame Req.restart h.asker .locked []) false s.handed :=
      (if_neg (not_not_intro rfl)).trans (if_pos locked)
    rw [refused]
    exact answerCmd_offers (s := s.handed) (takes_entry taken) _ _

/-! ## The key stays secret (R184) -/

/-- The state with another key stored. -/
def State.withKey (s : State) (key : LockKey) : State := { s with mgr := { s.mgr with key := key } }

/-- A request whose status and results do not rest on the key, and which leaves it as it stands. -/
def Keyless (f : Request) : Prop := ∀ (p : List Byte) (s : State) (key : LockKey),
  f p (s.withKey key) = { status := (f p s).status, results := (f p s).results, state := (f p s).state.withKey key }

section
variable (s : State) (key : LockKey)

theorem offerRsp_withKey (f : Frame) : offerRsp f (s.withKey key) = (offerRsp f s).withKey key := by
  unfold offerRsp
  rw [show (s.withKey key).rif = s.rif from rfl]
  split
  · rfl
  · have kept : ({ s.mgr with key := key } : Mgr).keep f = { s.mgr.keep f with key := key } := by
      rcases Nat.lt_or_ge s.mgr.hold.length 6 with room | full
      · rw [keep_room room]
        exact keep_room (m := { s.mgr with key := key }) room
      · rw [keep_full full]
        exact keep_full (m := { s.mgr with key := key }) full
    exact congrArg (fun m => ({ s with mgr := m } : State)) kept

theorem answerCmd_withKey (f : Frame) (resume : Bool) :
    answerCmd f resume (s.withKey key) = (answerCmd f resume s).withKey key := by
  unfold answerCmd
  rw [show (s.withKey key).rif = s.rif from rfl]
  split
  · rfl
  · exact offerRsp_withKey s key f

variable {f : Request} (keyless : Keyless f)
include keyless

theorem answered_withKey (code : Byte) (a : Asker) (p : List Byte) :
    answered code f a p (s.withKey key) = (answered code f a p s).withKey key := by
  unfold answered
  rw [keyless]
  exact answerCmd_withKey _ _ _ _

/-- An arriving request that does not rest on the key leaves states that differ in the key alone. -/
theorem receiveCmd_withKey (h : CmdHead) (code : Byte) (params : List Byte) :
    receiveCmd h code params (answered code f) (s.withKey key) = (receiveCmd h code params (answered code f) s).withKey key := by
  have managed (t : State) : manage (answered code f) { id := h.id, src := h.src } params (t.withKey key)
      = (manage (answered code f) { id := h.id, src := h.src } params t).withKey key := by
    unfold manage
    rw [show (t.withKey key).mgr.hold = t.mgr.hold from rfl]
    split
    · rfl
    · exact answered_withKey t key keyless code _ params
  simp only [receiveCmd, receiveFrame, receive]
  rw [show (s.withKey key).live = s.live from rfl]
  split
  · split
    · rfl
    · next g _ =>
      rw [show (s.withKey key).rif = s.rif from rfl]
      split
      · exact managed (s.setOut ((s.rif.handling g).out _))
      · rfl
  · rfl

theorem ofLength_keyless (n : Nat) : Keyless (ofLength n f) := by
  intro p s key
  unfold ofLength
  split
  · exact keyless p s key
  · rfl

end

theorem identify_keyless : Keyless identifyRequest := fun _ _ _ => rfl

theorem status_keyless : Keyless statusRequest := fun _ _ _ => rfl

theorem readLog_keyless : Keyless readLogRequest := fun _ _ _ => rfl

theorem entry_withKey (s : State) (key : LockKey) : (s.withKey key).entry = s.entry := rfl

theorem read_keyless : Keyless readRequest := by
  intro p s key
  unfold readRequest
  simp only [entry_withKey]
  split
  · rfl
  · split
    · rfl
    · rfl

/-- Settles O22. -/
theorem showLockKeyStaysSecret : Obligations.ShowLockKeyStaysSecret := by
  intro h params key c s t among ran
  have runs {code : Byte} {f : Request} (keyless : Keyless f)
      (meaning : ∀ s, exec c s = .next (receiveCmd h code params (answered code f) s)) :
      exec c (s.withKey key) = .next (t.withKey key) := by
    rw [meaning] at ran ⊢
    obtain rfl := Host.Outcome.next.inj ran
    exact congrArg _ (receiveCmd_withKey s key keyless h code params)
  simp only [List.mem_cons, List.not_mem_nil, or_false] at among
  rcases among with rfl | rfl | rfl | rfl
  · exact runs (ofLength_keyless read_keyless 4) fun _ => rfl
  · exact runs (ofLength_keyless status_keyless 0) fun _ => rfl
  · exact runs (ofLength_keyless identify_keyless 0) fun _ => rfl
  · exact runs (ofLength_keyless readLog_keyless 0) fun _ => rfl

end Sys2Proof.Machine
end

section
/-! Proofs of the writes to BAND, WINDOW and SETTINGS: their tests in their order and what a taken write leaves (R2, R3, R14, R15,
R181). -/

namespace Sys2Proof.Machine

/-! ## BAND (R2, R3) -/

section
variable {s : State} {b : BandId}

/-- A band none of whose links stands or moves has no carrier (R12). -/
theorem bandCarriers_empty {p : Plan} {r : Rte}
    (free : ∀ k : LinkId, (rd p.links k).cfg.band = b → (rd p.links k).carrier.state = .none ∧ (rd p.links k).carrier.phase = .idle) :
    bandCarriers p r b = [] := by
  have standing (k : LinkId) : (rd p.links k).standsAt b = none := by
    unfold Link.standsAt
    by_cases here : (rd p.links k).cfg.band = b
    · simp [(free k here).1]
    · simp [here]
  have target (k : LinkId) (n : Nat) (moves : tuningTarget p r = some (k, n)) : (rd p.links k).cfg.band ≠ b := by
    intro here
    unfold tuningTarget at moves
    split at moves
    · split at moves
      · next phase _ =>
        simp only [Option.some.injEq, Prod.mk.injEq] at moves
        obtain ⟨rfl, -⟩ := moves
        rw [(free _ here).2] at phase
        cases phase
      · cases moves
    · cases moves
  unfold bandCarriers
  simp only [standing, Option.map_none, List.filterMap_none, List.nil_append]
  split
  · next k n moves => exact if_neg (target k n moves)
  · rfl

/-- OWN marking without a carrier and without an OWN cell changes nothing (R60). -/
theorem remarkCells_still {touched : Span → Bool} (empty : bandCarriers s.plan s.rte b = [])
    (free : ∀ j, (rd (rd s.swp.cells b) j).state ≠ .own) : remarkCells b touched s = s := by
  have stays (j : Fin 256) : (rd (rd s.swp.cells b) j).marked false = rd (rd s.swp.cells b) j := by
    simp [Cell.marked, free j]
  unfold remarkCells
  extract_lets e carriers old new
  have same : new = rd s.swp.cells b := by
    refine tab_ext fun j => ?_
    simp only [new, rd_tab]
    split
    · split
      · simp [carriers, empty, old, stays]
      · rfl
    · rfl
  rw [same]
  refine (spareRemoveCells_none fun n => ?_).trans ?_
  · split
    · next j _ => simp [free j]
    · rfl
  · rw [State.onSwp, wr_rd_self]

theorem bandFits_iff {e : BandEntry} : s.bandFits b e = true ↔ e.base + (e.count - 1) * e.step ≤ 16777215 ∧ e.cellCount ≤ 256
    ∧ ∀ w, (rd s.plan.windows w).enabled = true → (rd s.plan.windows w).band = b → (rd s.plan.windows w).size ≤ e.count := by
  simp [State.bandFits, and_assoc, imp_iff_not_or, or_assoc]

theorem engages_iff {l : Link} : l.engages b = true ↔ l.cfg.band = b ∧ (l.carrier.state ≠ .none ∨ l.carrier.phase ≠ .idle) := by
  simp [Link.engages]

theorem rests_of_not_engages {l : Link} (free : l.engages b = false) (here : l.cfg.band = b) :
    l.carrier.state = .none ∧ l.carrier.phase = .idle := by
  simpa [Link.engages, here] using free

/-- What a taken band write leaves: a changed geometry, which no carrier of the band sees, resets the cells (R3). -/
theorem takeBand_eq {e : BandEntry} (free : (s.band b).geometryDiffers e = true → ∀ k, (s.link k).engages b = false) :
    takeBand b e s = { s with
      plan := { s.plan with bands := wr s.plan.bands b e, gen := s.plan.gen + 1 }
      swp := if (s.band b).geometryDiffers e then { s.swp with cells := wr s.swp.cells b (Vector.replicate 256 .cold) } else s.swp
      cpl := if (s.band b).geometryDiffers e || ((s.band b).enabled && !e.enabled) then
          { s.cpl with
            spares := wr s.cpl.spares b []
            active := s.cpl.active.map fun op =>
              if op.kind = .refill && op.band = b.val then { op with emptied := true } else op }
        else s.cpl } := by
  unfold takeBand
  extract_lets old written marked
  have isOld : old = s.band b := rfl
  cases geometry : (s.band b).geometryDiffers e with
  | false =>
    have unmarked : marked = written := if_neg (by simp [isOld, geometry])
    simp only [isOld, unmarked, Bool.false_or]
    split
    · rfl
    · rfl
  | true =>
    have reset : marked = resetCells b written := by
      have quiet : bandCarriers written.plan written.rte b = [] :=
        bandCarriers_empty fun k here => rests_of_not_engages (free geometry k) here
      exact (if_pos geometry).trans (remarkCells_still quiet fun j => by simp [resetCells, Cell.cold])
    simp only [isOld, reset, Bool.true_or]
    rfl

section
variable {index : Nat} {record : List Byte} (named : index = b.val) (unlocked : s.mgr.locked = false)
include named unlocked

theorem writeBand_busy (sweeping : s.swp.state ≠ .idle ∧ s.swp.cfg.band = b) : writeBand index record s = refuse .busy s := by
  rw [writeBand, finField_some named]
  exact (if_neg (by simp [unlocked])).trans (if_pos (by simpa using sweeping))

variable (resting : s.swp.state = .idle ∨ s.swp.cfg.band ≠ b)
include resting

theorem writeBand_unread (unread : readBand record = none) : writeBand index record s = refuse .range s := by
  rw [writeBand, finField_some named]
  refine (if_neg (by simp [unlocked])).trans ((if_neg ?_).trans ?_)
  · simpa [imp_iff_not_or] using resting
  · rw [unread]

variable {e : BandEntry} (read : readBand record = some e)
include read

theorem writeBand_read : writeBand index record s =
    if !s.bandFits b e then refuse .range s
    else if ((s.band b).geometryDiffers e || (s.band b).enabled ≠ e.enabled)
        && (List.finRange 64).any fun k => (s.link k).engages b then
      refuse .inUse s
    else accept (takeBand b e s) := by
  rw [writeBand, finField_some named]
  refine (if_neg (by simp [unlocked])).trans ((if_neg ?_).trans ?_)
  · simpa [imp_iff_not_or] using resting
  · rw [read]

theorem writeBand_range (unfit : s.bandFits b e = false) : writeBand index record s = refuse .range s := by
  rw [writeBand_read named unlocked resting read]
  exact if_pos (by simp [unfit])

variable (fit : s.bandFits b e = true)
include fit

theorem writeBand_inUse (changes : (s.band b).geometryDiffers e = true ∨ (s.band b).enabled ≠ e.enabled)
    (engaged : ∃ k, (s.link k).engages b = true) : writeBand index record s = refuse .inUse s := by
  rw [writeBand_read named unlocked resting read, if_neg (by simp [fit])]
  exact if_pos (by simpa using ⟨changes, engaged⟩)

theorem writeBand_taken (may : ((s.band b).geometryDiffers e = false ∧ (s.band b).enabled = e.enabled)
    ∨ ∀ k, (s.link k).engages b = false) : writeBand index record s = accept (takeBand b e s) := by
  rw [writeBand_read named unlocked resting read, if_neg (by simp [fit])]
  refine if_neg ?_
  rcases may with ⟨geometry, enabled⟩ | free
  · simp [geometry, enabled]
  · simp [free]

end

end

/-- Settles O23. -/
theorem bandWrite : Obligations.BandWrite := by
  intro h i r s taken
  refine ⟨fun length => congrArg _ (receiveWrite_length taken length), fun length above => ?_,
    fun b length named unlocked => ⟨fun sweeping => ?_, fun resting => ⟨fun unread => ?_, fun e read => ⟨fun unfit => ?_,
      fun extent cells windows geometry isGeometry => ?_⟩⟩⟩⟩
  · exact congrArg _ (receiveWrite_refused taken length (by rw [writeBand, finField_none above]))
  · exact congrArg _ (receiveWrite_refused taken length (writeBand_busy (s := s.handed) named unlocked sweeping))
  · exact congrArg _ (receiveWrite_refused taken length (writeBand_unread (s := s.handed) named unlocked resting unread))
  · refine congrArg _ (receiveWrite_refused taken length (writeBand_range (s := s.handed) named unlocked resting read
      (Bool.eq_false_iff.mpr fun fit => ?_)))
    obtain ⟨extent, cells, windows⟩ := bandFits_iff.mp fit
    rcases unfit with wide | many | ⟨w, enabled, here, small⟩
    · omega
    · omega
    · exact absurd (windows w enabled here) (Nat.not_le.mpr small)
  have fit : s.handed.bandFits b e = true := bandFits_iff.mpr ⟨extent, cells, windows⟩
  obtain rfl : geometry = (s.handed.band b).geometryDiffers e := isGeometry
  refine ⟨fun changes engaged => ?_, fun may => ?_⟩
  · obtain ⟨k, here, engaged⟩ := engaged
    exact congrArg _ (receiveWrite_refused taken length (writeBand_inUse (s := s.handed) named unlocked resting read fit changes
      ⟨k, engages_iff.mpr ⟨here, engaged⟩⟩))
  · have free : (∀ k, (s.link k).cfg.band = b → (s.link k).carrier.state = .none ∧ (s.link k).carrier.phase = .idle) →
        ∀ k, (s.link k).engages b = false := fun quiet k => Bool.eq_false_iff.mpr fun engaged => by
      obtain ⟨here, stands⟩ := engages_iff.mp engaged
      obtain ⟨none, idle⟩ := quiet k here
      rcases stands with state | phase
      · exact state none
      · exact phase idle
    have may' : ((s.handed.band b).geometryDiffers e = false ∧ (s.handed.band b).enabled = e.enabled)
        ∨ ∀ k, (s.handed.link k).engages b = false := may.imp id free
    have left := takeBand_eq (s := s.handed) (b := b) (e := e) fun geometry => by
      rcases may' with ⟨same, -⟩ | none
      · rw [same] at geometry
        cases geometry
      · exact none
    refine ⟨takeBand b e s.handed, ?_, ?_, ?_, ?_, fun resets => ?_, fun geometry enabled => ?_⟩
    · exact congrArg _ (receiveWrite_taken taken length (writeBand_taken (s := s.handed) named unlocked resting read fit may')
        (by rw [left]; rfl))
    all_goals rw [left]
    · rfl
    · rfl
    · rfl
    · refine if_pos ?_
      rcases resets with geometry | ⟨on, off⟩
      · simp [geometry]
      · simp [show (s.handed.band b).enabled = true from on, off]
    · refine if_neg ?_
      have stays : (s.handed.band b).enabled = true → e.enabled = true := enabled
      rw [geometry]
      simpa using stays

/-! ## WINDOW (R14, R15) -/

section
variable {s : State} {w : Fin 8} {index : Nat} {record : List Byte} (named : index = w.val) (unlocked : s.mgr.locked = false)
include named unlocked

theorem writeWindow_unread (unread : readWindow record = none) : writeWindow index record s = refuse .range s := by
  rw [writeWindow, finField_some named]
  refine (if_neg (by simp [unlocked])).trans ?_
  rw [unread]

variable {e : Window} (read : readWindow record = some e)
include read

theorem writeWindow_read : writeWindow index record s =
    if e.enabled && (s.band e.band).count < e.size then refuse .range s
    else if e.enabled && (bandCarriers s.plan s.rte e.band).any (e.covers (s.band e.band)) then refuse .inWindow s
    else accept (s.onPlan fun p => { p with windows := wr p.windows w e }).advanceGen := by
  rw [writeWindow, finField_some named]
  refine (if_neg (by simp [unlocked])).trans ?_
  rw [read]

theorem writeWindow_range (enabled : e.enabled = true) (large : (s.band e.band).count < e.size) :
    writeWindow index record s = refuse .range s := by
  rw [writeWindow_read named unlocked read]
  exact if_pos (by simp [enabled, large])

variable (sized : e.enabled = false ∨ e.size ≤ (s.band e.band).count)
include sized

theorem writeWindow_inWindow (covered : ∃ c ∈ bandCarriers s.plan s.rte e.band, e.covers (s.band e.band) c = true) :
    writeWindow index record s = refuse .inWindow s := by
  obtain ⟨c, among, covers⟩ := covered
  have enabled : e.enabled = true := by
    simp only [Window.covers, Bool.and_eq_true] at covers
    exact covers.1
  rw [writeWindow_read named unlocked read, if_neg (by simpa [imp_iff_not_or] using sized)]
  exact if_pos (by simpa [enabled] using ⟨c, among, covers⟩)

theorem writeWindow_taken (clear : ∀ c ∈ bandCarriers s.plan s.rte e.band, e.covers (s.band e.band) c = false) :
    writeWindow index record s = accept (s.onPlan fun p => { p with windows := wr p.windows w e }).advanceGen := by
  rw [writeWindow_read named unlocked read, if_neg (by simpa [imp_iff_not_or] using sized)]
  exact if_neg (by simpa using fun _ => clear)

end

/-- Settles O25. -/
theorem windowWrite : Obligations.WindowWrite := by
  intro h i r s taken
  refine ⟨fun length => congrArg _ (receiveWrite_length taken length), fun length above => ?_,
    fun w length named unlocked => ⟨fun unread => ?_, fun e read => ⟨fun enabled large => ?_, fun sized => ⟨fun covered => ?_,
      fun clear => ?_⟩⟩⟩⟩
  · exact congrArg _ (receiveWrite_refused taken length (by rw [writeWindow, finField_none above]))
  · exact congrArg _ (receiveWrite_refused taken length (writeWindow_unread (s := s.handed) named unlocked unread))
  · exact congrArg _ (receiveWrite_refused taken length (writeWindow_range (s := s.handed) named unlocked read enabled large))
  · exact congrArg _ (receiveWrite_refused taken length (writeWindow_inWindow (s := s.handed) named unlocked read sized covered))
  · exact congrArg _ (receiveWrite_taken taken length (writeWindow_taken (s := s.handed) named unlocked read sized clear) rfl)

/-! ## SETTINGS (R181) -/

section
variable {s : State}

/-- What a taken Settings write leaves: the timers whose period changed start again (R68, R139, R181). -/
theorem takeSettings_eq (x : Settings) : takeSettings x s = { s with
    mgr := { s.mgr with settings := x }
    lmp := { s.lmp with refresh := if s.mgr.settings.lampRefresh = x.lampRefresh then s.lmp.refresh
                                   else some (1000 * x.lampRefresh) }
    swp := { s.swp with interval := if s.mgr.settings.sweepInterval = x.sweepInterval then s.swp.interval
                                    else if x.sweepInterval = 0 then none else some (1000 * x.sweepInterval) } } := by
  by_cases refresh : s.mgr.settings.lampRefresh = x.lampRefresh <;>
    by_cases interval : s.mgr.settings.sweepInterval = x.sweepInterval <;>
      simp only [takeSettings, refresh, interval, ne_eq, not_true, not_false_iff, if_true, if_false] <;> rfl

theorem writeSettings_noSuch {index : Nat} {record : List Byte} (other : index ≠ 0) :
    writeSettings index record s = refuse .noSuch s := if_pos other

/-- The record that a SETTINGS write carries, before its timers are brought into range (R181). -/
def settingsOf (node t1 t0 m1 m0 w1 w0 h1 h0 lamp i1 i0 : Byte) : Settings :=
  { reportNode := node, tuneTimeout := u16 t1 t0, meterSilence := u16 m1 m0, switcherSilence := u16 w1 w0,
    switcherHold := u16 h1 h0, lampRefresh := lamp.toNat, sweepInterval := u16 i1 i0 }

theorem readSettings_eq (node t1 t0 m1 m0 w1 w0 h1 h0 lamp i1 i0 : Byte) :
    readSettings [node, t1, t0, m1, m0, w1, w0, h1, h0, lamp, i1, i0] =
      (nodeField node).bind fun n => some (settingsOf n t1 t0 m1 m0 w1 w0 h1 h0 lamp i1 i0) := rfl

/-- Two numbers that fit two bytes and are sent as the same bytes are the same. -/
theorem n16_injective {m n : Nat} (fitsM : m < 65536) (fitsN : n < 65536) (same : n16 m = n16 n) : m = n := by
  have words : BitVec.ofNat 16 m = BitVec.ofNat 16 n := by
    have := congrArg (fun l => half (at0 l 0) (at0 l 1)) same
    simpa [n16, halfBytes, at0, half_of_halfBytes] using this
  simpa [Nat.mod_eq_of_lt fitsM, Nat.mod_eq_of_lt fitsN] using congrArg BitVec.toNat words

theorem byte_injective {m n : Nat} (fitsM : m < 256) (fitsN : n < 256) (same : byte m = byte n) : m = n := by
  simpa [byte_toNat fitsM, byte_toNat fitsN] using congrArg BitVec.toNat same

/-- Records whose timers fit their fields and which are sent as the same bytes are the same (R163). -/
theorem settings_bytes_injective {x y : Settings}
    (fitsX : x.tuneTimeout < 65536 ∧ x.meterSilence < 65536 ∧ x.switcherSilence < 65536 ∧ x.switcherHold < 65536
      ∧ x.lampRefresh < 256 ∧ x.sweepInterval < 65536)
    (fitsY : y.tuneTimeout < 65536 ∧ y.meterSilence < 65536 ∧ y.switcherSilence < 65536 ∧ y.switcherHold < 65536
      ∧ y.lampRefresh < 256 ∧ y.sweepInterval < 65536) (same : x.bytes = y.bytes) : x = y := by
  obtain ⟨x1, x2, x3, x4, x5, x6⟩ := fitsX
  obtain ⟨y1, y2, y3, y4, y5, y6⟩ := fitsY
  cases x
  cases y
  simp only [Settings.bytes, n16, halfBytes, List.cons_append, List.nil_append, List.cons.injEq] at same
  obtain ⟨node, t1, t0, m1, m0, w1, w0, h1, h0, lamp, i1, i0, -⟩ := same
  simp only [Settings.mk.injEq]
  refine ⟨node, n16_injective x1 y1 ?_, n16_injective x2 y2 ?_, n16_injective x3 y3 ?_, n16_injective x4 y4 ?_,
    byte_injective x5 y5 lamp, n16_injective x6 y6 ?_⟩
  all_goals simp only [n16, halfBytes, *]

theorem writeSettings_unread {record : List Byte} (unlocked : s.mgr.locked = false) (unread : readSettings record = none) :
    writeSettings 0 record s = refuse .range s := by
  refine (if_neg (not_not_intro rfl)).trans ((if_neg (by simp [unlocked])).trans ?_)
  rw [unread]

theorem writeSettings_read {record : List Byte} {x : Settings} (unlocked : s.mgr.locked = false)
    (read : readSettings record = some x) : writeSettings 0 record s =
      if x.reportNode = s.rif.node then refuse .range s
      else if x.clamped = x then accept (takeSettings x s)
      else { status := .clamped, results := x.clamped.bytes, state := takeSettings x.clamped s } := by
  refine (if_neg (not_not_intro rfl)).trans ((if_neg (by simp [unlocked])).trans ?_)
  rw [read]

theorem settingsOf_fits (node t1 t0 m1 m0 w1 w0 h1 h0 lamp i1 i0 : Byte) {x : Settings}
    (isRaw : x = settingsOf node t1 t0 m1 m0 w1 w0 h1 h0 lamp i1 i0) :
    x.tuneTimeout < 65536 ∧ x.meterSilence < 65536 ∧ x.switcherSilence < 65536 ∧ x.switcherHold < 65536
      ∧ x.lampRefresh < 256 ∧ x.sweepInterval < 65536 := by
  subst isRaw
  simp only [settingsOf, u16]
  omega

theorem clamped_fits (x : Settings) : x.clamped.tuneTimeout < 65536 ∧ x.clamped.meterSilence < 65536
    ∧ x.clamped.switcherSilence < 65536 ∧ x.clamped.switcherHold < 65536 ∧ x.clamped.lampRefresh < 256
    ∧ x.clamped.sweepInterval < 65536 := by
  simp only [Settings.clamped, clampTo]
  omega

end

/-- Settles O29. -/
theorem settingsWrite : Obligations.SettingsWrite := by
  refine ⟨fun h i r s taken length => congrArg _ (receiveWrite_length taken length),
    fun h i node t1 t0 m1 m0 w1 w0 h1 h0 lamp i1 i0 r s isRecord taken => ?_⟩
  have length : r.length = 12 := by rw [isRecord]; rfl
  have reading : readSettings r = (nodeField node).bind fun n => some (settingsOf n t1 t0 m1 m0 w1 w0 h1 h0 lamp i1 i0) := by
    rw [isRecord, readSettings_eq]
  refine ⟨fun other => ?_, ?_⟩
  · exact congrArg _ (receiveWrite_refused taken length (writeSettings_noSuch fun zero => other (BitVec.eq_of_toNat_eq zero)))
  · rintro rfl unlocked
    refine ⟨fun barred => ?_, fun below foreign x u isClamped isAfter => ?_⟩
    · by_cases above : 239 < node.toNat
      · have unread : readSettings r = none := by
          rw [reading, nodeField, given, if_neg (by simpa using above)]
          rfl
        exact congrArg _ (receiveWrite_refused taken length (writeSettings_unread (s := s.handed) unlocked unread))
      · have read : readSettings r = some (settingsOf node t1 t0 m1 m0 w1 w0 h1 h0 lamp i1 i0) := by
          rw [reading, nodeField_eq_some.mpr ⟨by omega, rfl⟩]
          rfl
        exact congrArg _ (receiveWrite_refused taken length
          ((writeSettings_read (s := s.handed) unlocked read).trans (if_pos (barred.resolve_left above))))
    · obtain ⟨raw, isRaw⟩ : ∃ raw, raw = settingsOf node t1 t0 m1 m0 w1 w0 h1 h0 lamp i1 i0 := ⟨_, rfl⟩
      have read : readSettings r = some raw := by
        rw [reading, nodeField_eq_some.mpr ⟨below, rfl⟩, isRaw]
        rfl
      have clamped : raw.clamped = x := by
        rw [isClamped, isRaw]
        simp only [Settings.clamped, settingsOf, clampTo, Nat.zero_max]
      have write := (writeSettings_read (s := s.handed) unlocked read).trans (if_neg (by rw [isRaw]; exact foreign))
      have after (y : Settings) (isX : y = x) : takeSettings y s.handed = u := by rw [isX, isAfter, takeSettings_eq]; rfl
      have raws : raw.bytes = r := settings_bytes read
      refine ⟨fun same => ?_, fun other => ?_⟩
      · have fixed : raw.clamped = raw :=
          settings_bytes_injective (clamped_fits raw) (settingsOf_fits _ _ _ _ _ _ _ _ _ _ _ _ isRaw)
            (by rw [clamped, same, raws])
        refine congrArg _ (receiveWrite_taken taken length (write.trans ((if_pos fixed).trans ?_)) (by rw [isAfter]))
        rw [accept, after raw (fixed.symm.trans clamped)]
      · have moved : raw.clamped ≠ raw := fun fixed => other (by rw [← clamped, fixed, raws])
        refine congrArg _ (receiveWrite_taken taken length (write.trans ((if_neg moved).trans ?_)) (by rw [isAfter]))
        rw [after _ clamped, clamped]

end Sys2Proof.Machine
end

section
/-! Proofs of the writes to TALKSRC, DEST, XPOINT, SWITCHER and SOURCEMAP: their tests in their order and what a taken write leaves
(R118 to R120, R129, R143 to R145). -/

namespace Sys2Proof.Machine

/-! ## TALKSRC (R143) -/

section
variable {s : State} {index : Nat} {record : List Byte}

section
variable {x : TalkId} (named : index = x.val)
include named

theorem writeTalkSource_unread (unread : readTalkSource record = none) : writeTalkSource index record s = refuse .range s := by
  rw [writeTalkSource, finField_some named, unread]

variable {e : TalkSource} (read : readTalkSource record = some e)
include read

theorem writeTalkSource_read : writeTalkSource index record s =
    if e.node = s.rif.node || (e.enabled && e.node = 0) then refuse .range s
    else if e.enabled && (List.finRange 16).any fun j =>
        j ≠ x && (rd s.tbm.sources j).enabled && (rd s.tbm.sources j).node = e.node && (rd s.tbm.sources j).key = e.key then
      refuse .inUse s
    else accept (s.onTbm fun t => { t with
      sources := wr t.sources x e
      buffers := if (rd s.tbm.sources x).enabled && (!e.enabled || (rd s.tbm.sources x).node ≠ e.node
          || (rd s.tbm.sources x).key ≠ e.key) then wr t.buffers x .silent else t.buffers }) := by
  rw [writeTalkSource, finField_some named, read]

theorem writeTalkSource_range (barred : e.node = s.rif.node ∨ (e.enabled = true ∧ e.node = 0)) :
    writeTalkSource index record s = refuse .range s := by
  rw [writeTalkSource_read named read]
  exact if_pos (by simpa using barred)

variable (foreign : e.node ≠ s.rif.node) (addressed : e.enabled = true → e.node ≠ 0)
include foreign addressed

theorem writeTalkSource_inUse (enabled : e.enabled = true) (other : ∃ y, y ≠ x ∧ (rd s.tbm.sources y).enabled = true
    ∧ (rd s.tbm.sources y).node = e.node ∧ (rd s.tbm.sources y).key = e.key) :
    writeTalkSource index record s = refuse .inUse s := by
  rw [writeTalkSource_read named read, if_neg (by simpa [foreign] using addressed)]
  exact if_pos (by simpa [enabled, and_assoc] using other)

theorem writeTalkSource_taken (free : e.enabled = false ∨ ∀ y, y ≠ x → (rd s.tbm.sources y).enabled = true →
      (rd s.tbm.sources y).node = e.node → (rd s.tbm.sources y).key ≠ e.key) :
    writeTalkSource index record s = accept { s with tbm := { s.tbm with
      sources := wr s.tbm.sources x e
      buffers := if (rd s.tbm.sources x).enabled = true ∧ (e.enabled = false
            ∨ (rd s.tbm.sources x).node ≠ e.node ∨ (rd s.tbm.sources x).key ≠ e.key)
        then wr s.tbm.buffers x .silent else s.tbm.buffers } } := by
  rw [writeTalkSource_read named read, if_neg (by simpa [foreign] using addressed), if_neg]
  · simp only [State.onTbm, Bool.and_eq_true, Bool.or_eq_true, Bool.not_eq_true', decide_eq_true_eq, or_assoc]
  · simpa [imp_iff_not_or, or_assoc] using free

end

/-! ## DEST (R144) -/

/-- Reports about several links, with the flags they leave (R137). -/
theorem lampPendWhere_eq {p : LinkId → Bool} {pend : Vector Bool 64}
    (pended : ∀ k, rd pend k = (rd s.lmp.pending k || (p k && s.eligible k))) :
    lampPendWhere p s = { s with lmp := { s.lmp with pending := pend } } := by
  have same : (tab fun k => rd s.lmp.pending k || (p k && s.eligible k)) = pend := tab_ext fun k => by rw [rd_tab, pended]
  simp only [lampPendWhere, State.onLmp, same]

section
variable {d : DestId} (named : index = d.val)
include named

theorem writeDest_unread (unread : readDest record = none) : writeDest index record s = refuse .range s := by
  rw [writeDest, finField_some named, unread]

variable {e : Dest} (read : readDest record = some e)
include read

theorem writeDest_range (enabled : e.enabled = true) (wired : e.link = none) (node : e.wired = 0 ∨ e.wired = s.rif.node) :
    writeDest index record s = refuse .range s := by
  rw [writeDest, finField_some named, read]
  exact if_pos (by simpa [enabled, wired] using node)

/-- What a taken write to DEST leaves: the flags of a destination that is disabled cleared and its lamps reported, the unsent MIX
frame of one that is disabled or renamed withdrawn (R144, R150, R156, R157). -/
theorem writeDest_taken (may : e.enabled = false ∨ e.link ≠ none ∨ (e.wired ≠ 0 ∧ e.wired ≠ s.rif.node)) {off : Bool}
    (isOff : off = ((rd s.tbm.dests d).enabled && !e.enabled)) {pend : Vector Bool 64}
    (pended : ∀ k, rd pend k = (rd s.lmp.pending k
      || (off && rd s.tbm.call d && (s.link k).cfg.talkback = some d && s.eligible k))) :
    writeDest index record s = accept { s with
      tbm := { s.tbm with
        dests := wr s.tbm.dests d e
        call := if off then wr s.tbm.call d false else s.tbm.call
        ducked := if off then wr s.tbm.ducked d false else s.tbm.ducked }
      lmp := { s.lmp with pending := pend }
      rif := { s.rif with
        voiceQ := if e.enabled = false ∨ (rd s.tbm.dests d).link ≠ e.link ∨ (rd s.tbm.dests d).wired ≠ e.wired
          then wr s.rif.voiceQ d none else s.rif.voiceQ } } := by
  subst isOff
  rw [writeDest, finField_some named, read]
  refine (if_neg ?_).trans ?_
  · rcases may with disabled | linked | ⟨node, foreign⟩
    · simp [disabled]
    · simp [linked]
    · simpa [foreign] using fun _ _ => node
  · have reported : callReport (fun x => x = d && ((rd s.tbm.dests d).enabled && !e.enabled) && rd s.tbm.call d) (s.onTbm fun t =>
          { t with
            dests := wr t.dests d e
            call := if (rd s.tbm.dests d).enabled && !e.enabled then wr t.call d false else t.call
            ducked := if (rd s.tbm.dests d).enabled && !e.enabled then wr t.ducked d false else t.ducked })
        = { s with
          tbm := { s.tbm with
            dests := wr s.tbm.dests d e
            call := if (rd s.tbm.dests d).enabled && !e.enabled then wr s.tbm.call d false else s.tbm.call
            ducked := if (rd s.tbm.dests d).enabled && !e.enabled then wr s.tbm.ducked d false else s.tbm.ducked }
          lmp := { s.lmp with pending := pend } } := by
      refine lampPendWhere_eq fun k => (pended k).trans ?_
      refine congrArg (fun x => rd s.lmp.pending k || (x && s.eligible k)) ?_
      rw [show ((s.onTbm _).link k) = s.link k from rfl]
      cases (s.link k).cfg.talkback with
      | none => simp
      | some x => simp [Bool.and_comm, Bool.and_left_comm]
    have flag : (!e.enabled || decide ((rd s.tbm.dests d).link ≠ e.link) || decide ((rd s.tbm.dests d).wired ≠ e.wired)) = true
        ↔ e.enabled = false ∨ (rd s.tbm.dests d).link ≠ e.link ∨ (rd s.tbm.dests d).wired ≠ e.wired := by
      simp [or_assoc]
    simp only [reported, flag]
    split
    · rfl
    · rfl

end

/-! ## XPOINT (R145) -/

theorem writeXpoint_unread {x : TalkId} (named : index = x.val) (unread : readXpoints record = none) :
    writeXpoint index record s = refuse .range s := by
  rw [writeXpoint, finField_some named, unread]

theorem writeXpoint_taken {x : TalkId} {row : Vector Xpoint 32} (named : index = x.val) (read : readXpoints record = some row) :
    writeXpoint index record s = accept (s.onTbm fun t => { t with xpoints := wr t.xpoints x row }) := by
  rw [writeXpoint, finField_some named, read]

end

theorem readOnOff_some {b : Byte} {v : Bool} (small : b.toNat ≤ 1) (value : v = decide (b = 1)) : readOnOff b = some v := by
  have either : b = 0 ∨ b = 1 := by bv_omega
  rcases either with rfl | rfl <;> rw [value] <;> rfl

theorem readOnOff_none {b : Byte} (large : 1 < b.toNat) : readOnOff b = none := by
  rw [readOnOff, if_neg (by bv_omega), if_neg (by bv_omega)]

theorem readXpoints_none {r : List Byte} {d : Nat} (inside : d < 32)
    (bad : 1 < (at0 r (2 * d)).toNat ∨ 15 < (at0 r (2 * d + 1)).toNat) : readXpoints r = none := by
  refine if_neg fun every => ?_
  obtain ⟨x, isEntry⟩ := Option.isSome_iff_exists.mp (List.all_eq_true.mp every ⟨d, inside⟩ (List.mem_finRange _))
  obtain ⟨_, on, field⟩ := field_of_read isEntry
  obtain ⟨_, gain, -⟩ := field_of_read field
  rcases bad with switch | level
  · rw [readOnOff_none switch] at on
    cases on
  · rw [finField_none level] at gain
    cases gain

theorem readXpoints_some {r : List Byte} {row : Vector Xpoint 32} (fields : ∀ d : DestId, (at0 r (2 * d.val)).toNat ≤ 1
      ∧ (rd row d).on = (at0 r (2 * d.val) = 1) ∧ (rd row d).gain.val = (at0 r (2 * d.val + 1)).toNat) :
    readXpoints r = some row := by
  unfold readXpoints
  extract_lets entry
  have entries (d : Fin 32) : entry d = some (rd row d) := by
    obtain ⟨small, on, gain⟩ := fields d
    have switch := readOnOff_some small (Bool.eq_iff_iff.mpr ((iff_of_eq on).trans decide_eq_true_iff.symm))
    simp only [entry, switch, finField_some gain.symm]
    rfl
  rw [if_pos (by simp [entries])]
  exact congrArg some (tab_ext fun d => by rw [rd_tab, entries]; rfl)

/-- Settles O28. -/
theorem talkbackWrites : Obligations.TalkbackWrites := by
  refine ⟨fun h i r s taken => ⟨fun length => congrArg _ (receiveWrite_length taken length), fun length above => ?_,
      fun x length named => ⟨fun unread => ?_, fun e read => ⟨fun barred => ?_, fun foreign addressed => ⟨fun enabled other => ?_,
        fun free => ?_⟩⟩⟩⟩,
    fun h i r s taken => ⟨fun length => congrArg _ (receiveWrite_length taken length), fun length above => ?_,
      fun d length named => ⟨fun unread => ?_, fun e read => ⟨fun enabled wired node => ?_, fun may => ?_⟩⟩⟩,
    fun h i r s taken => ⟨fun length => congrArg _ (receiveWrite_length taken length), fun length above => ?_,
      fun x length named => ⟨fun bad => ?_, fun row fields => ?_⟩⟩⟩
  · exact congrArg _ (receiveWrite_refused taken length (by rw [writeTalkSource, finField_none above]))
  · exact congrArg _ (receiveWrite_refused taken length (writeTalkSource_unread named unread))
  · exact congrArg _ (receiveWrite_refused taken length (writeTalkSource_range (s := s.handed) named read barred))
  · exact congrArg _ (receiveWrite_refused taken length
      (writeTalkSource_inUse (s := s.handed) named read foreign addressed enabled other))
  · exact congrArg _ (receiveWrite_taken taken length
      (writeTalkSource_taken (s := s.handed) named read foreign addressed free) rfl)
  · exact congrArg _ (receiveWrite_refused taken length (by rw [writeDest, finField_none above]))
  · exact congrArg _ (receiveWrite_refused taken length (writeDest_unread named unread))
  · exact congrArg _ (receiveWrite_refused taken length (writeDest_range (s := s.handed) named read enabled wired node))
  · rintro old off pend rfl isOff pended
    exact congrArg _ (receiveWrite_taken taken length (writeDest_taken (s := s.handed) named read may isOff pended) rfl)
  · exact congrArg _ (receiveWrite_refused taken length (by rw [writeXpoint, finField_none above]))
  · obtain ⟨d, inside, bad⟩ := bad
    exact congrArg _ (receiveWrite_refused taken length (writeXpoint_unread named (readXpoints_none inside bad)))
  · exact congrArg _ (receiveWrite_taken taken length (writeXpoint_taken (s := s.handed) named (readXpoints_some fields)) rfl)

/-! ## SWITCHER (R118, R120, R129) -/

section
variable {s : State} {index : Nat} {record : List Byte} {x : SlotId} {c : SlotCfg} (unlocked : s.mgr.locked = false)
  (named : index = x.val)
include unlocked named

theorem writeSwitcher_unread (unread : readSlotCfg record = none) : writeSwitcher index record s = refuse .range s := by
  rw [writeSwitcher, finField_some named]
  refine (if_neg (by simp [unlocked])).trans ?_
  rw [unread]

variable (read : readSlotCfg record = some c)
include read

theorem writeSwitcher_read : writeSwitcher index record s =
    if c.node = s.rif.node || (c.enabled && c.node = 0) then refuse .range s
    else if c.enabled && (List.finRange 4).any fun j =>
        j ≠ x && (s.slot j).cfg.enabled && (s.slot j).cfg.node = c.node then refuse .inUse s
    else
      let drops := (s.slot x).cfg.enabled && (!c.enabled || c.node ≠ (s.slot x).cfg.node)
      let t := onSlot x (fun t => let t := { t with cfg := c }; if drops then t.offline else t) s
      accept (remerge (if drops then switcherNote x c.node (s.slot x).state .offline t else t)) := by
  rw [writeSwitcher, finField_some named]
  refine (if_neg (by simp [unlocked])).trans ?_
  rw [read]

theorem writeSwitcher_range (barred : c.node = s.rif.node ∨ (c.enabled = true ∧ c.node = 0)) :
    writeSwitcher index record s = refuse .range s := by
  rw [writeSwitcher_read unlocked named read]
  exact if_pos (by simpa using barred)

variable (foreign : c.node ≠ s.rif.node) (addressed : c.enabled = true → c.node ≠ 0)
include foreign addressed

theorem writeSwitcher_inUse (enabled : c.enabled = true)
    (other : ∃ y, y ≠ x ∧ (s.slot y).cfg.enabled = true ∧ (s.slot y).cfg.node = c.node) :
    writeSwitcher index record s = refuse .inUse s := by
  rw [writeSwitcher_read unlocked named read, if_neg (by simpa [foreign] using addressed)]
  exact if_pos (by simpa [enabled, and_assoc] using other)

variable (free : c.enabled = false ∨ ∀ y, y ≠ x → (s.slot y).cfg.enabled = true → (s.slot y).cfg.node ≠ c.node)
include free

theorem writeSwitcher_free : writeSwitcher index record s =
    let drops := (s.slot x).cfg.enabled && (!c.enabled || c.node ≠ (s.slot x).cfg.node)
    let t := onSlot x (fun t => let t := { t with cfg := c }; if drops then t.offline else t) s
    accept (remerge (if drops then switcherNote x c.node (s.slot x).state .offline t else t)) := by
  rw [writeSwitcher_read unlocked named read, if_neg (by simpa [foreign] using addressed)]
  refine if_neg ?_
  rcases free with disabled | free
  · simp [disabled]
  · simpa using fun _ y other enabled => free y other enabled

theorem writeSwitcher_stays (stays : (s.slot x).cfg.enabled = false ∨ (c.enabled = true ∧ c.node = (s.slot x).cfg.node)) :
    writeSwitcher index record s = accept (remerge { s with tly := { slots := wr s.tly.slots x { s.slot x with cfg := c } } }) := by
  have keeps : ((s.slot x).cfg.enabled && (!c.enabled || decide (c.node ≠ (s.slot x).cfg.node))) = false := by
    rcases stays with disabled | ⟨enabled, same⟩
    · simp [disabled]
    · simp [enabled, same]
  rw [writeSwitcher_free unlocked named read foreign addressed free, keeps]
  rfl

theorem writeSwitcher_drops (enabled : (s.slot x).cfg.enabled = true)
    (drops : c.enabled = false ∨ c.node ≠ (s.slot x).cfg.node) {off : State} (isOff : off = { s with
      tly := { slots := wr s.tly.slots x { s.slot x with
        cfg := c, state := .offline, contrib := emptyContribution, silence := none, hold := none } } }) :
    writeSwitcher index record s = accept (remerge (switcherNote x c.node (s.slot x).state .offline off)) := by
  have goes : ((s.slot x).cfg.enabled && (!c.enabled || decide (c.node ≠ (s.slot x).cfg.node))) = true := by
    simpa [enabled] using drops
  rw [writeSwitcher_free unlocked named read foreign addressed free, goes, isOff]
  rfl

end

/-- A recomputation of the tallies leaves the entry mark (R128, R173). -/
theorem remerge_entry (s : State) : (remerge s).rif.entry = s.rif.entry := by
  rw [remerge, (rteTally_inner _ _ _).rif]
  rfl

/-! ## SOURCEMAP (R119) -/

theorem finOrNone_isSome {b : Byte} (good : b.toNat < 64 ∨ b = 0xFF) : (finOrNone 64 b).isSome = true := by
  rcases good with small | rfl
  · rw [finOrNone]
    split
    · rfl
    · rw [finField, dif_pos small]
      rfl
  · rfl

theorem finOrNone_none {b : Byte} (large : 64 ≤ b.toNat) (number : b ≠ 0xFF) : finOrNone 64 b = none := by
  rw [finOrNone, if_neg number, finField_none large]
  rfl

theorem readMapRecord_none {r : List Byte} (bad : ∃ b ∈ r, 64 ≤ b.toNat ∧ b ≠ 0xFF) : readMapRecord r = none := by
  obtain ⟨b, inside, large, number⟩ := bad
  unfold readMapRecord
  induction r with
  | nil => cases inside
  | cons first rest ih =>
    rw [List.mapM_cons]
    rcases List.mem_cons.mp inside with rfl | later
    · rw [finOrNone_none large number]
      rfl
    · rw [ih later]
      cases finOrNone 64 first <;> rfl

theorem readMapRecord_some {r : List Byte} (good : ∀ b ∈ r, b.toNat < 64 ∨ b = 0xFF) : ∃ l, readMapRecord r = some l := by
  unfold readMapRecord
  induction r with
  | nil => exact ⟨[], rfl⟩
  | cons first rest ih =>
    obtain ⟨l, others⟩ := ih fun b later => good b (List.mem_cons_of_mem _ later)
    obtain ⟨k, entry⟩ := Option.isSome_iff_exists.mp (finOrNone_isSome (good first List.mem_cons_self))
    exact ⟨k :: l, by rw [List.mapM_cons, entry, others]; rfl⟩

/-- A slot's map after a map record is written (R119). -/
def writtenMap (rec : Nat) (entries : List (Option LinkId)) (old : Vector (Option LinkId) 256) : Vector (Option LinkId) 256 :=
  tab fun n => if n.val / 64 = rec % 4 then (entries[n.val % 64]?).getD none else rd old n

theorem writtenMap_bytes {rec : Nat} {entries : List (Option LinkId)} {r : List Byte} (length : r.length = 64)
    (bytes : entries.map finOrNoneByte = r) {old : Vector (Option LinkId) 256} {n : Fin 256} (own : n.val / 64 = rec % 4) :
    finOrNoneByte (rd (writtenMap rec entries old) n) = at0 r (n.val % 64) := by
  have inside : n.val % 64 < entries.length := by
    rw [← List.length_map (f := finOrNoneByte), bytes, length]
    exact Nat.mod_lt _ (by decide)
  rw [writtenMap, rd_tab, if_pos own, ← bytes]
  simp [at0, inside]

theorem writeSourcemap_taken {s : State} {index : Nat} {record : List Byte} {entries : List (Option LinkId)} (below : index < 16)
    (unlocked : s.mgr.locked = false) (read : readMapRecord record = some entries) :
    writeSourcemap index record s = accept (remerge { s with
      tly := { slots := wr s.tly.slots (mapSlot ⟨index, below⟩) { s.slot (mapSlot ⟨index, below⟩) with
        map := writtenMap index entries (s.slot (mapSlot ⟨index, below⟩)).map } } }) := by
  rw [writeSourcemap, finField_some (i := ⟨index, below⟩) rfl]
  refine (if_neg (by simp [unlocked])).trans ?_
  rw [read]
  rfl

/-- Settles O26. -/
theorem switcherAndMapWrites : Obligations.SwitcherAndMapWrites := by
  refine ⟨fun h i r s taken => ⟨fun length => congrArg _ (receiveWrite_length taken length), fun length above => ?_,
      fun x length named unlocked => ⟨fun unread => ?_, fun c read => ⟨fun barred => ?_, fun foreign addressed =>
        ⟨fun enabled other => ?_, fun free => ⟨fun stays => ?_, fun enabled drops off isOff => ?_⟩⟩⟩⟩⟩,
    fun h i r s taken => ⟨fun length => congrArg _ (receiveWrite_length taken length), fun length above => ?_,
      fun x length below slot unlocked => ⟨fun bad => ?_, fun good => ?_⟩⟩⟩
  · exact congrArg _ (receiveWrite_refused taken length (by rw [writeSwitcher, finField_none above]))
  · exact congrArg _ (receiveWrite_refused taken length (writeSwitcher_unread (s := s.handed) unlocked named unread))
  · exact congrArg _ (receiveWrite_refused taken length (writeSwitcher_range (s := s.handed) unlocked named read barred))
  · exact congrArg _ (receiveWrite_refused taken length
      (writeSwitcher_inUse (s := s.handed) unlocked named read foreign addressed enabled other))
  · exact congrArg _ (receiveWrite_taken taken length
      (writeSwitcher_stays (s := s.handed) unlocked named read foreign addressed free stays) (remerge_entry _))
  · have noted : (if (s.slot x).state = .offline then off
          else note .switcher [byte x.val, c.node, (s.slot x).state.code, SlotState.offline.code] off)
        = switcherNote x c.node (s.slot x).state .offline off := by
      rw [switcherNote, ite_not]
    rw [noted]
    refine congrArg _ (receiveWrite_taken taken length
      (writeSwitcher_drops (s := s.handed) unlocked named read foreign addressed free enabled drops isOff) ?_)
    rw [remerge_entry, (switcherNote_inner _ _ _ _ _).rif, isOff]
  · exact congrArg _ (receiveWrite_refused taken length (by rw [writeSourcemap, finField_none above]))
  · refine congrArg _ (receiveWrite_refused taken length ?_)
    rw [writeSourcemap, finField_some (i := ⟨i.toNat, below⟩) rfl]
    refine (if_neg (by simp [show s.handed.mgr.locked = false from unlocked])).trans ?_
    rw [readMapRecord_none bad]
  · obtain ⟨entries, read⟩ := readMapRecord_some good
    obtain rfl : x = mapSlot ⟨i.toNat, below⟩ := Fin.ext slot
    refine ⟨writtenMap i.toNat entries (s.slot (mapSlot ⟨i.toNat, below⟩)).map, fun n => ?_,
      fun n own => writtenMap_bytes length (mapRecord_bytes read) own, ?_⟩
    · rw [writtenMap, rd_tab]
      split
      · next own => exact .inr own
      · exact .inl rfl
    · exact congrArg _ (receiveWrite_taken taken length (writeSourcemap_taken (s := s.handed) below unlocked read)
        (remerge_entry _))

end Sys2Proof.Machine
end

section
/-! The OWN marking as a whole (R60, R61, R73), and the proof of the writes to LINK (R8, R9, R10). -/

namespace Sys2Proof.Machine

/-! ## OWN marking: which cells are OWN after it, and which spares stay -/

section
variable {s t : State} {b : BandId} {spans : List Span}

theorem marked_own (c : Cell) (own : Bool) : (c.marked own).state = .own ↔ own = true := by
  unfold Cell.marked
  cases own with
  | true => simp
  | false => cases state : c.state <;> simp [state]

theorem remarkCells_ownMarked (s : State) (b : BandId) (spans : List Span) :
    s.ownMarked (remarkCells b (touching spans) s) b spans := by
  intro j
  have cell : rd (rd (remarkCells b (touching spans) s).swp.cells b) j =
      if j.val < (s.band b).cellCount then
        match (s.band b).cellSpan j.val with
        | some sp => if touching spans sp then
            (rd (rd s.swp.cells b) j).marked ((bandCarriers s.plan s.rte b).any sp.overlaps) else rd (rd s.swp.cells b) j
        | none => rd (rd s.swp.cells b) j
      else rd (rd s.swp.cells b) j :=
    (congrArg (fun v => rd v j) (rd_wr_same s.swp.cells b _)).trans (rd_tab _ j)
  have carriers : bandCarriers (remarkCells b (touching spans) s).plan (remarkCells b (touching spans) s).rte b
      = bandCarriers s.plan s.rte b := rfl
  rw [cell, carriers]
  by_cases below : j.val < (s.band b).cellCount
  · rw [if_pos below]
    cases span : (s.band b).cellSpan j.val with
    | none => simp
    | some c =>
      simp only [Option.some.injEq, exists_eq_left', below, true_and, ← touching_iff]
      by_cases touched : touching spans c = true
      · rw [if_pos touched, if_pos touched, marked_own, touching_iff, List.any_eq_true]
      · rw [if_neg touched, if_neg touched]
  · rw [if_neg below, if_neg]
    rintro ⟨c, -, inside, -⟩
    exact below inside

theorem remarkCells_elsewhere {b' : BandId} (other : b' ≠ b) (touched : Span → Bool) (s : State) :
    rd (remarkCells b touched s).swp.cells b' = rd s.swp.cells b' := (rd_wr _ _ _ _).trans (if_neg other.symm)

/-- The spare entries that stay are those whose cell did not become OWN (R51, R61). -/
theorem remarkCells_spares (b : BandId) (touched : Span → Bool) (s : State) (b' : BandId) :
    rd (remarkCells b touched s).cpl.spares b' = (rd s.cpl.spares b').filter fun x =>
      ¬∃ j : Fin 256, j.val = (s.band b').cellOf x.channel
        ∧ (rd (rd (remarkCells b touched s).swp.cells b') j).state = .own ∧ (rd (rd s.swp.cells b') j).state ≠ .own := by
  by_cases here : b' = b
  · subst here
    have cells : rd (remarkCells b' touched s).swp.cells b' = _ := rd_wr_same _ _ _
    rw [cells]
    unfold remarkCells
    extract_lets e carriers old marked
    rw [spareRemoveCells_eq (stays := fun x => decide ¬∃ j : Fin 256, j.val = (s.band b').cellOf x.channel
        ∧ (rd marked j).state = .own ∧ (rd old j).state ≠ .own)]
    · exact rd_wr_same _ _ _
    · intro x
      simp only [val_eq_iff_finField]
      rw [show (s.onSwp _).band b' = s.band b' from rfl]
      cases finField 256 ((s.band b').cellOf x.channel) with
      | none => simp
      | some j => simp
  · rw [remarkCells_elsewhere here]
    refine ((rd_wr _ _ _ _).trans (if_neg (Ne.symm here))).trans ?_
    refine (List.filter_eq_self.mpr fun x _ => ?_).symm
    simp

end

/-! ## The planner and the pass leave the Spare Lists (R39, R71) -/

section
variable (s : State)

theorem offerRsp_cpl (f : Frame) : (offerRsp f s).cpl = s.cpl := by
  unfold offerRsp
  split
  · rfl
  · rfl

theorem answerOp_cpl (op : ActiveOp) (st : RspStatus) (results : List Byte) : (answerOp op st results s).cpl = s.cpl := by
  unfold answerOp
  split
  · exact offerRsp_cpl s _
  · rfl

theorem arbitrate_spares (n : Nat) : (arbitrate n s).cpl.spares = s.cpl.spares := by
  induction n generalizing s with
  | zero => rfl
  | succ n ih =>
    unfold arbitrate
    split
    · rfl
    · next w c next =>
      have taken : (beginOp w (s.onCpl fun _ => c)).cpl.spares = s.cpl.spares := (nextWork_keeps next).2
      simp only
      split
      · split
        · rw [ih, answerOp_cpl, taken]
        · exact taken
      · exact taken

theorem setRefillFlag_spares (b : BandId) : (setRefillFlag b s).cpl.spares = s.cpl.spares := by
  unfold setRefillFlag
  simp only
  split
  · exact arbitrate_spares _ _
  · rfl

theorem passEnd_spares : (passEnd s).cpl.spares = s.cpl.spares := setRefillFlag_spares _ _

theorem offerProbe_cpl (h : HeldProbe) : (offerProbe h s).cpl = s.cpl := by
  unfold offerProbe
  split
  · rfl
  · rfl

theorem sweepTake_spares (n : Nat) : (sweepTake offerProbe n s).cpl.spares = s.cpl.spares := by
  induction n generalizing s with
  | zero => rfl
  | succ n ih =>
    unfold sweepTake
    simp only
    split
    · exact congrArg Cpl.spares (offerProbe_cpl _ _)
    · split
      · exact passEnd_spares s
      · exact passEnd_spares s
      · exact passEnd_spares s
      · split
        · exact passEnd_spares s
        · exact (ih _).trans (passEnd_spares s)

theorem sweepOn_spares : (sweepOn s).cpl.spares = s.cpl.spares := by
  unfold sweepOn sweepOnBy
  simp only
  split
  · rfl
  · exact sweepTake_spares _ _

/-- What follows the OWN marks in the sweep leaves the Spare Lists (R73). -/
theorem ownRecompute_spares (b : BandId) (touched : Span → Bool) :
    (ownRecompute b touched s).cpl.spares = (remarkCells b touched s).cpl.spares := by
  unfold ownRecompute
  simp only
  split
  · split
    · split
      · exact sweepOn_spares _
      · rfl
    · split
      · exact sweepOn_spares _
      · rfl
    · rfl
  · rfl

end

/-! ## What the marking leaves of a band, for the records that stand before and after it -/

section
variable {s t : State} {b : BandId} {spans : List Span}

/-- OWN marks are those of any state with the same band, cells and carriers. -/
theorem State.ownMarked.congr {s' t' : State} (marked : s'.ownMarked t' b spans) (band : s'.band b = s.band b)
    (cells : rd s'.swp.cells b = rd s.swp.cells b)
    (own : ∀ j, (rd (rd t.swp.cells b) j).state = .own ↔ (rd (rd t'.swp.cells b) j).state = .own)
    (carriers : bandCarriers t.plan t.rte b = bandCarriers t'.plan t'.rte b) : s.ownMarked t b spans := by
  intro j
  rw [own, marked j, band, cells, carriers]

theorem ownRecompute_ownMarked (s : State) (b : BandId) (spans : List Span) :
    s.ownMarked (ownRecompute b (touching spans) s) b spans :=
  have rest := ownRecompute_aside s b (touching spans)
  (remarkCells_ownMarked s b spans).congr rfl rfl (fun j => rest.own b j) (by rw [rest.plan, rest.rte])

theorem ownRecompute_elsewhere {b' : BandId} (other : b' ≠ b) (touched : Span → Bool) (s : State) (j : Fin 256) :
    (rd (rd (ownRecompute b touched s).swp.cells b') j).state = .own ↔ (rd (rd s.swp.cells b') j).state = .own := by
  rw [(ownRecompute_aside s b touched).own, remarkCells_elsewhere other]

theorem ownRecompute_spares_filter (b : BandId) (touched : Span → Bool) (s : State) (b' : BandId) :
    rd (ownRecompute b touched s).cpl.spares b' = (rd s.cpl.spares b').filter fun x =>
      ¬∃ j : Fin 256, j.val = (s.band b').cellOf x.channel
        ∧ (rd (rd (ownRecompute b touched s).swp.cells b') j).state = .own ∧ (rd (rd s.swp.cells b') j).state ≠ .own := by
  rw [ownRecompute_spares, remarkCells_spares]
  simp only [(ownRecompute_aside s b touched).own]

/-- A carrier of a band is there by its link's configuration and carrier, and by the Active order (R12). -/
theorem bandCarriers_congr {p q : Plan} {r : Rte} (bands : q.bands = p.bands)
    (links : ∀ j, (rd q.links j).cfg = (rd p.links j).cfg ∧ (rd q.links j).carrier = (rd p.links j).carrier) :
    bandCarriers q r b = bandCarriers p r b := by
  have target : tuningTarget q r = tuningTarget p r := by
    simp only [tuningTarget, (links _).2]
  simp only [bandCarriers, target, bands, Link.standsAt, (links _).1, (links _).2]

end

/-! ## LINK (R8, R9, R10) -/

section
variable {s : State} {k : LinkId} {index : Nat} {record : List Byte} (named : index = k.val) (unlocked : s.mgr.locked = false)
include named unlocked

theorem writeLink_busy (busy : (s.link k).carrier.phase ≠ .idle) : writeLink index record s = refuse .busy s := by
  rw [writeLink, finField_some named]
  exact (if_neg (by simp [unlocked])).trans (if_pos (by simpa using busy))

variable (idle : (s.link k).carrier.phase = .idle)
include idle

theorem writeLink_unread (unread : readLinkCfg record = none) : writeLink index record s = refuse .range s := by
  rw [writeLink, finField_some named]
  refine (if_neg (by simp [unlocked])).trans ((if_neg (by simp [idle])).trans ?_)
  rw [unread]

variable {c : LinkCfg} (read : readLinkCfg record = some c)
include read

theorem writeLink_read : writeLink index record s =
    if !c.sound s.rif.node then refuse .range s
    else if (s.link k).stands && (s.link k).cfg.band ≠ c.band then refuse .inUse s
    else if (s.link k).stands && (s.link k).cfg.width ≠ c.width && s.widthBarred k c.width then refuse .inWindow s
    else accept (takeLink k c s) := by
  rw [writeLink, finField_some named]
  refine (if_neg (by simp [unlocked])).trans ((if_neg (by simp [idle])).trans ?_)
  rw [read]

theorem writeLink_range (unsound : c.sound s.rif.node = false) : writeLink index record s = refuse .range s := by
  rw [writeLink_read named unlocked idle read]
  exact if_pos (by simp [unsound])

variable (sound : c.sound s.rif.node = true)
include sound

theorem writeLink_inUse (stands : (s.link k).carrier.state ≠ .none) (moves : (s.link k).cfg.band ≠ c.band) :
    writeLink index record s = refuse .inUse s := by
  rw [writeLink_read named unlocked idle read, if_neg (by simp [sound])]
  exact if_pos (by simp [Link.stands, stands, moves])

variable (stays : (s.link k).carrier.state = .none ∨ (s.link k).cfg.band = c.band)
include stays

theorem writeLink_fits : writeLink index record s =
    if (s.link k).stands && (s.link k).cfg.width ≠ c.width && s.widthBarred k c.width then refuse .inWindow s
    else accept (takeLink k c s) := by
  rw [writeLink_read named unlocked idle read, if_neg (by simp [sound])]
  exact if_neg (by rcases stays with none | same <;> simp [Link.stands, *])

end

/-- A carrier at a width is barred by a window of its band that covers it (R8). -/
theorem widthBarred_iff {s : State} {k : LinkId} {width : Nat} : s.widthBarred k width = true ↔
    ∃ n w, (s.link k).carrier.channel = some n ∧ (rd s.plan.windows w).band = (s.link k).cfg.band
      ∧ (rd s.plan.windows w).covers (s.band (s.link k).cfg.band)
          (carrierSpan ((s.band (s.link k).cfg.band).freq n) width) = true := by
  unfold State.widthBarred
  cases (s.link k).carrier.channel with
  | none => simp
  | some n =>
    simp only [State.bandOf, BandEntry.channelSpan, Option.some.injEq, List.any_eq_true, List.mem_finRange, true_and,
      Bool.and_eq_true]
    refine ⟨fun ⟨w, band, covers⟩ => ⟨n, w, rfl, of_decide_eq_true band, covers⟩, fun ⟨_, w, same, band, covers⟩ => ?_⟩
    subst same
    exact ⟨w, decide_eq_true band, covers⟩

/-! ## A taken LINK write, stage by stage -/

/-- A link write retires the link's carrier (R10). -/
def Link.retires (l : Link) (c : LinkCfg) : Bool := l.stands && l.cfg.inUse && !c.inUse

/-- The new configuration stored, a retired carrier gone, the generation advanced where it must (R9, R10, R16). -/
def State.linkStored (s : State) (k : LinkId) (c : LinkCfg) : State :=
  let l := s.link k
  let t := s.onLink k fun l => { l with cfg := c, carrier := if (s.link k).retires c then l.carrier.retired else l.carrier }
  if l.stands && (l.cfg.band ≠ c.band || l.cfg.width ≠ c.width || l.cfg.inUse ≠ c.inUse) then t.advanceGen else t

/-- The OWN marks after a write that moves the carrier's span (R60). -/
def State.linkMarked (s : State) (k : LinkId) (c : LinkCfg) : State :=
  let t := s.linkStored k c
  if (s.link k).stands && ((s.link k).cfg.width ≠ c.width || (s.link k).retires c) then
    ownRecomputeLink k (s.spanOf k (s.link k).carrier.channel ++ t.spanOf k (t.link k).carrier.channel) t
  else t

/-- The want that goes with AUTO_RETUNE has left (R9). -/
def State.linkUnwanted (s : State) (k : LinkId) (c : LinkCfg) : State :=
  if (s.link k).cfg.autoRetune && !c.autoRetune then dropWant k (s.linkMarked k c) else s.linkMarked k c

/-- The reports of a retirement (R10). -/
def State.linkReported (s : State) (k : LinkId) (c : LinkCfg) : State :=
  if (s.link k).retires c then mixReport k (healthNone k (s.linkUnwanted k c)) else s.linkUnwanted k c

theorem takeLink_eq (k : LinkId) (c : LinkCfg) (s : State) :
    takeLink k c s = lampLinkWrite k (s.link k).cfg c (s.linkReported k c) := rfl

section
variable (s : State) (k : LinkId) (c : LinkCfg)

theorem linkStored_eq : s.linkStored k c = { s with plan := (s.linkStored k c).plan } := by
  unfold State.linkStored
  simp only
  split
  · rfl
  · rfl

theorem linkStored_tables : (s.linkStored k c).plan.bands = s.plan.bands ∧ (s.linkStored k c).plan.windows = s.plan.windows := by
  unfold State.linkStored
  simp only
  split
  · exact ⟨rfl, rfl⟩
  · exact ⟨rfl, rfl⟩

theorem linkStored_gen : (s.linkStored k c).plan.gen =
    if (s.link k).carrier.state ≠ .none ∧ ((s.link k).cfg.band ≠ c.band ∨ (s.link k).cfg.width ≠ c.width
      ∨ (s.link k).cfg.inUse ≠ c.inUse) then s.plan.gen + 1 else s.plan.gen := by
  unfold State.linkStored
  simp only [Link.stands, Bool.and_eq_true, Bool.or_eq_true, decide_eq_true_eq, or_assoc]
  split
  · rfl
  · rfl

theorem linkStored_link (j : LinkId) : (s.linkStored k c).link j = if k = j then { s.link k with
    cfg := c, carrier := if (s.link k).retires c then (s.link k).carrier.retired else (s.link k).carrier } else s.link j := by
  rw [← link_onLink s k j fun l =>
    { l with cfg := c, carrier := if (s.link k).retires c then l.carrier.retired else l.carrier }]
  unfold State.linkStored
  simp only
  split
  · rfl
  · rfl

theorem linkMarked_ledger : (s.linkMarked k c).ledger = (s.linkStored k c).ledger := by
  unfold State.linkMarked
  simp only
  split
  · exact ownRecomputeLink_ledger _ _ _
  · rfl

theorem linkMarked_inner : Inner (s.linkStored k c) (s.linkMarked k c) := by
  unfold State.linkMarked
  simp only
  split
  · exact ownRecomputeLink_inner _ _ _
  · exact Inner.refl _

theorem linkMarked_lamps : (s.linkMarked k c).lmp = s.lmp ∧ (s.linkMarked k c).rif.voiceQ = s.rif.voiceQ := by
  have lmp : (s.linkStored k c).lmp = s.lmp := by rw [linkStored_eq]
  have voiceQ : (s.linkStored k c).rif.voiceQ = s.rif.voiceQ := by rw [linkStored_eq]
  unfold State.linkMarked
  simp only
  split
  · have rest := ownRecompute_aside (s.linkStored k c) ((s.linkStored k c).link k).cfg.band (touching
      (s.spanOf k (s.link k).carrier.channel ++ (s.linkStored k c).spanOf k ((s.linkStored k c).link k).carrier.channel))
    exact ⟨rest.lmp.trans lmp, rest.voiceQ.trans voiceQ⟩
  · exact ⟨lmp, voiceQ⟩

theorem linkUnwanted_eq : s.linkUnwanted k c = { s.linkMarked k c with lmn := (s.linkUnwanted k c).lmn } := by
  unfold State.linkUnwanted dropWant
  split
  · split
    · rfl
    · rfl
  · rfl

theorem linkMarked_want (j : LinkId) : (s.linkMarked k c).want j = s.want j := by
  have same := lmn_of_ledger (linkMarked_ledger s k c)
  rw [State.want, same, linkStored_eq]
  rfl

theorem linkUnwanted_want (j : LinkId) : (s.linkUnwanted k c).want j =
    if k = j ∧ (s.link k).cfg.autoRetune = true ∧ c.autoRetune = false ∧ (s.want k = some .health ∨ s.want k = some .rescue)
    then none else s.want j := by
  unfold State.linkUnwanted dropWant
  simp only [linkMarked_want, Bool.and_eq_true, Bool.or_eq_true, Bool.not_eq_true', decide_eq_true_eq]
  by_cases off : (s.link k).cfg.autoRetune = true ∧ c.autoRetune = false
  · rw [if_pos off]
    by_cases wanted : s.want k = some .health ∨ s.want k = some .rescue
    · rw [if_pos wanted]
      refine (rd_wr _ _ _ _).trans ?_
      simp only [off, wanted, and_true]
      rw [← linkMarked_want s k c j]
      rfl
    · rw [if_neg wanted, linkMarked_want, if_neg fun ⟨_, _, _, named⟩ => wanted named]
  · rw [if_neg off, linkMarked_want, if_neg fun ⟨_, on, goes, _⟩ => off ⟨on, goes⟩]

/-- A report about the health of a link that is not eligible sets no lamp (R137). -/
theorem healthNone_ineligible {k : LinkId} {s : State} (dark : s.eligible k = false) :
    healthNone k s = setWant k none (s.onHealth k fun h =>
      { h with grade := .unknown, level := none, persist := 0, silence := none, batteryLow := false, lastBattery := none }) := by
  have still (t : State) (same : t.eligible k = false) : lampPend k t = t := by
    rw [lampPend, same]
    rfl
  unfold healthNone
  simp only [healthLamp]
  split
  · refine still _ ?_
    simpa [State.eligible, setWant, State.link, State.onHealth, State.onLink] using dark
  · rfl

/-- A link's health when its carrier has left the plan (R89). -/
def LinkHealth.forgotten (h : LinkHealth) : LinkHealth :=
  { h with grade := .unknown, level := none, persist := 0, silence := none, batteryLow := false, lastBattery := none }

theorem linkUnwanted_plan : (s.linkUnwanted k c).plan = (s.linkStored k c).plan := by
  rw [linkUnwanted_eq]
  exact congrArg Prod.fst (linkMarked_ledger s k c)

theorem linkUnwanted_link (j : LinkId) : (s.linkUnwanted k c).link j = (s.linkStored k c).link j := by
  rw [State.link, linkUnwanted_plan]
  rfl

theorem linkUnwanted_tbm : (s.linkUnwanted k c).tbm = s.tbm := by
  rw [linkUnwanted_eq]
  refine (linkMarked_inner s k c).tbm.trans ?_
  rw [linkStored_eq]

theorem retires_iff {l : Link} : l.retires c = true ↔ l.carrier.state ≠ .none ∧ l.cfg.inUse = true ∧ c.inUse = false := by
  simp [Link.retires, Link.stands, and_assoc]

section
variable {s k c}

/-- What the reports of a retirement leave: the health, no want, and no unsent MIX frame of the link (R10, R89, R153). -/
theorem linkReported_retired (retires : (s.link k).retires c = true) : s.linkReported k c =
    (setWant k none ((s.linkUnwanted k c).onHealth k LinkHealth.forgotten)).onRif fun r =>
      { r with voiceQ := tab fun d => if (rd s.tbm.dests d).link = some k then none else rd r.voiceQ d } := by
  have unused : c.inUse = false := ((retires_iff c).mp retires).2.2
  have stored : (s.linkUnwanted k c).link k = { s.link k with cfg := c, carrier := (s.link k).carrier.retired } := by
    rw [linkUnwanted_link, linkStored_link, if_pos rfl, if_pos retires]
  have dark : (s.linkUnwanted k c).eligible k = false := by
    rw [State.eligible, stored]
    simp [LinkCfg.eligible, unused]
  have holds : ((setWant k none ((s.linkUnwanted k c).onHealth k LinkHealth.forgotten)).link k).carrier.holds = true := by
    have carrier : ((setWant k none ((s.linkUnwanted k c).onHealth k LinkHealth.forgotten)).link k)
        = { (s.linkUnwanted k c).link k with health := ((s.linkUnwanted k c).link k).health.forgotten } :=
      link_onHealth_same _ _ _
    rw [carrier, stored]
    simp [LinkCarrier.holds, LinkCarrier.retired]
  rw [State.linkReported, if_pos retires, healthNone_ineligible dark, mixReport]
  refine (if_pos holds).trans ?_
  rw [← linkUnwanted_tbm s k c]
  rfl

theorem linkReported_kept (kept : ¬(s.link k).retires c = true) : s.linkReported k c = s.linkUnwanted k c := if_neg kept

end

theorem linkReported_link (j : LinkId) : (s.linkReported k c).link j = if k = j then
      { s.link k with
        cfg := c
        carrier := if (s.link k).retires c then (s.link k).carrier.retired else (s.link k).carrier
        health := if (s.link k).retires c then (s.link k).health.forgotten else (s.link k).health }
    else s.link j := by
  by_cases retires : (s.link k).retires c = true
  · rw [linkReported_retired retires]
    refine (link_onLink (s.linkUnwanted k c) k j fun l => { l with health := l.health.forgotten }).trans ?_
    rw [linkUnwanted_link, linkUnwanted_link, linkStored_link, linkStored_link, if_pos rfl, if_pos retires, if_pos retires]
    split
    · rfl
    · rfl
  · rw [linkReported_kept retires, linkUnwanted_link, linkStored_link, if_neg retires, if_neg retires]

theorem linkReported_want (j : LinkId) : (s.linkReported k c).want j =
    if k = j then
      if (s.link k).retires c then none
      else if (s.link k).cfg.autoRetune = true ∧ c.autoRetune = false
        ∧ (s.want k = some .health ∨ s.want k = some .rescue) then none else s.want k
    else s.want j := by
  by_cases retires : (s.link k).retires c = true
  · rw [linkReported_retired retires, if_pos retires]
    refine (rd_wr _ _ _ _).trans ?_
    split
    · rfl
    · next other =>
      refine (linkUnwanted_want s k c j).trans (if_neg fun ⟨same, _⟩ => other same)
  · rw [linkReported_kept retires, linkUnwanted_want, if_neg retires]
    by_cases same : k = j
    · simp [← same]
    · simp [same]

theorem linkReported_lmp : (s.linkReported k c).lmp = s.lmp := by
  have unwanted : (s.linkUnwanted k c).lmp = s.lmp := by rw [linkUnwanted_eq, (linkMarked_lamps s k c).1]
  by_cases retires : (s.link k).retires c = true
  · rw [linkReported_retired retires]
    exact unwanted
  · rw [linkReported_kept retires, unwanted]

theorem linkReported_voiceQ (d : DestId) : rd (s.linkReported k c).rif.voiceQ d =
    if (s.link k).retires c ∧ (rd s.tbm.dests d).link = some k then none else rd s.rif.voiceQ d := by
  have unwanted : (s.linkUnwanted k c).rif.voiceQ = s.rif.voiceQ := by rw [linkUnwanted_eq, (linkMarked_lamps s k c).2]
  by_cases retires : (s.link k).retires c = true
  · rw [linkReported_retired retires]
    refine (rd_tab _ _).trans ?_
    simp only [retires, true_and]
    exact congrArg (fun v => if (rd s.tbm.dests d).link = some k then none else rd v d) unwanted
  · rw [linkReported_kept retires, unwanted, if_neg fun ⟨goes, _⟩ => retires goes]

theorem linkReported_records : (s.linkReported k c).swp = (s.linkMarked k c).swp ∧ (s.linkReported k c).cpl = (s.linkMarked k c).cpl
    ∧ (s.linkReported k c).rte = s.rte ∧ (s.linkReported k c).plan.gen = (s.linkStored k c).plan.gen
    ∧ (s.linkReported k c).plan.bands = s.plan.bands ∧ (s.linkReported k c).plan.windows = s.plan.windows := by
  have rte : (s.linkMarked k c).rte = s.rte := by
    rw [rte_of_ledger (linkMarked_ledger s k c), linkStored_eq]
  have plan := linkUnwanted_plan s k c
  have tables := linkStored_tables s k c
  have eq := linkUnwanted_eq s k c
  have unwanted : (s.linkUnwanted k c).swp = (s.linkMarked k c).swp ∧ (s.linkUnwanted k c).cpl = (s.linkMarked k c).cpl
      ∧ (s.linkUnwanted k c).rte = s.rte ∧ (s.linkUnwanted k c).plan.gen = (s.linkStored k c).plan.gen
      ∧ (s.linkUnwanted k c).plan.bands = s.plan.bands ∧ (s.linkUnwanted k c).plan.windows = s.plan.windows :=
    ⟨by rw [eq], by rw [eq], by rw [eq, rte], by rw [plan], by rw [plan, tables.1], by rw [plan, tables.2]⟩
  by_cases retires : (s.link k).retires c = true
  · rw [linkReported_retired retires]
    exact unwanted
  · rw [linkReported_kept retires]
    exact unwanted

/-- A write that moves the carrier's span: its width changes, or it is retired (R60). -/
def Link.moves (l : Link) (c : LinkCfg) : Bool := l.stands && (l.cfg.width ≠ c.width || l.retires c)

theorem moves_iff {l : Link} : l.moves c = true ↔ (l.carrier.state ≠ .none ∧ l.cfg.inUse = true ∧ c.inUse = false)
    ∨ l.carrier.state ≠ .none ∧ l.cfg.width ≠ c.width := by
  rw [Link.moves, Bool.and_eq_true, Bool.or_eq_true, retires_iff]
  simp only [Link.stands, decide_eq_true_eq]
  exact ⟨fun ⟨stands, moved⟩ => moved.symm.imp id fun width => ⟨stands, width⟩,
    fun moved => moved.elim (fun goes => ⟨goes.1, .inr goes⟩) fun ⟨stands, width⟩ => ⟨stands, .inl width⟩⟩

theorem spanOf_eq (ch : Option Nat) : s.spanOf k ch =
    ch.toList.map fun n => carrierSpan ((s.band (s.link k).cfg.band).freq n) (s.link k).cfg.width := by
  cases ch with
  | none => rfl
  | some n => rfl

theorem linkStored_band (b : BandId) : (s.linkStored k c).band b = s.band b := by
  rw [State.band, (linkStored_tables s k c).1]
  rfl

theorem linkMarked_still (still : ¬(s.link k).moves c = true) : s.linkMarked k c = s.linkStored k c := if_neg still

section
variable {s k c}

theorem linkMarked_moves (moves : (s.link k).moves c = true) (band : (s.link k).cfg.band = c.band) : s.linkMarked k c =
    ownRecompute (s.link k).cfg.band (touching (((s.link k).carrier.channel.toList.map fun n =>
        carrierSpan ((s.band (s.link k).cfg.band).freq n) (s.link k).cfg.width)
      ++ if (s.link k).retires c then [] else (s.link k).carrier.channel.toList.map fun n =>
        carrierSpan ((s.band (s.link k).cfg.band).freq n) c.width)) (s.linkStored k c) := by
  refine (if_pos moves).trans ?_
  rw [ownRecomputeLink, spanOf_eq, spanOf_eq, linkStored_link, if_pos rfl, linkStored_band, ← band]
  simp only [apply_ite LinkCarrier.channel]
  split
  · rfl
  · rfl

/-- The rows of R60 for a taken write: the OWN marks of the carrier's band where its span moves. -/
theorem linkMarked_ownMarked (moves : (s.link k).moves c = true) (band : (s.link k).cfg.band = c.band) :
    s.ownMarked (s.linkReported k c) (s.link k).cfg.band (((s.link k).carrier.channel.toList.map fun n =>
        carrierSpan ((s.band (s.link k).cfg.band).freq n) (s.link k).cfg.width)
      ++ if (s.link k).retires c then [] else (s.link k).carrier.channel.toList.map fun n =>
        carrierSpan ((s.band (s.link k).cfg.band).freq n) c.width) := by
  obtain ⟨swp, -, rte, -, bands, -⟩ := linkReported_records s k c
  have marked := ownRecompute_ownMarked (s.linkStored k c) (s.link k).cfg.band (((s.link k).carrier.channel.toList.map fun n =>
        carrierSpan ((s.band (s.link k).cfg.band).freq n) (s.link k).cfg.width)
      ++ if (s.link k).retires c then [] else (s.link k).carrier.channel.toList.map fun n =>
        carrierSpan ((s.band (s.link k).cfg.band).freq n) c.width)
  rw [← linkMarked_moves moves band] at marked
  have stored := linkStored_eq s k c
  refine marked.congr (linkStored_band s k c _) (by rw [stored]) (fun j => by rw [swp]) ?_
  have ledger := linkMarked_ledger s k c
  rw [rte, show (s.linkMarked k c).rte = s.rte by rw [rte_of_ledger ledger, stored]]
  refine bandCarriers_congr ?_ fun j => ?_
  · rw [bands, show (s.linkMarked k c).plan = (s.linkStored k c).plan from congrArg Prod.fst ledger, (linkStored_tables s k c).1]
  · have same : (s.linkMarked k c).link j = (s.linkStored k c).link j := link_of_ledger ledger j
    have links : ((s.linkReported k c).link j).cfg = ((s.linkMarked k c).link j).cfg
        ∧ ((s.linkReported k c).link j).carrier = ((s.linkMarked k c).link j).carrier := by
      rw [same, linkReported_link, linkStored_link]
      split
      · exact ⟨rfl, rfl⟩
      · exact ⟨rfl, rfl⟩
    exact links

theorem linkReported_elsewhere (band : (s.link k).moves c = true → (s.link k).cfg.band = c.band) {b : BandId}
    (still : ¬(s.link k).moves c = true ∨ b ≠ (s.link k).cfg.band) (j : Fin 256) :
    (rd (rd (s.linkReported k c).swp.cells b) j).state = .own ↔ (rd (rd s.swp.cells b) j).state = .own := by
  have stored : (s.linkStored k c).swp = s.swp := by rw [linkStored_eq]
  rw [(linkReported_records s k c).1]
  by_cases moves : (s.link k).moves c = true
  · rw [linkMarked_moves moves (band moves), ownRecompute_elsewhere (still.resolve_left (not_not_intro moves)), stored]
  · rw [linkMarked_still s k c moves, stored]

theorem linkReported_spares (band : (s.link k).moves c = true → (s.link k).cfg.band = c.band) (b : BandId) :
    rd (s.linkReported k c).cpl.spares b = (rd s.cpl.spares b).filter fun x =>
      ¬∃ j : Fin 256, j.val = (s.band b).cellOf x.channel
        ∧ (rd (rd (s.linkReported k c).swp.cells b) j).state = .own ∧ (rd (rd s.swp.cells b) j).state ≠ .own := by
  have storedSwp : (s.linkStored k c).swp = s.swp := by rw [linkStored_eq]
  have storedCpl : (s.linkStored k c).cpl = s.cpl := by rw [linkStored_eq]
  obtain ⟨swp, cpl, -⟩ := linkReported_records s k c
  rw [swp, cpl]
  by_cases moves : (s.link k).moves c = true
  · rw [linkMarked_moves moves (band moves), ownRecompute_spares_filter]
    simp only [linkStored_band, storedSwp, storedCpl]
  · rw [linkMarked_still s k c moves, storedSwp, storedCpl]
    refine (List.filter_eq_self.mpr fun x _ => ?_).symm
    simp

/-- With no span moved, the sweep, the planner and the Ring Interface stand (R10, R60). -/
theorem linkReported_still (still : ¬(s.link k).moves c = true) :
    (s.linkReported k c).swp = s.swp ∧ (s.linkReported k c).cpl = s.cpl ∧ (s.linkReported k c).rif = s.rif := by
  have kept : ¬(s.link k).retires c = true := fun goes => still (by
    have := (retires_iff c).mp goes
    simp [Link.moves, Link.stands, goes, this.1])
  obtain ⟨swp, cpl, -⟩ := linkReported_records s k c
  rw [swp, cpl, linkReported_kept kept, linkUnwanted_eq, linkMarked_still s k c still, linkStored_eq]
  exact ⟨rfl, rfl, rfl⟩

end

end

/-! ## The lamp of a written link (R138) -/

theorem lampLinkWrite_other {k j : LinkId} (other : j ≠ k) (old new : LinkCfg) (s : State) :
    rd (lampLinkWrite k old new s).lmp.pending j = rd s.lmp.pending j
      ∧ rd (lampLinkWrite k old new s).lmp.debts j = rd s.lmp.debts j := by
  unfold lampLinkWrite
  simp only [onLmp_lmp]
  split
  · split
    · split
      · exact ⟨rd_wr_ne _ _ _ _ other.symm, rfl⟩
      · exact ⟨rd_wr_ne _ _ _ _ other.symm, rd_wr_ne _ _ _ _ other.symm⟩
    · exact ⟨rd_wr_ne _ _ _ _ other.symm, rd_wr_ne _ _ _ _ other.symm⟩
  · split
    · refine ⟨rd_wr_ne _ _ _ _ other.symm, ?_⟩
      simp only
      split
      · exact rd_wr_ne _ _ _ _ other.symm
      · rfl
    · exact ⟨rfl, rfl⟩

section
variable {k : LinkId} {old new : LinkCfg} (s : State)

theorem lampLinkWrite_dark (was : old.eligible = true) (goes : new.eligible = false) :
    rd (lampLinkWrite k old new s).lmp.pending k = false
      ∧ rd (lampLinkWrite k old new s).lmp.debts k = some old.lampNode := by
  simp [lampLinkWrite, was, goes]

theorem lampLinkWrite_renamed (was : old.eligible = true) (still : new.eligible = true) (node : old.lampNode ≠ new.lampNode) :
    rd (lampLinkWrite k old new s).lmp.pending k = true
      ∧ rd (lampLinkWrite k old new s).lmp.debts k = some old.lampNode := by
  simp [lampLinkWrite, was, still, node]

theorem lampLinkWrite_same (was : old.eligible = true) (still : new.eligible = true) (node : old.lampNode = new.lampNode) :
    rd (lampLinkWrite k old new s).lmp.pending k = true
      ∧ rd (lampLinkWrite k old new s).lmp.debts k = rd s.lmp.debts k := by
  simp [lampLinkWrite, was, still, node]

theorem lampLinkWrite_lit (was : old.eligible = false) (comes : new.eligible = true) :
    rd (lampLinkWrite k old new s).lmp.pending k = true
      ∧ rd (lampLinkWrite k old new s).lmp.debts k
        = if rd s.lmp.debts k = some new.lampNode then none else rd s.lmp.debts k := by
  by_cases owed : rd s.lmp.debts k = some new.lampNode
  · simp [lampLinkWrite, was, comes, owed]
  · simp [lampLinkWrite, was, comes, owed]

theorem lampLinkWrite_unlit (was : old.eligible = false) (still : new.eligible = false) :
    rd (lampLinkWrite k old new s).lmp.pending k = rd s.lmp.pending k
      ∧ rd (lampLinkWrite k old new s).lmp.debts k = rd s.lmp.debts k := by
  simp [lampLinkWrite, was, still]

end

/-- Settles O24. -/
theorem linkWrite : Obligations.LinkWrite := by
  intro h i r s taken
  refine ⟨fun length => congrArg _ (receiveWrite_length taken length), fun length above => ?_,
    fun k length named unlocked => ⟨fun busy => ?_, fun idle => ⟨fun unread => ?_, fun c read valid isValid => ?_⟩⟩⟩
  · exact congrArg _ (receiveWrite_refused taken length (by rw [writeLink, finField_none above]))
  · exact congrArg _ (receiveWrite_refused taken length (writeLink_busy (s := s.handed) named unlocked busy))
  · exact congrArg _ (receiveWrite_refused taken length (writeLink_unread (s := s.handed) named unlocked idle unread))
  obtain rfl : valid = c.sound s.handed.rif.node := isValid
  refine ⟨fun unsound => ?_, fun sound old isOld => ?_⟩
  · exact congrArg _ (receiveWrite_refused taken length (writeLink_range (s := s.handed) named unlocked idle read unsound))
  subst isOld
  refine ⟨fun stands other => ?_, fun stays barred isBarred => ?_⟩
  · exact congrArg _ (receiveWrite_refused taken length
      (writeLink_inUse (s := s.handed) named unlocked idle read sound stands other))
  have fits := writeLink_fits (s := s.handed) named unlocked idle read sound stays
  have bars : ((s.handed.link k).stands && (s.handed.link k).cfg.width ≠ c.width && s.handed.widthBarred k c.width) = true
      ↔ barred := by
    rw [isBarred, Bool.and_eq_true, Bool.and_eq_true, widthBarred_iff, and_assoc]
    simp only [Link.stands, decide_eq_true_eq]
    exact Iff.rfl
  refine ⟨fun inWindow => ?_, fun free => ?_⟩
  · exact congrArg _ (receiveWrite_refused taken length (fits.trans (if_pos (bars.mpr inWindow))))
  have band (moves : (s.handed.link k).moves c = true) : (s.handed.link k).cfg.band = c.band :=
    stays.resolve_left (of_decide_eq_true (Bool.and_eq_true_iff.mp moves).1)
  obtain ⟨v, work, left⟩ := takeLink_from k c s.handed
  obtain ⟨-, -, rte, gen, bands, windows⟩ := linkReported_records s.handed k c
  have here := (linkReported_link s.handed k c k).trans (if_pos rfl)
  have want := (linkReported_want s.handed k c k).trans (if_pos rfl)
  have retires : ((s.link k).carrier.state ≠ .none ∧ (s.link k).cfg.inUse = true ∧ c.inUse = false)
      ↔ (s.handed.link k).retires c = true := (retires_iff c).symm
  have moves : (((s.link k).carrier.state ≠ .none ∧ (s.link k).cfg.inUse = true ∧ c.inUse = false)
      ∨ (s.link k).carrier.state ≠ .none ∧ (s.link k).cfg.width ≠ c.width) ↔ (s.handed.link k).moves c = true := by
    rw [moves_iff]
    exact Iff.rfl
  refine ⟨takeLink k c s.handed, ?_, ?_⟩
  · exact congrArg _ (receiveWrite_taken taken length (fits.trans (if_neg fun bad => free (bars.mp bad)))
      (by rw [left]; exact (congrArg Rif.entry work.rif :)))
  have lamp : takeLink k c s.handed = lampLinkWrite k (s.link k).cfg c (s.handed.linkReported k c) := rfl
  have lamps : (s.handed.linkReported k c).lmp = s.lmp := linkReported_lmp s.handed k c
  refine ⟨(congrArg Link.cfg here :), (congrArg Link.tally here :),
    fun j other => (linkReported_link s.handed k c j).trans (if_neg other.symm), bands, windows,
    gen.trans (linkStored_gen s.handed k c), fun goes => ⟨(congrArg Link.carrier here :).trans ?_,
      (congrArg Link.health here :).trans (if_pos (retires.mp goes)), want.trans (if_pos (retires.mp goes))⟩,
    fun kept => ?_, fun j other => (linkReported_want s.handed k c j).trans (if_neg other.symm), fun j other => ?_,
    lampLinkWrite_dark _, lampLinkWrite_renamed _, fun was still node => ?_, fun was comes => ?_, fun was still => ?_,
    fun retired moved isRetired isMoved => ?_, rte, ?_⟩
  · rw [if_pos (retires.mp goes), LinkCarrier.retired, show (s.handed.link k).carrier.phase = .idle from idle]
  · have stays : ¬(s.handed.link k).retires c = true := fun goes => by
      obtain ⟨stands, used, unused⟩ := retires.mpr goes
      rcases kept with none | idle | use
      · exact stands none
      · rw [idle] at used
        cases used
      · rw [use] at unused
        cases unused
    exact ⟨(congrArg Link.carrier here :).trans (if_neg stays), (congrArg Link.health here :).trans (if_neg stays),
      want.trans (if_neg stays)⟩
  · rw [lamp, ← lamps]
    exact lampLinkWrite_other other _ _ _
  · rw [lamp, ← lamps]
    exact lampLinkWrite_same _ was still node
  · rw [lamp, ← lamps]
    exact lampLinkWrite_lit _ was comes
  · rw [lamp, ← lamps]
    exact lampLinkWrite_unlit _ was still
  · have goesOn : moved ↔ (s.handed.link k).moves c = true := by
      rw [isMoved, isRetired]
      exact moves
    have goesOff : retired ↔ (s.handed.link k).retires c = true := by
      rw [isRetired]
      exact retires
    refine ⟨fun go e now isBand gone stays => ?_, fun b j still => ?_, linkReported_spares band, fun still => ?_,
      fun d => ⟨fun goes link => ?_, fun kept => ?_⟩⟩
    · have spans : now = if (s.handed.link k).retires c then [] else
          (s.link k).carrier.channel.toList.map fun n => carrierSpan (e.freq n) c.width := by
        by_cases goes : (s.handed.link k).retires c = true
        · rw [if_pos goes, gone (goesOff.mpr goes)]
        · rw [if_neg goes, stays fun off => goes (goesOff.mp off)]
      rw [spans, isBand]
      exact linkMarked_ownMarked (s := s.handed) (goesOn.mp go) (band (goesOn.mp go))
    · exact linkReported_elsewhere (s := s.handed) band (still.imp (fun no go => no (goesOn.mpr go)) id) j
    · exact linkReported_still fun go => still (goesOn.mpr go)
    · exact (linkReported_voiceQ s.handed k c d).trans (if_pos ⟨goesOff.mp goes, link⟩)
    · refine (linkReported_voiceQ s.handed k c d).trans (if_neg fun ⟨goes, link⟩ => ?_)
      rcases kept with stays | other
      · exact stays (goesOff.mpr goes)
      · exact other link
  · rw [left]
    exact ⟨work.tly, work.tbm, (congrArg Mgr.settings work.mgr :), (congrArg Mgr.locked work.mgr :),
      (congrArg Mgr.key work.mgr :), work.pins, work.ringOut⟩

end Sys2Proof.Machine
end

section
/-! Proofs of the grading of reports (R81, R82, R84, R87), of the voice blocks (R147, R149), and of the TALLY frames and slot timers
(R121 to R128). -/

namespace Sys2Proof.Machine

/-! ## Grading (R81, R82) -/

section
variable {f l : Int}

theorem filterLevel_rises (below : 0 ≤ 4 * l - f) : filterLevel (some f) l = f + (4 * l - f) / 4 := by
  rw [filterLevel, Int.tdiv_eq_ediv_of_nonneg below]

theorem filterLevel_falls (above : 4 * l - f ≤ 0) : filterLevel (some f) l = f - (f - 4 * l) / 4 := by
  rw [filterLevel, show 4 * l - f = -(f - 4 * l) by omega, Int.neg_tdiv, Int.tdiv_eq_ediv_of_nonneg (by omega)]
  omega

theorem filterLevel_rests (near : (4 * l - f).natAbs ≤ 3) : filterLevel (some f) l = f := by
  rcases Int.le_total 0 (4 * l - f) with below | above
  · rw [filterLevel_rises below]
    omega
  · rw [filterLevel_falls above]
    omega

theorem filterLevel_nears (far : 3 < (4 * l - f).natAbs) : (4 * l - filterLevel (some f) l).natAbs < (4 * l - f).natAbs := by
  rcases Int.le_total 0 (4 * l - f) with below | above
  · rw [filterLevel_rises below]
    omega
  · rw [filterLevel_falls above]
    omega

/-- Under a steady level the filtered level comes to rest near 4L: the distance falls until it is at most 3. -/
theorem filterLevel_settles (l : Int) (d : Nat) : ∀ f : Int, (4 * l - f).natAbs ≤ d → ∃ (n : Nat) (g : Int), (4 * l - g).natAbs ≤ 3
    ∧ ∀ m, n ≤ m → Nat.iterate (fun x => some (filterLevel x l)) m (some f) = some g := by
  induction d with
  | zero =>
    intro f near
    have rests : filterLevel (some f) l = f := filterLevel_rests (by omega)
    exact ⟨0, f, by omega, fun m _ => Function.iterate_fixed (congrArg some rests) m⟩
  | succ d ih =>
    intro f near
    by_cases far : 3 < (4 * l - f).natAbs
    · have nears := filterLevel_nears far
      obtain ⟨n, g, close, settled⟩ := ih (filterLevel (some f) l) (by omega)
      refine ⟨n + 1, g, close, fun m late => ?_⟩
      obtain ⟨m, rfl⟩ : ∃ k, m = k + 1 := ⟨m - 1, by omega⟩
      exact settled m (by omega)
    · have rests : filterLevel (some f) l = f := filterLevel_rests (by omega)
      exact ⟨0, f, by omega, fun m _ => Function.iterate_fixed (congrArg some rests) m⟩

end

theorem classify_eq (c : LinkCfg) (before : Health) (f : Int) (q : Nat) : classify c before f q =
    if q < c.poorQuality ∨ f - 4 * c.minLevel < 0 then .poor
    else if before = .poor ∧ (f - 4 * c.minLevel < 8 ∨ q < c.poorQuality + 10) then .poor
    else if 4 * (c.goodMargin : Int) ≤ f - 4 * c.minLevel ∧ c.goodQuality ≤ q then .good
    else .marginal := rfl

/-- Settles O53. -/
theorem healthGrading : Obligations.HealthGrading := by
  refine ⟨fun c before f m q isMargin row1 row2 row3 is1 is2 is3 => ?_, fun n g => ⟨if_pos rfl, fun better => if_neg better⟩,
    fun low w b => ⟨fun below => if_pos below, fun above => (if_neg (by omega)).trans (if_pos above),
      fun least below => (if_neg (by omega)).trans (if_neg (by omega))⟩,
    fun l => rfl, fun f l d isDistance => ⟨fun below => ?_, fun above => ?_⟩, fun f l => filterLevel_settles l _ f le_rfl⟩
  · subst isMargin
    rw [classify_eq, is1, is2, is3]
    split
    · next first =>
      exact ⟨⟨fun _ => .inl first, fun _ => rfl⟩, ⟨nofun, fun ⟨fails, _⟩ => absurd first fails⟩,
        ⟨nofun, fun ⟨fails, _⟩ => absurd first fails⟩⟩
    · next first =>
      split
      · next second =>
        exact ⟨⟨fun _ => .inr second, fun _ => rfl⟩, ⟨nofun, fun ⟨_, fails, _⟩ => absurd second fails⟩,
          ⟨nofun, fun ⟨_, fails, _⟩ => absurd second fails⟩⟩
      · next second =>
        split
        · next third =>
          exact ⟨⟨nofun, fun poor => (poor.elim first second).elim⟩, ⟨fun _ => ⟨first, second, third⟩, fun _ => rfl⟩,
            ⟨nofun, fun ⟨_, _, fails⟩ => absurd third fails⟩⟩
        · next third =>
          exact ⟨⟨nofun, fun poor => (poor.elim first second).elim⟩, ⟨nofun, fun ⟨_, _, good⟩ => absurd good third⟩,
            ⟨fun _ => ⟨first, second, third⟩, fun _ => rfl⟩⟩
  · rw [filterLevel_rises (by omega)]
    omega
  · rw [filterLevel_falls (by omega)]
    omega

/-! ## Voice blocks (R147, R149) -/

theorem exec_voice (h : FrameHead) (p : List Byte) (s : State) :
    exec (.voice h p) s = .next (receiveFrame Kind.voice h p (takeVoice h.src p) s) := rfl

section
variable {t : Tbm} {node : Node} {key : Byte}

theorem sourceOf_none (unmatched : ∀ i, ¬((rd t.sources i).enabled = true ∧ (rd t.sources i).node = node
    ∧ (rd t.sources i).key = key.toNat)) : t.sourceOf node key = none := by
  refine List.find?_eq_none.mpr fun i _ => ?_
  simpa [and_assoc] using unmatched i

theorem sourceOf_some {i : TalkId} (matched : (rd t.sources i).enabled = true ∧ (rd t.sources i).node = node
      ∧ (rd t.sources i).key = key.toNat)
    (only : ∀ j, (rd t.sources j).enabled = true ∧ (rd t.sources j).node = node ∧ (rd t.sources j).key = key.toNat → j = i) :
    t.sourceOf node key = some i := by
  cases found : t.sourceOf node key with
  | none =>
    have missed := List.find?_eq_none.mp found i (List.mem_finRange i)
    simp [matched] at missed
  | some j =>
    have holds := List.find?_some found
    simp only [Bool.and_eq_true, decide_eq_true_eq] at holds
    rw [only j ⟨holds.1.1, holds.1.2, holds.2⟩]

end

section
variable {src : Node} {p : List Byte} {s : State}

theorem takeVoice_length (length : p.length ≠ 98) : takeVoice src p s = s := if_neg length

theorem takeVoice_unmatched (unmatched : s.tbm.sourceOf src (at0 p 0) = none) : takeVoice src p s = s := by
  unfold takeVoice
  rw [unmatched]
  exact ite_self s

theorem takeVoice_source {i : TalkId} (length : p.length = 98) (matched : s.tbm.sourceOf src (at0 p 0) = some i) :
    takeVoice src p s = if (rd s.tbm.buffers i).arrived.isSome then s
      else s.onTbm fun t =>
        { t with buffers := wr t.buffers i { rd t.buffers i with arrived := some (readBlock p) } } := by
  rw [takeVoice, if_pos length, matched]

end

/-- Settles O50. -/
theorem voiceBlocks : Obligations.VoiceBlocks := by
  refine ⟨fun h p s consumed matched isMatched => ?_, fun b => ⟨fun a arrived => ?_, fun missed first => ?_, fun missed again => ?_⟩⟩
  · have taken : exec (.voice h p) s = .next (takeVoice h.src p s.handed) := by
      rw [exec_voice, receiveFrame_consumed (by simp) consumed]
    rw [taken]
    refine ⟨fun length => congrArg _ (takeVoice_length length), fun unmatched => ?_, fun i length named only => ?_⟩
    · refine congrArg _ (takeVoice_unmatched (sourceOf_none fun i holds => unmatched i ((isMatched i).mpr holds)))
    · have source : s.handed.tbm.sourceOf h.src (at0 p 0) = some i :=
        sourceOf_some ((isMatched i).mp named) fun j holds => only j ((isMatched j).mpr holds)
      rw [takeVoice_source length source]
      refine ⟨fun arrived => congrArg _ (if_pos (Option.isSome_iff_ne_none.mpr arrived)), fun empty =>
        ⟨readBlock p, rfl, fun q => rd_tab _ _, congrArg _ (if_neg ?_)⟩⟩
      rw [show (rd s.handed.tbm.buffers i).arrived = none from empty]
      exact Bool.false_ne_true
  · rw [Buffer.settle, arrived]
  · rw [Buffer.settle, missed]
    exact (if_pos first).trans (by rw [← missed])
  · rw [Buffer.settle, missed]
    exact if_neg again

/-! ## TALLY frames (R121 to R123) -/

/-- A bus of a contribution is stated by one of the entries of its source (R122). -/
theorem contribution_bus {bus : Buses → Bool} (union : ∀ a b : Buses, bus (a.union b) = (bus a || bus b))
    (none : bus .empty = false) (entries : List (Fin 256 × Buses)) (x : Fin 256) :
    bus (rd (contribution entries) x) = true ↔ ∃ e ∈ entries, e.1 = x ∧ bus e.2 = true := by
  have from_ (acc : Vector Buses 256) : bus (rd (entries.foldl (fun acc e => wr acc e.1 ((rd acc e.1).union e.2)) acc) x) = true
      ↔ bus (rd acc x) = true ∨ ∃ e ∈ entries, e.1 = x ∧ bus e.2 = true := by
    induction entries generalizing acc with
    | nil => simp
    | cons e rest ih =>
      rw [List.foldl_cons, ih, rd_wr]
      by_cases here : e.1 = x
      · simp [here, union, or_assoc]
      · simp [here]
  rw [contribution, from_]
  simp [emptyContribution, none]

theorem readTally_none {p : List Byte} (bad : ∀ n rest, p = n :: rest → 119 < n.toNat ∨ rest.length ≠ 2 * n.toNat) :
    readTally p = none := by
  cases p with
  | nil => rfl
  | cons n rest =>
    refine if_neg ?_
    rcases bad n rest rfl with many | length
    · simp [many]
    · simp [length]

/-- The entries of a well-formed payload (R121, R122). -/
def tallyEntries (n : Byte) (rest : List Byte) : List (Fin 256 × Buses) :=
  (List.range n.toNat).map fun i => ((at0 rest (2 * i)).toFin, readBuses (at0 rest (2 * i + 1)))

theorem readTally_some {n : Byte} {rest : List Byte} (few : n.toNat ≤ 119) (length : rest.length = 2 * n.toNat) :
    readTally (n :: rest) = some (tallyEntries n rest) := if_pos (by simp [few, length])

theorem tallyEntries_bus {bus : Buses → Bool} {bit : Nat} (read : ∀ b, bus (readBuses b) = b.getLsbD bit)
    (union : ∀ a b : Buses, bus (a.union b) = (bus a || bus b)) (none : bus .empty = false) (n : Byte) (rest : List Byte)
    (x : Fin 256) : bus (rd (contribution (tallyEntries n rest)) x) = true
      ↔ ∃ m < n.toNat, (at0 rest (2 * m)).toNat = x.val ∧ (at0 rest (2 * m + 1)).getLsbD bit = true := by
  rw [contribution_bus union none]
  simp only [tallyEntries, List.mem_map, List.mem_range]
  constructor
  · rintro ⟨_, ⟨m, inside, rfl⟩, source, states⟩
    exact ⟨m, inside, congrArg Fin.val source, (read _).symm.trans states⟩
  · rintro ⟨m, inside, source, states⟩
    exact ⟨_, ⟨m, inside, rfl⟩, Fin.ext source, (read _).trans states⟩

section
variable {t : Tly} {src : Node}

theorem slotOf_none (unmatched : ∀ i, (rd t.slots i).cfg.enabled = true → (rd t.slots i).cfg.node ≠ src) : t.slotOf src = none := by
  refine List.find?_eq_none.mpr fun i _ => ?_
  simpa using unmatched i

theorem slotOf_some {i : SlotId} (enabled : (rd t.slots i).cfg.enabled = true) (node : (rd t.slots i).cfg.node = src)
    (only : ∀ j, j ≠ i → (rd t.slots j).cfg.enabled = true → (rd t.slots j).cfg.node ≠ src) : t.slotOf src = some i := by
  cases found : t.slotOf src with
  | none =>
    have missed := List.find?_eq_none.mp found i (List.mem_finRange i)
    simp [enabled, node] at missed
  | some j =>
    have holds := List.find?_some found
    simp only [Bool.and_eq_true, decide_eq_true_eq] at holds
    by_contra other
    exact only j (fun same => other (congrArg some same)) holds.1 holds.2

end

section
variable {src : Node} {p : List Byte} {s : State}

theorem takeTally_unslotted (unmatched : s.tly.slotOf src = none) : takeTally src p s = s := by
  rw [takeTally, unmatched]

theorem takeTally_malformed (bad : readTally p = none) : takeTally src p s = s := by
  unfold takeTally
  rw [bad]
  split
  · next read => cases read
  · rfl

theorem takeTally_taken {i : SlotId} {entries : List (Fin 256 × Buses)} (slot : s.tly.slotOf src = some i)
    (read : readTally p = some entries) : takeTally src p s =
      remerge (switcherNote i src (s.slot i).state .online (onSlot i (fun t =>
        { t with contrib := contribution entries, state := .online,
                 silence := some s.mgr.settings.switcherSilence, hold := none }) s)) := by
  rw [takeTally, slot, read]

end

theorem exec_tally (h : FrameHead) (p : List Byte) (s : State) :
    exec (.tally h p) s = .next (receiveFrame Kind.tally h p (takeTally h.src p) s) := rfl

/-- The TLY hears the frame, observed in NORMAL mode or forwarded in BYPASS and with the mark set (R166, R172). -/
theorem exec_tally_heard {h : FrameHead} {p : List Byte} {s : State}
    (heard : s.observes Kind.tally h p = true ∨ s.hearsTally h p = true) :
    exec (.tally h p) s = .next (takeTally h.src p (s.setOut (.forwarded (wire Kind.tally h.dst h.src p h.check)))) := by
  rw [exec_tally]
  rcases heard with observed | heard
  · rw [receiveFrame_observed (.inl rfl) observed]
  · simp only [State.hearsTally, State.onRing, Bool.and_eq_true, Bool.or_eq_true, Bool.not_eq_true', decide_eq_true_eq,
      Option.isSome_iff_ne_none] at heard
    obtain ⟨⟨⟨live, ring⟩, away⟩, passes⟩ := heard
    rw [receiveFrame_passes live passes, handling_bypass away ring, bypassHandling_tally rfl]
    rfl

theorem switcherNote_eq (i : SlotId) (node : Node) (before after : SlotState) (s : State) : switcherNote i node before after s =
    if before = after then s else note .switcher [byte i.val, node, before.code, after.code] s := by
  rw [switcherNote, ite_not]

/-! ## Silence, hold (R124, R125) -/

section
variable {i : SlotId} {s : State}

theorem slotSilence_stopped (stopped : (s.slot i).silence = none) : slotSilence i s = s := by
  rw [slotSilence, stopped]

theorem slotSilence_expires (running : (s.slot i).silence ≠ none) : slotSilence i s =
    if s.mgr.settings.switcherHold = 0 then
      remerge (switcherNote i (s.slot i).cfg.node (s.slot i).state .offline (onSlot i Slot.offline s))
    else
      switcherNote i (s.slot i).cfg.node (s.slot i).state .holding
        (onSlot i (fun t => { t with state := .holding, silence := none, hold := some s.mgr.settings.switcherHold }) s) := by
  obtain ⟨n, timer⟩ := Option.ne_none_iff_exists'.mp running
  rw [slotSilence, timer]

theorem slotHold_stopped (stopped : (s.slot i).hold = none) : slotHold i s = s := by
  rw [slotHold, stopped]

theorem slotHold_expires (running : (s.slot i).hold ≠ none) : slotHold i s =
    remerge (switcherNote i (s.slot i).cfg.node (s.slot i).state .offline (onSlot i Slot.offline s)) := by
  obtain ⟨n, timer⟩ := Option.ne_none_iff_exists'.mp running
  rw [slotHold, timer]

end

/-! ## A recomputation (R128) -/

theorem remerge_eq {s m : State} {new : LinkId → Buses} (merged : ∀ k, new k = rd (mergedTallies s.tly.slots) k)
    (isMerged : m = { s with
      plan := { s.plan with links := tab fun k => { s.link k with tally := new k } }
      lmp := { s.lmp with pending := tab fun k => rd s.lmp.pending k || (new k ≠ (s.link k).tally && s.eligible k) } }) :
    remerge s = rteTally (fun k => new k ≠ (s.link k).tally) (fun k => (s.link k).tally.program && !(new k).program) m := by
  obtain rfl : new = rd (mergedTallies s.tly.slots) := funext merged
  rw [isMerged, remerge]
  refine congrArg (rteTally _ _) ?_
  refine congrArg (fun l : Vector Bool 64 => ({ s with
    plan := { s.plan with links := tab fun k => { s.link k with tally := rd (mergedTallies s.tly.slots) k } }
    lmp := { s.lmp with pending := l } } : State)) ?_
  refine tab_ext fun k => ?_
  rw [rd_tab]
  simp [State.eligible, State.link]

/-- Settles O48. -/
theorem tallyFramesAndSlotTimers : Obligations.TallyFramesAndSlotTimers := by
  refine ⟨fun h p s heard out isOut => ?_, fun i s live dropped isDropped => ?_, fun s m new merged isMerged acts isActs => ?_⟩
  · rw [exec_tally_heard heard, ← isOut]
    refine ⟨fun unmatched => congrArg _ (takeTally_unslotted (slotOf_none unmatched)),
      fun bad => congrArg _ (takeTally_malformed (readTally_none bad)), fun i n rest enabled node only isPayload few length => ?_⟩
    refine ⟨contribution (tallyEntries n rest), _, fun x => ⟨?_, ?_, ?_⟩, rfl, ?_⟩
    · exact tallyEntries_bus (bus := Buses.program) (fun _ => rfl) (fun _ _ => rfl) rfl n rest x
    · exact tallyEntries_bus (bus := Buses.preview) (fun _ => rfl) (fun _ _ => rfl) rfl n rest x
    · exact tallyEntries_bus (bus := Buses.iso) (fun _ => rfl) (fun _ _ => rfl) rfl n rest x
    · subst isPayload
      rw [takeTally_taken (s := s.setOut out) (slotOf_some enabled node only) (readTally_some few length), switcherNote_eq]
      rfl
  · have event (f : State → State) : event f s = f s.quieted := event_live live f
    refine ⟨fun stopped => ?_, fun running online => ⟨fun none => ?_, fun some => ?_⟩, fun stopped => ?_, fun running holding => ?_⟩
    · exact congrArg _ ((event _).trans (slotSilence_stopped stopped))
    · refine congrArg _ ((event _).trans ((slotSilence_expires (s := s.quieted) running).trans ((if_pos none).trans ?_)))
      rw [switcherNote_eq, show (s.quieted.slot i).state = .online from online, isDropped]
      rfl
    · refine congrArg _ ((event _).trans ((slotSilence_expires (s := s.quieted) running).trans ((if_neg some).trans ?_)))
      rw [switcherNote_eq, show (s.quieted.slot i).state = .online from online]
      rfl
    · exact congrArg _ ((event _).trans (slotHold_stopped stopped))
    · refine congrArg _ ((event _).trans ((slotHold_expires (s := s.quieted) running).trans ?_))
      rw [switcherNote_eq, show (s.quieted.slot i).state = .holding from holding, isDropped]
      rfl
  · rw [remerge_eq merged isMerged]
    have staged : m.rte = s.rte := by rw [isMerged]
    have concerned : ((m.rte.staged.any fun o => decide (new o.link ≠ (s.link o.link).tally))
        || (m.rte.staged.isNone && m.rte.deferred.any fun o => (s.link o.link).tally.program && !(new o.link).program)) = true
        ↔ acts := by
      rw [isActs, staged]
      simp [Option.any_eq_true]
    exact ⟨fun holds => if_pos (concerned.mpr holds), fun fails => if_neg fun holds => fails (concerned.mp holds)⟩

end Sys2Proof.Machine
end

section
/-! Proofs of the tuning exchange: the frames of a batch, a launch (R60, R105) and the answers that only mark a node (R107). -/

namespace Sys2Proof.Machine

/-! ## Frames of a batch (R105, R169) -/

theorem mem_of_claims {q : Queued} {l l' : List Queued} (mem : q ∈ claims l) (kept : claims l <+: claims l') : q ∈ l' :=
  List.mem_of_mem_filter (kept.subset mem)

/-- The frames of a batch, from `s` on, were offered in order: each stands in the Control Queue or waits in the output hold, and
nothing else changed but the tune timer. -/
structure Offered (l : List HeldTune) (s t : State) : Prop where
  state : t = { s with
    rif := { s.rif with ctlQ := t.rif.ctlQ, notesLost := t.rif.notesLost }
    rte := { s.rte with hold := t.rte.hold, tuneTimer := t.rte.tuneTimer } }
  queue : claims s.rif.ctlQ <+: claims t.rif.ctlQ
  hold  : ∃ later, t.rte.hold = s.rte.hold ++ later ∧ later ⊆ l
    ∧ ∀ h ∈ l, { cls := .tune, frame := h.frame } ∈ claims t.rif.ctlQ ∨ h ∈ later

theorem admitted_rif {r r' : Rif} {q : Queued} (admitted : r.admitted q = some r') :
    r' = { r with ctlQ := r'.ctlQ, notesLost := r'.notesLost } := by
  rcases Rif.admitted_spec admitted with ⟨-, rfl⟩ | ⟨-, -, rfl⟩
  · rfl
  · rfl

theorem tuneAccepted_eq (s : State) : tuneAccepted s =
    { s with rte := { s.rte with tuneTimer := (tuneAccepted s).rte.tuneTimer } } := by
  unfold tuneAccepted
  split
  · rfl
  · rfl

theorem offerTunes_cons_admitted {h : HeldTune} {rest : List HeldTune} {s : State} {r : Rif}
    (admitted : s.rif.admitted { cls := .tune, frame := h.frame } = some r) : offerTunes (h :: rest) s =
      offerTunes rest (if rest.isEmpty && h.awaited then tuneAccepted (s.onRif fun _ => r) else s.onRif fun _ => r) := by
  rw [offerTunes, admitted]

theorem offerTunes_cons_held {h : HeldTune} {rest : List HeldTune} {s : State}
    (refused : s.rif.admitted { cls := .tune, frame := h.frame } = none) : offerTunes (h :: rest) s =
      offerTunes rest (s.onRte fun r => { r with hold := r.hold ++ [h] }) := by
  rw [offerTunes, refused]

theorem offerTunes_offered (l : List HeldTune) : ∀ s : State, Offered l s (offerTunes l s) := by
  induction l with
  | nil => exact fun s => ⟨rfl, List.prefix_refl _, [], (List.append_nil _).symm, List.Subset.refl _, nofun⟩
  | cons h rest ih =>
    intro s
    cases admitted : s.rif.admitted { cls := .tune, frame := h.frame } with
    | some r =>
      rw [offerTunes_cons_admitted admitted]
      have queued := claims_admitted admitted rfl
      generalize isNext : (if rest.isEmpty && h.awaited then tuneAccepted (s.onRif fun _ => r) else s.onRif fun _ => r) = u
      have next : u = { s with rif := r, rte := { s.rte with tuneTimer := u.rte.tuneTimer } } := by
        rw [← isNext]
        split
        · exact tuneAccepted_eq _
        · rfl
      obtain ⟨state, queue, later, hold, some, all⟩ := ih u
      have rif : u.rif = r := by rw [next]
      rw [rif, queued] at queue
      refine ⟨state.trans ?_, (List.prefix_append _ _).trans queue, later, ?_, List.subset_cons_of_subset _ some, ?_⟩
      · rw [next, admitted_rif admitted]
      · rw [hold, next]
      · intro x mem
        rcases List.mem_cons.mp mem with rfl | mem
        · exact .inl (queue.subset (List.mem_append_right _ (List.mem_singleton_self _)))
        · exact all x mem
    | none =>
      rw [offerTunes_cons_held admitted]
      obtain ⟨state, queue, later, hold, some, all⟩ := ih (s.onRte fun r => { r with hold := r.hold ++ [h] })
      refine ⟨state.trans rfl, queue, h :: later, ?_, List.cons_subset_cons _ some, ?_⟩
      · rw [hold]
        exact List.append_assoc _ _ _
      · intro x mem
        rcases List.mem_cons.mp mem with rfl | mem
        · exact .inr List.mem_cons_self
        · exact (all x mem).imp id (List.mem_cons_of_mem _)

/-- The tune timer starts when the last awaited frame of the batch was taken and none is held (R106). -/
theorem offerTunes_timer {w : Bool} (l : List HeldTune) : ∀ s : State, (∀ h ∈ l, h.awaited = w) →
    (offerTunes l s).rte.tuneTimer =
      if w = true ∧ l ≠ [] ∧ s.rte.active.isSome ∧ (offerTunes l s).rte.hold.all (fun h => !h.awaited) then
        some s.mgr.settings.tuneTimeout else s.rte.tuneTimer := by
  induction l with
  | nil => exact fun s _ => (if_neg fun h => h.2.1 rfl).symm
  | cons h rest ih =>
    intro s batch
    have first : h.awaited = w := batch h List.mem_cons_self
    have others : ∀ x ∈ rest, x.awaited = w := fun x mem => batch x (List.mem_cons_of_mem _ mem)
    cases admitted : s.rif.admitted { cls := .tune, frame := h.frame } with
    | some r =>
      rw [offerTunes_cons_admitted admitted]
      cases rest with
      | nil =>
        rw [first]
        cases w with
        | false => simp [offerTunes]
        | true =>
          simp only [List.isEmpty_nil, Bool.and_self, if_true, offerTunes, tuneAccepted, ne_eq, reduceCtorEq,
            not_false_eq_true, true_and, onRif_rte, Bool.and_eq_true]
          split
          · next runs =>
            rw [if_pos (by exact runs)]
            rfl
          · next stays =>
            rw [if_neg (by exact stays)]
            rfl
      | cons x rest =>
        simpa using ih (s.onRif fun _ => r) others
    | none =>
      rw [offerTunes_cons_held admitted]
      cases rest with
      | nil =>
        cases w with
        | false => simp [offerTunes]
        | true => simp [offerTunes, first]
      | cons x rest =>
        simpa using ih (s.onRte fun r => { r with hold := r.hold ++ [h] }) others

/-! ## A batch for the Active order (R105, R109) -/

/-- An order with a new batch: its tag, and its nodes without marks (R105, R109). -/
def Order.batched (o : Order) (tag : Byte) (nodes : List Node) : Order :=
  { o with tag := some tag, nodes := nodes.map fun n => { node := n, ok := false } }

/-- The frames of a batch (R105, R109). -/
def State.batchFrames (s : State) (o : Order) (nodes : List Node) (channel : Nat) (awaited : Bool) : List HeldTune :=
  nodes.map fun n => { frame := s.tuneFrame o (s.rte.tuneTag + 1) channel n, awaited := awaited }

/-- The Active order with its new batch, before the frames are offered. -/
def State.batching (s : State) (o : Order) (nodes : List Node) : State :=
  s.onRte fun r => { r with tuneTag := s.rte.tuneTag + 1, active := r.active.map fun _ => o.batched (s.rte.tuneTag + 1) nodes }

theorem tuneBatch_eq (o : Order) (nodes : List Node) (channel : Nat) (awaited : Bool) (s : State) :
    tuneBatch o nodes channel awaited s = offerTunes (s.batchFrames o nodes channel awaited) (s.batching o nodes) := rfl

theorem tuneBatch_offered (o : Order) (nodes : List Node) (channel : Nat) (awaited : Bool) (s : State) :
    Offered (s.batchFrames o nodes channel awaited) (s.batching o nodes) (tuneBatch o nodes channel awaited s) :=
  offerTunes_offered _ _

section
variable {o : Order} {nodes : List Node} {channel : Nat} {awaited : Bool} {s t : State}

/-- What a batch leaves as it stands. -/
theorem tuneBatch_leaves (isBatch : t = tuneBatch o nodes channel awaited s) :
    t.plan = s.plan ∧ t.lmn = s.lmn ∧ t.swp = s.swp ∧ t.cpl = s.cpl ∧ t.lmp = s.lmp
      ∧ t.rte.staged = s.rte.staged ∧ t.rte.deferred = s.rte.deferred ∧ t.rte.tuneTag = s.rte.tuneTag + 1
      ∧ t.rte.active = s.rte.active.map fun _ => o.batched (s.rte.tuneTag + 1) nodes := by
  subst isBatch
  rw [(tuneBatch_offered o nodes channel awaited s).state]
  exact ⟨rfl, rfl, rfl, rfl, rfl, rfl, rfl, rfl, rfl⟩

theorem mem_batchFrames {n : Node} (mem : n ∈ nodes) :
    { frame := s.tuneFrame o (s.rte.tuneTag + 1) channel n, awaited := awaited } ∈ s.batchFrames o nodes channel awaited :=
  List.mem_map_of_mem mem

/-- Each node's TUNE frame is in the queue or in the hold (R105, R109). -/
theorem tuneBatch_frames (isBatch : t = tuneBatch o nodes channel awaited s) {n : Node} (mem : n ∈ nodes) :
    { cls := .tune, frame := s.tuneFrame o (s.rte.tuneTag + 1) channel n } ∈ claims t.rif.ctlQ
      ∨ { frame := s.tuneFrame o (s.rte.tuneTag + 1) channel n, awaited := awaited } ∈ t.rte.hold := by
  subst isBatch
  obtain ⟨-, -, later, hold, -, all⟩ := tuneBatch_offered o nodes channel awaited s
  refine (all _ (mem_batchFrames mem)).imp id fun held => ?_
  rw [hold]
  exact List.mem_append_right _ held

/-- The output hold gains frames of the batch alone (R105, R109). -/
theorem tuneBatch_hold (isBatch : t = tuneBatch o nodes channel awaited s) :
    ∃ later, t.rte.hold = s.rte.hold ++ later ∧ ∀ h ∈ later, h.awaited = awaited
      ∧ ∃ n ∈ nodes, h.frame = s.tuneFrame o (s.rte.tuneTag + 1) channel n := by
  subst isBatch
  obtain ⟨-, -, later, hold, own, -⟩ := tuneBatch_offered o nodes channel awaited s
  refine ⟨later, hold, fun h mem => ?_⟩
  obtain ⟨n, at_n, rfl⟩ := List.mem_map.mp (own mem)
  exact ⟨rfl, n, at_n, rfl⟩

/-- The tune timer runs once an awaited batch is in the queue as a whole (R105, R106). -/
theorem tuneBatch_timer (isBatch : t = tuneBatch o nodes channel awaited s) (active : s.rte.active ≠ none) : t.rte.tuneTimer =
    if awaited = true ∧ nodes ≠ [] ∧ t.rte.hold.all (fun h => !h.awaited) then some s.mgr.settings.tuneTimeout
    else s.rte.tuneTimer := by
  subst isBatch
  rw [tuneBatch_eq]
  refine (offerTunes_timer (w := awaited) _ _ fun h mem => ?_).trans ?_
  · obtain ⟨_, -, rfl⟩ := List.mem_map.mp mem
    rfl
  · have isActive : (s.batching o nodes).rte.active.isSome = true := by
      rw [State.batching, onRte_rte, Option.isSome_map]
      exact Option.isSome_iff_ne_none.mpr active
    simp only [isActive, State.batchFrames, ne_eq, List.map_eq_nil_iff, true_and]
    rfl

theorem tuneBatch_queue (isBatch : t = tuneBatch o nodes channel awaited s) : claims s.rif.ctlQ <+: claims t.rif.ctlQ := by
  subst isBatch
  exact (tuneBatch_offered o nodes channel awaited s).queue

end

/-- The carriers of a band depend on the Active order by its link and its chosen channel (R12). -/
theorem bandCarriers_batched {p : Plan} {r r' : Rte} {b : BandId}
    (active : r'.active.map (fun o => (o.link, o.chosen)) = r.active.map fun o => (o.link, o.chosen)) :
    bandCarriers p r' b = bandCarriers p r b := by
  have target : tuningTarget p r' = tuningTarget p r := by
    unfold tuningTarget
    cases now : r'.active with
    | none =>
      rw [now] at active
      rw [Option.map_eq_none_iff.mp active.symm]
    | some o =>
      rw [now] at active
      obtain ⟨o', was, same⟩ := Option.map_eq_some_iff.mp active.symm
      obtain ⟨link, chosen⟩ := Prod.mk.inj same
      rw [was]
      simp only [link, chosen]
  rw [bandCarriers, bandCarriers, target]

/-! ## Changes of phase (R98) -/

theorem mixReport_leaves (k : LinkId) (s : State) : mixReport k s = { s with rif := { s.rif with voiceQ := (mixReport k s).rif.voiceQ } } := by
  unfold mixReport
  split
  · rfl
  · rfl

theorem phaseReport_leaves (k : LinkId) (s : State) : phaseReport k s = { s with
    rif := { s.rif with voiceQ := (phaseReport k s).rif.voiceQ }
    lmp := { s.lmp with pending := (phaseReport k s).lmp.pending } } := by
  have reported : phaseReport k s = { mixReport k s with
      lmp := { (mixReport k s).lmp with pending := (phaseReport k s).lmp.pending } } := by
    unfold phaseReport lampPend State.onLmp
    simp only
    split
    · rfl
    · rfl
  rw [reported, mixReport_leaves]

/-- A report of a phase sets the lamp flag of an eligible link (R98, R137). -/
theorem phaseReport_pending {k : LinkId} {s : State} (eligible : s.eligible k = true) :
    rd (phaseReport k s).lmp.pending k = true := by
  have same : (mixReport k s).eligible k = true := by
    rw [mixReport_leaves]
    exact eligible
  rw [phaseReport, lampPend, same]
  exact rd_wr_same _ _ _

theorem setPhase_leaves (k : LinkId) (p : Phase) (s : State) : (setPhase k p s).swp = s.swp ∧ (setPhase k p s).cpl = s.cpl
    ∧ (setPhase k p s).rte = s.rte ∧ (setPhase k p s).lmn = s.lmn ∧ (setPhase k p s).rif.ctlQ = s.rif.ctlQ
    ∧ (setPhase k p s).mgr = s.mgr ∧ (setPhase k p s).rif.mode = s.rif.mode := by
  rw [setPhase, phaseReport_leaves]
  exact ⟨rfl, rfl, rfl, rfl, rfl, rfl, rfl⟩

theorem link_setPhase (k j : LinkId) (p : Phase) (s : State) : (setPhase k p s).link j =
    if k = j then { s.link k with carrier := { (s.link k).carrier with phase := p } } else s.link j := by
  rw [State.link, setPhase_plan]
  exact link_onLink s k j _

theorem ownRecompute_link (b : BandId) (touched : Span → Bool) (s : State) (j : LinkId) :
    (ownRecompute b touched s).link j = s.link j := (ownRecompute_aside s b touched).link j

/-! ## Launch (R60, R105) -/

/-- The order with what its launch records (R105). -/
def State.launched (s : State) (o : Order) (c : Chosen) : Order :=
  { o with chosen := some c, previous := (s.link o.link).carrier.channel }

/-- The order is in TUNING and the generation has advanced (R105). -/
def State.entersTuning (s : State) (o : Order) (c : Chosen) : State :=
  (setPhase o.link .tuning (s.onRte fun r => { r with active := some (s.launched o c) })).advanceGen

section
variable (o : Order) (c : Chosen) (s : State)

theorem link_entersTuning (j : LinkId) : (s.entersTuning o c).link j =
    if o.link = j then { s.link o.link with carrier := { (s.link o.link).carrier with phase := .tuning } } else s.link j :=
  link_setPhase o.link j .tuning (s.onRte fun r => { r with active := some (s.launched o c) })

theorem entersTuning_inner : Inner s (s.entersTuning o c) :=
  ((Inner.onRte _ id).trans (setPhase_inner _ _ _)).trans Inner.advanceGen

theorem entersTuning_leaves : (s.entersTuning o c).swp = s.swp ∧ (s.entersTuning o c).lmn = s.lmn
    ∧ (s.entersTuning o c).rte = { s.rte with active := some (s.launched o c) }
    ∧ (s.entersTuning o c).plan.gen = s.plan.gen + 1 ∧ (s.entersTuning o c).rif.ctlQ = s.rif.ctlQ := by
  obtain ⟨swp, -, rte, lmn, queue, -⟩ :=
    setPhase_leaves o.link .tuning (s.onRte fun r => { r with active := some (s.launched o c) })
  refine ⟨swp, lmn, rte, ?_, queue⟩
  have plan := setPhase_plan o.link .tuning (s.onRte fun r => { r with active := some (s.launched o c) })
  rw [State.entersTuning, advanceGen_gen, plan]
  rfl

theorem cfg_entersTuning (j : LinkId) : ((s.entersTuning o c).link j).cfg = (s.link j).cfg := (entersTuning_inner o c s).cfg j

theorem band_entersTuning (b : BandId) : (s.entersTuning o c).band b = s.band b := by
  rw [State.band, (entersTuning_inner o c s).bands]
  rfl

/-- The target's cells are marked OWN (R60, R105). -/
def State.launching : State :=
  ownRecompute (s.link o.link).cfg.band (touching (s.spanOf o.link c.channel?)) (s.entersTuning o c)

theorem launch_eq : launch o c s =
    tuneBatch (s.launched o c) (s.link o.link).cfg.radios c.wireChannel true (s.launching o c) := by
  have spans : (s.entersTuning o c).spanOf o.link c.channel? = s.spanOf o.link c.channel? := by
    rw [spanOf_eq, spanOf_eq, cfg_entersTuning, band_entersTuning]
  have marks : ownRecomputeLink o.link ((s.entersTuning o c).spanOf o.link c.channel?) (s.entersTuning o c) = s.launching o c := by
    rw [ownRecomputeLink, spans, cfg_entersTuning, State.launching]
  have cfg : ((s.launching o c).link o.link).cfg = (s.link o.link).cfg := by
    rw [State.launching, ownRecompute_link, cfg_entersTuning]
  rw [← cfg, ← marks]
  rfl

end

/-- Settles O42. -/
theorem launchSendsTuneBatch : Obligations.LaunchSendsTuneBatch := by
  rintro o c s t isLaunch k rfl
  rw [launch_eq] at isLaunch
  obtain ⟨swp, lmn, rte, gen, queue⟩ := entersTuning_leaves o c s
  have rest := ownRecompute_aside (s.entersTuning o c) (s.link o.link).cfg.band (touching (s.spanOf o.link c.channel?))
  have inner : Inner s (s.launching o c) := (entersTuning_inner o c s).trans (ownRecompute_inner _ _ _)
  have plan : (s.launching o c).plan = (s.entersTuning o c).plan := rest.plan
  have rteNow : (s.launching o c).rte = { s.rte with active := some (s.launched o c) } := rest.rte.trans rte
  obtain ⟨tPlan, tLmn, tSwp, -, -, staged, deferred, tag, active⟩ := tuneBatch_leaves isLaunch
  have activeNow : (s.launching o c).rte.active = some (s.launched o c) := by rw [rteNow]
  have tagNow : (s.launching o c).rte.tuneTag = s.rte.tuneTag := by rw [rteNow]
  have links (j : LinkId) : t.link j = (s.entersTuning o c).link j := by rw [State.link, tPlan, plan]; rfl
  have whole : Inner s t := by
    rw [isLaunch]
    exact inner.trans (tuneBatch_inner _ _ _ _ _)
  have here := (links o.link).trans ((link_entersTuning o c s o.link).trans (if_pos rfl))
  refine ⟨(s.launched o c).batched (s.rte.tuneTag + 1) (s.link o.link).cfg.radios, ?_, rfl, rfl, ?_, ?_, ?_,
    (congrArg Link.carrier here :), (congrArg Link.cfg here :), (congrArg Link.health here :), (congrArg Link.tally here :),
    fun j other => ?_, ?_, whole.bands, whole.windows, ?_, whole.tly, whole.tbm, ?_, fun held free => ?_, ?_⟩
  · rw [active, activeNow, tagNow]
    rfl
  · rw [tag, tagNow]
  · rw [staged, rteNow]
  · rw [deferred, rteNow]
  · rw [links, link_entersTuning, if_neg other.symm]
  · rw [tPlan, plan, gen]
  · rw [tLmn]
    exact rest.lmn.trans lmn
  · rintro n mem f rfl
    obtain ⟨node, isNode, rfl⟩ := List.mem_map.mp mem
    have frame : (s.launching o c).tuneFrame (s.launched o c) ((s.launching o c).rte.tuneTag + 1) c.wireChannel node =
        { kind := Kind.tune, dst := node, src := s.rif.node
          payload := [byte o.link.val, s.rte.tuneTag + 1, byte (s.link o.link).cfg.band.val]
            ++ n16 c.wireChannel ++ n16 (s.link o.link).cfg.width } := by
      have node : (s.launching o c).rif.node = s.rif.node := by rw [inner.rif]
      rw [State.tuneFrame, State.bandOf, node, tagNow]
      simp only [State.launched, inner.cfg]
    have sent := tuneBatch_frames isLaunch isNode
    rw [frame] at sent
    cases c with
    | channel m => exact sent.imp List.mem_of_mem_filter id
    | off => exact sent.imp List.mem_of_mem_filter id
  · have timer := tuneBatch_timer isLaunch (by rw [activeNow]; exact Option.some_ne_none _)
    rw [timer, free, inner.mgr]
    exact if_pos ⟨rfl, by simp [LinkCfg.radios], rfl⟩
  · have marked : (s.entersTuning o c).ownMarked (s.launching o c) (s.link o.link).cfg.band (s.spanOf o.link c.channel?) :=
      ownRecompute_ownMarked _ _ _
    have whole : s.ownMarked t (s.link o.link).cfg.band (s.spanOf o.link c.channel?) := by
      refine marked.congr (band_entersTuning o c s _) (by rw [swp]) (fun j => by rw [tSwp]) ?_
      rw [tPlan]
      refine bandCarriers_batched ?_
      rw [active, activeNow]
      rfl
    cases c with
    | channel n => exact whole
    | off => exact whole

/-! ## Answers that mark a node (R107) -/

theorem exec_tuned (h : FrameHead) (p : List Byte) (s : State) :
    exec (.tuned h p) s = .next (receiveFrame Kind.tuned h p (takeTuned h.src p) s) := rfl

theorem exec_tuned_consumed {h : FrameHead} {p : List Byte} {s : State} (consumed : s.consumes Kind.tuned h p = true) :
    exec (.tuned h p) s = .next (takeTuned h.src p s.handed) := by
  rw [exec_tuned, receiveFrame_consumed (by simp) consumed]

section
variable {src : Node} {p : List Byte} {l tag c1 c0 result : Byte} {o : Order} {s : State}

theorem takeTuned_length (length : p.length ≠ 5) : takeTuned src p s = s := by
  unfold takeTuned
  split
  · exact absurd rfl length
  · rfl

theorem takeTuned_inactive (inactive : s.rte.active = none) : takeTuned src p s = s := by
  unfold takeTuned
  rw [inactive]
  split
  · next active => cases active
  · rfl

theorem takeTuned_active (active : s.rte.active = some o) : takeTuned src [l, tag, c1, c0, result] s =
    if o.accepts (s.link o.link).carrier.phase src l tag (u16 c1 c0) then
      if result = 0 then tunedOk o (s.link o.link).carrier.phase src s
      else if result = 1 then tunedFail o (s.link o.link).carrier.phase s else s
    else s := by
  simp only [takeTuned, active]

theorem batchChannel_eq_some {phase : Phase} {n : Nat} : o.batchChannel phase = some n ↔
    (phase = .tuning ∧ ((∃ m, o.chosen = some (.channel m) ∧ n = m) ∨ (o.chosen = some .off ∧ n = 0xFFFF)))
      ∨ (phase = .reverting ∧ ((∃ m, o.previous = some m ∧ n = m) ∨ (o.previous = none ∧ n = 0xFFFF))) := by
  cases phase with
  | tuning =>
    cases chosen : o.chosen with
    | none => simp [Order.batchChannel, chosen]
    | some c => cases c <;> simp [Order.batchChannel, chosen, Chosen.wireChannel, eq_comm]
  | reverting => cases previous : o.previous <;> simp [Order.batchChannel, previous, previousChannel, eq_comm]
  | idle => simp [Order.batchChannel]
  | queued => simp [Order.batchChannel]
  | checking => simp [Order.batchChannel]

theorem accepts_iff {phase : Phase} {n : Nat} : o.accepts phase src l tag n = true ↔
    l.toNat = o.link.val ∧ o.tag = some tag ∧ o.batchChannel phase = some n ∧ ∃ x ∈ o.nodes, x.node = src ∧ x.ok = false := by
  simp [Order.accepts, and_assoc]

theorem tunedOk_marks {phase : Phase} (others : ∃ n ∈ o.nodes, n.node ≠ src ∧ n.ok = false) :
    tunedOk o phase src s = s.onRte fun r => { r with active := some (o.mark src) } := by
  obtain ⟨n, mem, other, unmarked⟩ := others
  refine if_neg fun all => ?_
  have marked := List.all_eq_true.mp all n (List.mem_map.mpr ⟨n, mem, if_neg other⟩)
  rw [unmarked] at marked
  cases marked

end

/-- Settles O43. -/
theorem tunedAnswersMarked : Obligations.TunedAnswersMarked := by
  intro h p s consumed
  rw [exec_tuned_consumed consumed]
  refine ⟨fun length => congrArg _ (takeTuned_length length), ?_⟩
  rintro l tag c1 c0 result rfl
  refine ⟨fun inactive => congrArg _ (takeTuned_inactive inactive), fun o active accepted isAccepted => ?_⟩
  have accepts : o.accepts (s.handed.link o.link).carrier.phase h.src l tag (u16 c1 c0) = true ↔ accepted := by
    rw [isAccepted, accepts_iff, batchChannel_eq_some]
    exact Iff.rfl
  rw [takeTuned_active (s := s.handed) active]
  refine ⟨fun ignored => congrArg _ ?_, fun takes ok others => congrArg _ ?_⟩
  · by_cases takes : accepted
    · have large : 1 < result.toNat := ignored.resolve_left (not_not_intro takes)
      rw [if_pos (accepts.mpr takes), if_neg (by bv_omega), if_neg (by bv_omega)]
    · exact if_neg fun does => takes (accepts.mp does)
  · rw [if_pos (accepts.mpr takes), if_pos ok, tunedOk_marks others]
    rfl

theorem mark_mark (o : Order) (a b : Node) : (o.mark a).mark b = (o.mark b).mark a := by
  have nodes : (o.nodes.map fun n => if n.node = a then { n with ok := true } else n).map
        (fun n => if n.node = b then { n with ok := true } else n)
      = (o.nodes.map fun n => if n.node = b then { n with ok := true } else n).map
        (fun n => if n.node = a then { n with ok := true } else n) := by
    have node (c : Node) (n : Addressed) : (if n.node = c then { n with ok := true } else n).node = n.node := by
      split
      · rfl
      · rfl
    rw [List.map_map, List.map_map]
    refine List.map_congr_left fun n _ => ?_
    simp only [Function.comp_apply, node]
    by_cases first : n.node = a
    · simp only [if_pos first, ite_self]
    · simp only [if_neg first]
  simp only [Order.mark, nodes]

theorem accepts_mark {o : Order} {phase : Phase} {a b : Node} {l tag : Byte} {n : Nat} (other : a ≠ b)
    (accepts : o.accepts phase b l tag n = true) : (o.mark a).accepts phase b l tag n = true := by
  obtain ⟨link, named, channel, x, mem, node, unmarked⟩ := accepts_iff.mp accepts
  refine accepts_iff.mpr ⟨link, named, channel, x, List.mem_map.mpr ⟨x, mem, if_neg ?_⟩, node, unmarked⟩
  rw [node]
  exact other.symm

/-- Of two answers to one batch the first marks its node, and the second is taken with both marks. -/
theorem tuned_then_tuned {h1 h2 : FrameHead} {l tag c1 c0 : Byte} {o : Order} {s : State} (different : h1.src ≠ h2.src)
    (consumed1 : s.consumes Kind.tuned h1 [l, tag, c1, c0, 0] = true)
    (consumed2 : s.consumes Kind.tuned h2 [l, tag, c1, c0, 0] = true) (active : s.rte.active = some o)
    (accepts1 : o.accepts (s.link o.link).carrier.phase h1.src l tag (u16 c1 c0) = true)
    (accepts2 : o.accepts (s.link o.link).carrier.phase h2.src l tag (u16 c1 c0) = true) :
    ∃ t, exec (.tuned h1 [l, tag, c1, c0, 0]) s = .next t
      ∧ exec (.tuned h2 [l, tag, c1, c0, 0]) t = .next (tunedOk (o.mark h1.src) (s.link o.link).carrier.phase h2.src
          (s.handed.onRte fun r => { r with active := some (o.mark h1.src) })) := by
  obtain ⟨-, -, -, x, mem, node, unmarked⟩ := accepts_iff.mp accepts2
  refine ⟨s.handed.onRte fun r => { r with active := some (o.mark h1.src) }, ?_, ?_⟩
  · rw [exec_tuned_consumed consumed1, takeTuned_active (s := s.handed) active]
    refine congrArg _ ((if_pos accepts1).trans ((if_pos rfl).trans (tunedOk_marks ⟨x, mem, ?_, unmarked⟩)))
    rw [node]
    exact different.symm
  · rw [exec_tuned_consumed (by exact consumed2), takeTuned_active (o := o.mark h1.src) rfl]
    exact congrArg _ ((if_pos (accepts_mark different accepts2)).trans (if_pos rfl))

/-- Settles O44. -/
theorem tunedOrderDoesNotMatter : Obligations.TunedOrderDoesNotMatter := by
  intro h1 h2 l tag c1 c0 o s different consumed1 consumed2 active tuning accepts1 accepts2
  rw [← tuning] at accepts1 accepts2
  obtain ⟨t1, first, thenSecond⟩ := tuned_then_tuned different consumed1 consumed2 active accepts1 accepts2
  obtain ⟨t2, second, thenFirst⟩ := tuned_then_tuned different.symm consumed2 consumed1 active accepts2 accepts1
  refine ⟨t1, t2, _, first, second, thenSecond, thenFirst.trans ?_⟩
  unfold tunedOk
  rw [mark_mark o h2.src h1.src]
  rfl

end Sys2Proof.Machine
end

section
/-! Proofs of the fill of the Staged slot and the promotion test (R99, R100, R102). -/

namespace Sys2Proof.Machine

/-! ## One round (R99, R100) -/

section
variable {s t : State} {o : Order} {n : Nat}

theorem settle_bypass (bypass : s.normal = false) (n : Nat) : settle n s = s := by
  cases n with
  | zero => rfl
  | succ n => exact if_neg (by simp [bypass])

section
variable (normal : s.normal = true)
include normal

theorem settle_fills (empty : s.rte.staged = none) (filled : fillStaged s = some t) : settle (n + 1) s = settle n t := by
  simp only [settle, normal, if_true, empty, filled]

theorem settle_unfilled (empty : s.rte.staged = none) (unfilled : fillStaged s = none) : settle (n + 1) s = s := by
  simp only [settle, normal, if_true, empty, unfilled]

variable (staged : s.rte.staged = some o)
include staged

theorem settle_waits (occupied : s.rte.active ≠ none) : settle (n + 1) s = s := by
  simp only [settle, normal, if_true, staged, Option.isSome_iff_ne_none.mpr occupied]

variable (free : s.rte.active = none)
include free

theorem settle_starts (promoted : s.promotable o = true) : settle (n + 1) s = settle n (startOrder o s) := by
  simp only [settle, normal, if_true, staged, free, promoted, Option.isSome_none, Bool.false_eq_true, if_false]

theorem settle_defers (stays : s.promotable o = false) (room : s.rte.deferred.length < 8) :
    settle (n + 1) s = settle n (deferOrder o s) := by
  have room' : s.rte.deferred.length < Config.deferredCapacity := room
  simp only [settle, normal, if_true, staged, free, stays, Option.isSome_none, Bool.false_eq_true, if_false, if_pos room']

theorem settle_full (stays : s.promotable o = false) (full : 8 ≤ s.rte.deferred.length) : settle (n + 1) s = s := by
  have full' : ¬s.rte.deferred.length < Config.deferredCapacity := Nat.not_lt.mpr full
  simp only [settle, normal, if_true, staged, free, stays, Option.isSome_none, Bool.false_eq_true, if_false, if_neg full']

end

/-- Neither a fill nor the promotion test could act. -/
def State.rests (s : State) : Prop :=
  (s.rte.staged = none → fillStaged s = none)
    ∧ ∀ o, s.rte.staged = some o → s.rte.active ≠ none ∨ (s.promotable o = false ∧ 8 ≤ s.rte.deferred.length)

theorem settle_of_rests (normal : s.normal = true) (rests : s.rests) (n : Nat) : settle n s = s := by
  cases n with
  | zero => rfl
  | succ n =>
    cases staged : s.rte.staged with
    | none => exact settle_unfilled normal staged (rests.1 staged)
    | some o =>
      by_cases active : s.rte.active = none
      · obtain ⟨stays, full⟩ := (rests.2 o staged).resolve_left (not_not_intro active)
        exact settle_full normal staged active stays full
      · exact settle_waits normal staged active

theorem promotable_iff : s.promotable o = true ↔ s.onAir o.link = false ∨ o.reason = .rescue ∨ o.force = true := by
  simp [State.promotable, or_assoc]

theorem promotable_false : s.promotable o = false ↔ s.onAir o.link = true ∧ o.reason ≠ .rescue ∧ o.force = false := by
  simp [State.promotable, and_assoc]

/-! ## Candidates (R99) -/

theorem mem_wantList_iff {k : LinkId} {r : Reason} : (k, r) ∈ s.wantList ↔ s.want k = some r :=
  ⟨mem_wantList, fun want => List.mem_filterMap.mpr ⟨k, List.mem_finRange k, by rw [want]; rfl⟩⟩

theorem wantList_eq_nil : s.wantList = [] ↔ ∀ k, s.want k = none := by
  rw [List.eq_nil_iff_forall_not_mem]
  constructor
  · intro none k
    cases want : s.want k with
    | none => rfl
    | some r => exact absurd (mem_wantList_iff.mpr want) (none _)
  · rintro none ⟨k, r⟩ mem
    have want := mem_wantList_iff.mp mem
    rw [none k] at want
    cases want

/-- Of the best so far and a further want, the one that goes first (R99). -/
def State.better (s : State) (best : Option (LinkId × Reason)) (w : LinkId × Reason) : Option (LinkId × Reason) :=
  match best with
  | none => some w
  | some b => if s.wantBefore w b then some w else some b

theorem bestWant_eq (s : State) : s.bestWant = s.wantList.foldl s.better none := rfl

theorem better_keeps {b : LinkId × Reason} (l : List (LinkId × Reason)) (first : ∀ w ∈ l, s.wantBefore w b = false) :
    l.foldl s.better (some b) = some b := by
  induction l with
  | nil => rfl
  | cons w l ih =>
    have stays : s.better (some b) w = some b := if_neg (by simp [first w List.mem_cons_self])
    rw [List.foldl_cons, stays]
    exact ih fun x mem => first x (List.mem_cons_of_mem _ mem)

/-- A want that goes before all that come earlier, and before which no later one goes, is the best. -/
theorem better_chooses {b : LinkId × Reason} (before after : List (LinkId × Reason))
    (goes : ∀ w ∈ before, s.wantBefore b w = true) (stays : ∀ w ∈ after, s.wantBefore w b = false) :
    ∀ best : Option (LinkId × Reason), (∀ w, best = some w → s.wantBefore b w = true) →
      (before ++ b :: after).foldl s.better best = some b := by
  induction before with
  | nil =>
    intro best beaten
    have chosen : s.better best b = some b := by
      cases best with
      | none => rfl
      | some w => exact if_pos (beaten w rfl)
    rw [List.nil_append, List.foldl_cons, chosen, better_keeps after stays]
  | cons x l ih =>
    intro best beaten
    rw [List.cons_append, List.foldl_cons]
    refine ih (fun w mem => goes w (List.mem_cons_of_mem _ mem)) _ fun w isBest => ?_
    cases best with
    | none =>
      cases isBest
      exact goes x List.mem_cons_self
    | some b' =>
      unfold State.better at isBest
      simp only at isBest
      split at isBest
      · cases isBest
        exact goes x List.mem_cons_self
      · cases isBest
        exact beaten _ rfl

theorem bestWant_none (unwanted : ∀ k, s.want k = none) : s.bestWant = none := by
  rw [bestWant_eq, wantList_eq_nil.mpr unwanted]
  rfl

theorem wantBefore_iff {a b : LinkId × Reason} : s.wantBefore a b = true ↔
    a.2.rank < b.2.rank ∨ (a.2.rank = b.2.rank ∧ (s.link b.1).cfg.priority < (s.link a.1).cfg.priority) := by
  simp [State.wantBefore]

/-- The want that ranks first is taken: by reason, priority and link number (R99). -/
theorem bestWant_first {k : LinkId} {reason : Reason} (want : s.want k = some reason)
    (first : ∀ j r, s.want j = some r → j ≠ k → reason.rank < r.rank ∨ (reason.rank = r.rank
      ∧ ((s.link j).cfg.priority < (s.link k).cfg.priority
        ∨ ((s.link j).cfg.priority = (s.link k).cfg.priority ∧ k < j)))) : s.bestWant = some (k, reason) := by
  obtain ⟨before, after, split⟩ := List.append_of_mem (mem_wantList_iff.mpr want)
  have sorted : s.wantList.Pairwise fun a b => a.1 < b.1 := by
    refine List.Pairwise.filterMap _ ?_ (List.pairwise_lt_finRange 64)
    intro i j below a fromI b fromJ
    obtain ⟨_, -, rfl⟩ := Option.map_eq_some_iff.mp fromI
    obtain ⟨_, -, rfl⟩ := Option.map_eq_some_iff.mp fromJ
    exact below
  rw [split, List.pairwise_append, List.pairwise_cons] at sorted
  obtain ⟨-, ⟨later, -⟩, earlier⟩ := sorted
  have wanted {w : LinkId × Reason} (mem : w ∈ before ++ (k, reason) :: after) : s.want w.1 = some w.2 :=
    mem_wantList_iff.mp (by rw [split]; exact mem)
  rw [bestWant_eq, split]
  refine better_chooses before after (fun w mem => ?_) (fun w mem => ?_) _ nofun
  · have below : w.1 < k := earlier w mem _ List.mem_cons_self
    rw [wantBefore_iff]
    rcases first w.1 w.2 (wanted (List.mem_append_left _ mem)) below.ne with rank | ⟨rank, prio | ⟨-, above⟩⟩
    · exact .inl rank
    · exact .inr ⟨rank, prio⟩
    · exact absurd above below.asymm
  · have above : k < w.1 := later w mem
    rw [Bool.eq_false_iff, Ne, wantBefore_iff]
    rcases first w.1 w.2 (wanted (List.mem_append_right _ (List.mem_cons_of_mem _ mem))) above.ne' with
      rank | ⟨rank, prio | ⟨prio, -⟩⟩
    · rintro (less | ⟨same, -⟩) <;> simp only at * <;> omega
    · rintro (less | ⟨-, more⟩) <;> simp only at * <;> omega
    · rintro (less | ⟨-, more⟩) <;> simp only at * <;> omega

theorem eligibleDeferred_none : s.eligibleDeferred = none ↔ ∀ x ∈ s.rte.deferred, s.onAir x.link = true := by
  simp [State.eligibleDeferred]

theorem fillStaged_none_iff : fillStaged s = none ↔
    (∀ x ∈ s.rte.deferred, s.onAir x.link = true) ∧ ∀ k, s.want k = none := by
  rw [← eligibleDeferred_none, ← wantList_eq_nil]
  unfold fillStaged
  cases s.eligibleDeferred with
  | some o => simp
  | none =>
    cases listed : s.wantList with
    | nil => simp [bestWant_eq, listed]
    | cons w l =>
      have best : s.bestWant ≠ none := by
        rw [bestWant_eq, listed, List.foldl_cons]
        suffices some_ : ∀ (l : List (LinkId × Reason)) b, l.foldl s.better (some b) ≠ none from some_ l _
        intro l
        induction l with
        | nil => exact nofun
        | cons x l ih =>
          intro b
          rw [List.foldl_cons, State.better]
          split
          · exact ih _
          · exact ih _
      obtain ⟨⟨k, r⟩, isBest⟩ := Option.ne_none_iff_exists'.mp best
      simp [isBest]

/-! ## Rounds until neither acts -/

/-- How many rounds can still act: fills, deferrals up to eight, one start and the fill after it. -/
def State.roundsLeft (s : State) : Nat :=
  match s.rte.active, s.rte.staged with
  | some _, some _ => 0
  | some _, none => 1
  | none, none => 2 * (8 - s.rte.deferred.length) + 4
  | none, some o => if s.promotable o then 2 else 2 * (8 - s.rte.deferred.length) + 3

theorem active_eq_none_iff : s.rte.active = none ↔ s.standing.active = none := by simp [State.standing]

theorem normal_of_inner (inner : Inner s t) : t.normal = s.normal := by rw [State.normal, inner.rif]; rfl

theorem fillStaged_roundsLeft (few : s.rte.deferred.length ≤ 8) (empty : s.rte.staged = none) (filled : fillStaged s = some t) :
    t.rte.deferred.length ≤ 8 ∧ t.roundsLeft < s.roundsLeft := by
  have inner := fillStaged_inner filled
  have same (o : Order) (staged : t.rte.staged = some o) (active : t.standing.active = s.standing.active)
      (deferred : t.rte.deferred = s.rte.deferred ∨ t.promotable o = true) : t.roundsLeft < s.roundsLeft := by
    unfold State.roundsLeft
    rw [empty, staged]
    cases occupied : s.rte.active with
    | some a =>
      have still : t.rte.active ≠ none := fun free => by
        rw [active_eq_none_iff, active, ← active_eq_none_iff, occupied] at free
        cases free
      obtain ⟨b, isActive⟩ := Option.ne_none_iff_exists'.mp still
      rw [isActive]
      exact Nat.one_pos
    | none =>
      have still : t.rte.active = none := by rw [active_eq_none_iff, active, ← active_eq_none_iff, occupied]
      rw [still]
      dsimp only
      split
      · omega
      · next stays =>
        rw [deferred.resolve_right stays]
        omega
  rcases fillStaged_standing filled with ⟨o, mem, offAir, left⟩ | ⟨k, r, wanted, left⟩
  · have deferred : t.rte.deferred = s.rte.deferred.filter fun d => d.link ≠ o.link := congrArg Standing.deferred left
    refine ⟨?_, same o (congrArg Standing.staged left) (congrArg Standing.active left :) (.inr ?_)⟩
    · rw [deferred]
      exact (List.length_filter_le _ _).trans few
    · rw [promotable_iff, onAir_of_inner inner]
      exact .inl offAir
  · have deferred : t.rte.deferred = s.rte.deferred := congrArg Standing.deferred left
    exact ⟨by rw [deferred]; exact few, same _ (congrArg Standing.staged left) (congrArg Standing.active left :) (.inl deferred)⟩

theorem startOrder_records (o : Order) (s : State) : (startOrder o s).rte.staged = none ∧ (startOrder o s).rte.active ≠ none
    ∧ (startOrder o s).rte.deferred = s.rte.deferred ∧ (startOrder o s).lmn = s.lmn := by
  have left := startOrder_standing o s
  refine ⟨congrArg Standing.staged left, fun free => ?_, congrArg Standing.deferred left, congrArg Standing.lmn left⟩
  rw [active_eq_none_iff, left] at free
  cases free

/-- The settling comes to rest: each round that acts leaves fewer that can (R99, R100). -/
theorem settle_comes_to_rest (n : Nat) : ∀ s : State, s.normal = true → s.rte.deferred.length ≤ 8 → s.roundsLeft ≤ n →
    (settle n s).rests ∧ (settle n s).rte.deferred.length ≤ 8 := by
  induction n with
  | zero =>
    intro s _ few left
    have occupied : s.rte.active ≠ none ∧ s.rte.staged ≠ none := by
      unfold State.roundsLeft at left
      split at left
      · next active staged => simp [active, staged]
      · omega
      · omega
      · split at left <;> omega
    exact ⟨⟨fun empty => absurd empty occupied.2, fun _ _ => .inl occupied.1⟩, few⟩
  | succ n ih =>
    intro s normal few left
    cases staged : s.rte.staged with
    | none =>
      cases filled : fillStaged s with
      | none =>
        rw [settle_unfilled normal staged filled]
        exact ⟨⟨fun _ => filled, fun o occupied => nomatch staged.symm.trans occupied⟩, few⟩
      | some t =>
        rw [settle_fills normal staged filled]
        obtain ⟨fewer, less⟩ := fillStaged_roundsLeft few staged filled
        exact ih t ((normal_of_inner (fillStaged_inner filled)).trans normal) fewer (by omega)
    | some o =>
      by_cases occupied : s.rte.active = none
      · cases promoted : s.promotable o with
        | true =>
          rw [settle_starts normal staged occupied promoted]
          obtain ⟨none, active, deferred, -⟩ := startOrder_records o s
          refine ih _ ((normal_of_inner (startOrder_inner o s)).trans normal) (by rw [deferred]; exact few) ?_
          obtain ⟨a, isActive⟩ := Option.ne_none_iff_exists'.mp active
          simp only [State.roundsLeft, occupied, staged, promoted, if_true] at left
          simp only [State.roundsLeft, isActive, none]
          omega
        | false =>
          by_cases room : s.rte.deferred.length < 8
          · rw [settle_defers normal staged occupied promoted room]
            have length : (deferOrder o s).rte.deferred.length = s.rte.deferred.length + 1 := List.length_append
            have free : (deferOrder o s).rte.active = none := occupied
            have empty : (deferOrder o s).rte.staged = none := rfl
            refine ih _ ((normal_of_inner (note_inner _ _ _)).trans normal) (by omega) ?_
            simp only [State.roundsLeft, occupied, staged, promoted, Bool.false_eq_true, if_false] at left
            simp only [State.roundsLeft, free, empty, length]
            omega
          · rw [settle_full normal staged occupied promoted (by omega)]
            refine ⟨⟨fun empty => (nomatch staged.symm.trans empty), fun x isStaged => .inr ?_⟩, few⟩
            obtain rfl := Option.some.inj (staged.symm.trans isStaged)
            exact ⟨promoted, by omega⟩
      · rw [settle_waits normal staged occupied]
        exact ⟨⟨fun empty => (nomatch staged.symm.trans empty), fun _ _ => .inl occupied⟩, few⟩

theorem normal_iff : s.normal = true ↔ s.rif.mode = .normal := decide_eq_true_iff

/-- Settles O40. -/
theorem settlingComesToRest : Obligations.SettlingComesToRest := by
  rintro s t few mode rfl
  have bound : s.roundsLeft ≤ 24 := by
    unfold State.roundsLeft
    split
    · omega
    · omega
    · omega
    · split <;> omega
  obtain ⟨⟨unfilled, waits⟩, most⟩ := settle_comes_to_rest 24 s (normal_iff.mpr mode) few bound
  refine ⟨fun empty => ?_, fun o staged => (waits o staged).imp id fun ⟨stays, full⟩ => ?_⟩
  · obtain ⟨onAir, unwanted⟩ := fillStaged_none_iff.mp (unfilled empty)
    exact ⟨unwanted, onAir⟩
  · obtain ⟨onAir, notRescue, unforced⟩ := promotable_false.mp stays
    exact ⟨onAir, notRescue, unforced, Nat.le_antisymm most full⟩

/-! ## What a promoted order becomes (R102) -/

/-- The state in which a promoted order starts (R102). -/
def State.promoting (s : State) (o : Order) : State :=
  s.onRte fun r => { r with staged := none, active := some { o with confirms := 0 } }

theorem startOrder_verify {m : Nat} (verify : o.reason = .verify) (target : o.target = .channel m) :
    startOrder o s = launch { o with confirms := 0 } (.channel m) (s.promoting o) := by
  obtain ⟨k, tgt, reason⟩ := o
  obtain rfl : reason = .verify := verify
  obtain rfl : tgt = .channel m := target
  rfl

theorem startOrder_off (target : o.target = .off) : startOrder o s = launch { o with confirms := 0 } .off (s.promoting o) := by
  obtain ⟨k, tgt, reason⟩ := o
  obtain rfl : tgt = .off := target
  cases reason with
  | verify => rfl
  | health => rfl
  | rescue => rfl
  | operator => rfl

theorem startOrder_verifySpare (verify : o.reason = .verify) (target : o.target = .spare) :
    startOrder o s = launch { o with confirms := 0 } .off (s.promoting o) := by
  obtain ⟨k, tgt, reason⟩ := o
  obtain rfl : reason = .verify := verify
  obtain rfl : tgt = .spare := target
  rfl

theorem startOrder_spare (other : o.reason ≠ .verify) (target : o.target = .spare) : startOrder o s =
    requestRte { kind := .search, link := o.link, channel := none, mode := .full } (setPhase o.link .checking (s.promoting o)) := by
  obtain ⟨k, tgt, reason⟩ := o
  obtain rfl : tgt = .spare := target
  cases reason with
  | verify => exact absurd rfl other
  | health => rfl
  | rescue => rfl
  | operator => rfl

theorem startOrder_channel {m : Nat} (other : o.reason ≠ .verify) (target : o.target = .channel m) : startOrder o s =
    requestRte { kind := .check, link := o.link, channel := some m, mode := if o.force then .exclusionOnly else .full }
      (setPhase o.link .checking (s.promoting o)) := by
  obtain ⟨k, tgt, reason⟩ := o
  obtain rfl : tgt = .channel m := target
  cases reason with
  | verify => exact absurd rfl other
  | health => rfl
  | rescue => rfl
  | operator => rfl

/-- The Active order is that of a link, with no CONFIRM yet, in CHECKING or in TUNING (R102). -/
def State.startedFor (s : State) (k : LinkId) : Prop :=
  (∃ a, s.rte.active = some a ∧ a.link = k ∧ a.confirms = 0)
    ∧ ((s.link k).carrier.phase = .checking ∨ (s.link k).carrier.phase = .tuning)

theorem launch_starts {c : Chosen} (fresh : o.confirms = 0) : (launch o c s).startedFor o.link := by
  obtain ⟨a, active, isOrder, -, -, -, -, carrier, -⟩ := launchSendsTuneBatch o c s _ rfl _ rfl
  refine ⟨⟨a, active, by rw [isOrder], by rw [isOrder, fresh]⟩, .inr ?_⟩
  rw [carrier]

theorem request_starts {r : RteRequest} :
    (requestRte r (setPhase o.link .checking (s.promoting o))).startedFor o.link := by
  have ledger := requestRte_ledger (setPhase o.link .checking (s.promoting o)) r
  obtain ⟨-, -, rte, -⟩ := setPhase_leaves o.link .checking (s.promoting o)
  refine ⟨⟨{ o with confirms := 0 }, ?_, rfl, rfl⟩, .inl ?_⟩
  · rw [rte_of_ledger ledger, rte]
    rfl
  · rw [link_of_ledger ledger, link_setPhase, if_pos rfl]

theorem startOrder_starts (o : Order) (s : State) : (startOrder o s).startedFor o.link := by
  cases target : o.target with
  | off =>
    rw [startOrder_off target]
    exact launch_starts (o := { o with confirms := 0 }) rfl
  | channel m =>
    by_cases verify : o.reason = .verify
    · rw [startOrder_verify verify target]
      exact launch_starts (o := { o with confirms := 0 }) rfl
    · rw [startOrder_channel verify target]
      exact request_starts
  | spare =>
    by_cases verify : o.reason = .verify
    · rw [startOrder_verifySpare verify target]
      exact launch_starts (o := { o with confirms := 0 }) rfl
    · rw [startOrder_spare verify target]
      exact request_starts

/-! ## Properties that rounds keep -/

/-- A property that each round which acts keeps holds after any number of them. -/
theorem settle_keeps {P : State → Prop} (fill : ∀ s t, P s → s.rte.staged = none → fillStaged s = some t → P t)
    (start : ∀ s o, P s → s.rte.staged = some o → s.rte.active = none → P (startOrder o s))
    (defers : ∀ s o, P s → s.rte.staged = some o → P (deferOrder o s)) (n : Nat) : ∀ s, P s → P (settle n s) := by
  induction n with
  | zero => exact fun _ holds => holds
  | succ n ih =>
    intro s holds
    cases normal : s.normal with
    | false => rwa [settle_bypass normal]
    | true =>
      cases staged : s.rte.staged with
      | none =>
        cases filled : fillStaged s with
        | none => rwa [settle_unfilled normal staged filled]
        | some t =>
          rw [settle_fills normal staged filled]
          exact ih _ (fill s t holds staged filled)
      | some o =>
        by_cases free : s.rte.active = none
        · cases promoted : s.promotable o with
          | true =>
            rw [settle_starts normal staged free promoted]
            exact ih _ (start s o holds staged free)
          | false =>
            by_cases room : s.rte.deferred.length < 8
            · rw [settle_defers normal staged free promoted room]
              exact ih _ (defers s o holds staged)
            · rwa [settle_full normal staged free promoted (Nat.not_lt.mp room)]
        · rwa [settle_waits normal staged free]

/-- An order deferred on PROGRAM stays in the Deferred List while the tallies stand (R99). -/
theorem settle_keeps_deferred (n : Nat) (s : State) (holds : s.onAir o.link = true ∧ o ∈ s.rte.deferred) :
    (settle n s).onAir o.link = true ∧ o ∈ (settle n s).rte.deferred := by
  refine settle_keeps (P := fun s => s.onAir o.link = true ∧ o ∈ s.rte.deferred) ?_ ?_ ?_ n s holds
  · rintro s t ⟨onAir, mem⟩ - filled
    refine ⟨(onAir_of_inner (fillStaged_inner filled) _).trans onAir, ?_⟩
    rcases fillStaged_standing filled with ⟨x, -, offAir, left⟩ | ⟨k, r, -, left⟩
    · rw [show t.rte.deferred = _ from congrArg Standing.deferred left]
      refine List.mem_filter.mpr ⟨mem, decide_eq_true fun same => ?_⟩
      rw [← same, onAir] at offAir
      cases offAir
    · rw [show t.rte.deferred = _ from congrArg Standing.deferred left]
      exact mem
  · rintro s x ⟨onAir, mem⟩ - -
    refine ⟨(onAir_of_inner (startOrder_inner x s) _).trans onAir, ?_⟩
    rw [(startOrder_records x s).2.2.1]
    exact mem
  · rintro s x ⟨onAir, mem⟩ -
    exact ⟨onAir, List.mem_append_left _ mem⟩

/-- A started order keeps its place and its phase while no want of its link is taken (R99). -/
theorem settle_keeps_started {k : LinkId} (n : Nat) (s : State) (holds : s.startedFor k ∧ s.want k = none) :
    (settle n s).startedFor k ∧ (settle n s).want k = none := by
  refine settle_keeps (P := fun s => s.startedFor k ∧ s.want k = none) ?_ ?_ ?_ n s holds
  · rintro s t ⟨started, unwanted⟩ - filled
    unfold fillStaged at filled
    split at filled
    · cases filled
      exact ⟨started, unwanted⟩
    · split at filled
      · next j r best =>
        cases filled
        have other : j ≠ k := fun same => by
          have wanted := want_of_bestWant best
          rw [same, unwanted] at wanted
          cases wanted
        obtain ⟨⟨a, active, isOrder⟩, phase⟩ := started
        obtain ⟨-, -, rte, lmn, -⟩ :=
          setPhase_leaves j .queued ((setWant j none s).onRte fun t => { t with staged := some (s.orderOf j r) })
        refine ⟨⟨⟨a, ?_, isOrder⟩, ?_⟩, ?_⟩
        · rw [rte]
          exact active
        · rw [link_setPhase, if_neg other]
          exact phase
        · rw [State.want, lmn]
          exact (rd_wr_ne _ _ _ _ other).trans unwanted
      · cases filled
  · rintro s x ⟨⟨⟨a, active, -⟩, -⟩, -⟩ - free
    rw [active] at free
    cases free
  · rintro s x ⟨started, unwanted⟩ -
    exact ⟨started, unwanted⟩

/-! ## The settling from a staged or an empty slot -/

/-- With one round that acts and rest after it, the settling is that round (R99, R100). -/
theorem rteSettle_rests (normal : s.normal = true) (rests : s.rests) : rteSettle s = s := settle_of_rests normal rests 24

theorem fillStaged_deferred {pre post : List Order} (deferred : s.rte.deferred = pre ++ o :: post)
    (distinct : ((pre ++ o :: post).map (·.link)).Nodup) (onAir : ∀ x ∈ pre, s.onAir x.link = true) (offAir : s.onAir o.link = false) :
    fillStaged s = some (s.onRte fun r => { r with staged := some o, deferred := pre ++ post }) := by
  have found : s.eligibleDeferred = some o := by
    have none : pre.find? (fun x => !s.onAir x.link) = none := List.find?_eq_none.mpr fun x mem => by simp [onAir x mem]
    rw [State.eligibleDeferred, deferred, List.find?_append, none, Option.none_or, List.find?_cons_of_pos (by simp [offAir])]
  rw [List.map_append, List.map_cons, List.nodup_append, List.nodup_cons] at distinct
  obtain ⟨-, ⟨notAfter, -⟩, apart⟩ := distinct
  have left : s.rte.deferred.filter (fun d => d.link ≠ o.link) = pre ++ post := by
    rw [deferred, List.filter_append, List.filter_cons_of_neg (by simp)]
    congr 1
    · refine List.filter_eq_self.mpr fun x mem => ?_
      simpa using apart x.link (List.mem_map_of_mem mem) o.link List.mem_cons_self
    · refine List.filter_eq_self.mpr fun x mem => ?_
      have other : x.link ≠ o.link := fun same => notAfter (same ▸ List.mem_map_of_mem mem)
      simpa using other
  simp only [fillStaged, found, Option.some.injEq]
  rw [← left]
  rfl

theorem fillStaged_want {k : LinkId} {r : Reason} (onAir : ∀ x ∈ s.rte.deferred, s.onAir x.link = true)
    (best : s.bestWant = some (k, r)) : fillStaged s =
      some (setPhase k .queued ((setWant k none s).onRte fun t => { t with staged := some (s.orderOf k r) })) := by
  simp only [fillStaged, eligibleDeferred_none.mpr onAir, best]

/-- After a start with no candidate left the settling rests (R99). -/
theorem startOrder_rests (onAir : ∀ x ∈ s.rte.deferred, s.onAir x.link = true) (unwanted : ∀ k, s.want k = none) :
    (startOrder o s).rests := by
  obtain ⟨empty, -, deferred, lmn⟩ := startOrder_records o s
  refine ⟨fun _ => fillStaged_none_iff.mpr ⟨fun x mem => ?_, fun k => ?_⟩, fun x staged => ?_⟩
  · rw [deferred] at mem
    rw [onAir_of_inner (startOrder_inner o s)]
    exact onAir x mem
  · rw [State.want, lmn]
    exact unwanted k
  · rw [empty] at staged
    cases staged

theorem rteSettle_starts (normal : s.normal = true) (free : s.rte.active = none) (staged : s.rte.staged = some o)
    (promoted : s.promotable o = true) (onAir : ∀ x ∈ s.rte.deferred, s.onAir x.link = true) (unwanted : ∀ k, s.want k = none) :
    rteSettle s = startOrder o s :=
  (settle_starts normal staged free promoted).trans
    (settle_of_rests ((normal_of_inner (startOrder_inner o s)).trans normal) (startOrder_rests onAir unwanted) 23)

theorem rteSettle_defers (normal : s.normal = true) (free : s.rte.active = none) (staged : s.rte.staged = some o)
    (stays : s.promotable o = false) (room : s.rte.deferred.length < 8) (onAir : ∀ x ∈ s.rte.deferred, s.onAir x.link = true)
    (unwanted : ∀ k, s.want k = none) : rteSettle s = deferOrder o s := by
  have normalAfter : (deferOrder o s).normal = true := (normal_of_inner (note_inner _ _ _)).trans normal
  refine (settle_defers normal staged free stays room).trans (settle_of_rests normalAfter ⟨fun _ => ?_, fun x staged => ?_⟩ 23)
  · refine fillStaged_none_iff.mpr ⟨fun x mem => ?_, unwanted⟩
    rcases List.mem_append.mp mem with earlier | last
    · exact onAir x earlier
    · rw [List.mem_singleton.mp last]
      exact (promotable_false.mp stays).1
  · have empty : (deferOrder o s).rte.staged = none := rfl
    rw [empty] at staged
    cases staged

theorem orderOf_eq (s : State) (k : LinkId) (reason : Reason) : s.orderOf k reason =
    { link := k
      target := if reason = .verify then
          (match (s.link k).carrier.channel with | some n => .channel n | none => .off) else .spare
      reason := reason, force := reason = .verify && (s.link k).carrier.forced, chosen := none, previous := none
      nodes := [], tag := none, confirms := 0, snapGen := none, cause := none } := by
  cases reason with
  | verify => rfl
  | health => rfl
  | rescue => rfl
  | operator => rfl

theorem requestRte_idle {r : RteRequest} (normal : s.normal = true) (free : s.cpl.active = none) :
    requestRte r s = beginOp (.rte r) s := if_pos (by simp [State.plannerFree, normal, free])

theorem requestRte_waits {r : RteRequest} (busy : s.cpl.active ≠ none) :
    requestRte r s = { s with cpl := { s.cpl with rtePlace := some r } } := if_neg (by simp [State.plannerFree, busy])

end

/-- Settles O39. -/
theorem stagedSlotAndPromotion : Obligations.StagedSlotAndPromotion := by
  intro s
  refine ⟨fun bypass => settle_bypass (by simp [State.normal, bypass]) 24, fun mode => ?_⟩
  have normal : s.normal = true := normal_iff.mpr mode
  refine ⟨fun a o active staged => ?_, fun a pre o post active empty deferred distinct onAir offAir => ?_,
    fun a k reason active empty onAir want first => ?_, fun empty onAir unwanted => ?_,
    fun o u free staged onAir unwanted isPromoting => ⟨fun program notRescue unforced room => ?_, fun may => ?_⟩,
    fun r => ⟨requestRte_idle normal, requestRte_waits⟩, orderOf_eq s,
    fun o free staged unwanted => ⟨fun program notRescue unforced => ⟨fun full => ?_, fun room => ?_⟩, fun may => ?_⟩⟩
  · exact settle_waits normal staged (by simp [active])
  · refine (settle_fills normal empty (fillStaged_deferred deferred distinct onAir offAir)).trans
      (settle_waits (o := o) (n := 22) normal rfl ?_)
    exact fun free => nomatch active.symm.trans free
  · have filled := fillStaged_want onAir (bestWant_first want first)
    obtain ⟨-, -, rte, -⟩ :=
      setPhase_leaves k .queued ((setWant k none s).onRte fun t => { t with staged := some (s.orderOf k reason) })
    refine (settle_fills normal empty filled).trans (settle_waits (o := s.orderOf k reason) (n := 22) ?_ ?_ ?_)
    · exact (normal_of_inner (fillStaged_inner filled)).trans normal
    · rw [rte]
      rfl
    · rw [rte]
      exact fun free => nomatch active.symm.trans free
  · exact rteSettle_rests normal ⟨fun _ => fillStaged_none_iff.mpr ⟨onAir, unwanted⟩, fun o staged => by
      rw [empty] at staged
      cases staged⟩
  · exact rteSettle_defers normal free staged (promotable_false.mpr ⟨program, notRescue, unforced⟩) room onAir unwanted
  · rw [rteSettle_starts normal free staged (promotable_iff.mpr may) onAir unwanted, isPromoting]
    exact ⟨fun n verify target => startOrder_verify verify target, startOrder_off,
      startOrder_spare, fun n other target => startOrder_channel other target⟩
  · exact settle_full normal staged free (promotable_false.mpr ⟨program, notRescue, unforced⟩) full
  · have round : rteSettle s = settle 23 (deferOrder o s) :=
      settle_defers normal staged free (promotable_false.mpr ⟨program, notRescue, unforced⟩) room
    have listed : o ∈ (deferOrder o s).rte.deferred := List.mem_append_right s.rte.deferred (List.mem_singleton_self o)
    rw [round]
    exact (settle_keeps_deferred 23 (deferOrder o s) ⟨program, listed⟩).2
  · have round : rteSettle s = settle 23 (startOrder o s) := settle_starts normal staged free (promotable_iff.mpr may)
    have noWant : (startOrder o s).want o.link = none := by
      rw [State.want, (startOrder_records o s).2.2.2]
      exact unwanted
    rw [round]
    obtain ⟨⟨⟨a, active, link, confirms⟩, phase⟩, -⟩ := settle_keeps_started 23 _ ⟨startOrder_starts o s, noWant⟩
    exact ⟨a, active, link, confirms, phase⟩

end Sys2Proof.Machine
end

section
/-! Proofs of the operator's orders: MOVE_LINK, RELEASE_LINK and CANCEL_MOVE (R112, R113, R114). -/

namespace Sys2Proof.Machine

/-! ## MOVE_LINK and RELEASE_LINK (R112, R113) -/

theorem ofLength_carried {n : Nat} {f : Request} {p : List Byte} {s : State} (length : p.length = n) :
    ofLength n f p s = f p s := if_pos length

/-- What both requests come to for a link: the tests in their order, and the staged order (R112, R113). -/
def operatorRequest (k : LinkId) (target : Target) (force : Bool) (s : State) : Reply :=
  if (s.link k).cfg.inUse = false then refuse .noSuch s
  else if s.mgr.locked = true then refuse .locked s
  else if target = .off ∧ (s.link k).carrier.state = .none then refuse .noSuch s
  else if s.targetInBand k target = false then refuse .range s
  else match operatorTests k force s with
    | some st => refuse st s
    | none => accept (stageOrder (Order.fresh k target .operator force) s)

section
variable {k : LinkId} {l t1 t0 force : Byte} {s : State}

theorem moveLink_noSuch {p : List Byte} (above : 64 ≤ l.toNat) : moveLink (l :: p) s = refuse .noSuch s := by
  unfold moveLink
  rw [show finField 64 (at0 (l :: p) 0).toNat = none from finField_none above]

theorem releaseLink_noSuch {p : List Byte} (above : 64 ≤ l.toNat) : releaseLink (l :: p) s = refuse .noSuch s := by
  unfold releaseLink
  rw [show finField 64 (at0 (l :: p) 0).toNat = none from finField_none above]

theorem moveLink_link (named : l.toNat = k.val) : moveLink [l, t1, t0, force] s =
    operatorRequest k (if u16 t1 t0 = 0xFFFE then .spare else .channel (u16 t1 t0)) (force ≠ 0) s := by
  have notOff : moveTarget (u16 t1 t0) ≠ .off := by
    unfold moveTarget
    split
    · exact nofun
    · exact nofun
  unfold moveLink
  rw [show finField 64 (at0 [l, t1, t0, force] 0).toNat = some k from finField_some named]
  show _ = operatorRequest k (moveTarget (u16 t1 t0)) (force ≠ 0) s
  simp only [operatorRequest, notOff, false_and, if_false, Bool.not_eq_true']
  rfl

theorem releaseLink_link (named : l.toNat = k.val) : releaseLink [l, force] s = operatorRequest k .off (force ≠ 0) s := by
  unfold releaseLink
  rw [show finField 64 (at0 [l, force] 0).toNat = some k from finField_some named]
  simp only [operatorRequest, true_and, Bool.not_eq_true', State.targetInBand, Bool.true_eq_false, if_false]
  rfl

variable {target : Target} {forced : Bool}

theorem operatorRequest_unused (unused : (s.link k).cfg.inUse = false) : operatorRequest k target forced s = refuse .noSuch s :=
  if_pos unused

variable (used : (s.link k).cfg.inUse = true)
include used

theorem operatorRequest_locked (locked : s.mgr.locked = true) : operatorRequest k target forced s = refuse .locked s :=
  (if_neg (by simp [used])).trans (if_pos locked)

variable (unlocked : s.mgr.locked = false)
include unlocked

theorem operatorRequest_tests : operatorRequest k target forced s =
    if target = .off ∧ (s.link k).carrier.state = .none then refuse .noSuch s
    else if s.targetInBand k target = false then refuse .range s
    else match operatorTests k forced s with
      | some st => refuse st s
      | none => accept (stageOrder (Order.fresh k target .operator forced) s) :=
  (if_neg (by simp [used])).trans (if_neg (by simp [unlocked]))

theorem operatorRequest_noCarrier (off : target = .off) (none : (s.link k).carrier.state = .none) :
    operatorRequest k target forced s = refuse .noSuch s :=
  (operatorRequest_tests used unlocked).trans (if_pos ⟨off, none⟩)

theorem operatorRequest_range {n : Nat} (channel : target = .channel n)
    (outside : (s.band (s.link k).cfg.band).count ≤ n ∨ (s.band (s.link k).cfg.band).enabled = false) :
    operatorRequest k target forced s = refuse .range s := by
  subst channel
  refine (operatorRequest_tests used unlocked).trans ((if_neg nofun).trans (if_pos ?_))
  exact Bool.and_eq_false_iff.mpr (outside.imp (fun far => decide_eq_false (Nat.not_lt.mpr far)) id)

variable (carried : target = .off → (s.link k).carrier.state ≠ .none)
  (inside : ∀ n, target = .channel n → n < (s.band (s.link k).cfg.band).count ∧ (s.band (s.link k).cfg.band).enabled = true)
include carried inside

theorem operatorRequest_fits : operatorRequest k target forced s =
    match operatorTests k forced s with
    | some st => refuse st s
    | none => accept (stageOrder (Order.fresh k target .operator forced) s) := by
  refine (operatorRequest_tests used unlocked).trans ((if_neg fun ⟨off, absent⟩ => carried off absent).trans (if_neg ?_))
  cases target with
  | off => exact nofun
  | spare => exact nofun
  | channel n =>
    obtain ⟨below, enabled⟩ := inside n rfl
    simp [State.targetInBand, State.bandOf, below, enabled]

theorem operatorRequest_refused {st : RspStatus} (tests : operatorTests k forced s = some st) :
    operatorRequest k target forced s = refuse st s :=
  (operatorRequest_fits used unlocked carried inside).trans (by rw [tests])

theorem operatorRequest_accepted (tests : operatorTests k forced s = none) :
    operatorRequest k target forced s = accept (stageOrder (Order.fresh k target .operator forced) s) :=
  (operatorRequest_fits used unlocked carried inside).trans (by rw [tests])

end

section
variable {k : LinkId} {force : Byte} {s : State}

theorem operatorTests_busy {forced : Bool} (holds : s.rte.holds k = true) : operatorTests k forced s = some .busy := if_pos holds

variable (free : s.rte.holds k = false)
include free

theorem operatorTests_onAir (onAir : (s.link k).tally.program = true) : operatorTests k false s = some .onAir :=
  (if_neg (by simp [free])).trans (if_pos (by simp [State.onAir, onAir]))

variable {forced : Bool} (may : (s.link k).tally.program = false ∨ forced = true)
include may

theorem operatorTests_full (staged : s.rte.staged ≠ none) : operatorTests k forced s = some .full := by
  refine (if_neg (by simp [free])).trans ((if_neg ?_).trans (if_pos (Option.isSome_iff_ne_none.mpr staged)))
  rcases may with off | forced
  · simp [State.onAir, off]
  · simp [forced]

theorem operatorTests_passed (empty : s.rte.staged = none) : operatorTests k forced s = none := by
  refine (if_neg (by simp [free])).trans ((if_neg ?_).trans (if_neg (by simp [empty])))
  rcases may with off | forced
  · simp [State.onAir, off]
  · simp [forced]

end

theorem stageOrder_entry (o : Order) (s : State) : (stageOrder o s).rif.entry = s.rif.entry := by
  have inner : Inner (setPhase o.link .queued ((setWant o.link none s).onRte fun r => { r with staged := some o }))
      (stageOrder o s) := settle_inner _ _
  rw [inner.rif, (setPhase_inner _ _ _).rif]
  rfl

/-- Settles O37. -/
theorem operatorOrdersStaged : Obligations.OperatorOrdersStaged := by
  intro h c code l force p k target s taken which
  obtain ⟨f, executed, noSuch, asked⟩ : ∃ f : Request, exec c s = .next (receiveCmd h code p (answered code f) s)
      ∧ (64 ≤ l.toNat → f p s.handed = refuse .noSuch s.handed)
      ∧ (l.toNat = k.val → f p s.handed = operatorRequest k target (force ≠ 0) s.handed) := by
    rcases which with ⟨t1, t0, rfl, rfl, rfl, rfl⟩ | ⟨rfl, rfl, rfl, rfl⟩
    · exact ⟨ofLength 4 moveLink, rfl, fun above => (ofLength_carried rfl).trans (moveLink_noSuch above),
        fun named => (ofLength_carried rfl).trans (moveLink_link named)⟩
    · exact ⟨ofLength 2 releaseLink, rfl, fun above => (ofLength_carried rfl).trans (releaseLink_noSuch above),
        fun named => (ofLength_carried rfl).trans (releaseLink_link named)⟩
  have refused {st : RspStatus} (rule : f p s.handed = refuse st s.handed) : exec c s = .next (reply h code st [] s.handed) :=
    executed.trans (congrArg _ (receiveCmd_refused taken rule))
  refine ⟨fun above => refused (noSuch above), fun named => ?_⟩
  have rule := asked named
  refine ⟨fun unused => refused (rule.trans (operatorRequest_unused unused)),
    fun used locked => refused (rule.trans (operatorRequest_locked used locked)),
    fun used unlocked => ⟨fun off none => refused (rule.trans (operatorRequest_noCarrier used unlocked off none)),
      fun n channel outside => refused (rule.trans (operatorRequest_range used unlocked channel outside)),
      fun carried inside => ⟨fun holds => ?_, fun free => ⟨fun onAir unforced => ?_, fun may => ?_⟩⟩⟩⟩
  · exact refused (rule.trans (operatorRequest_refused (s := s.handed) used unlocked carried inside (operatorTests_busy holds)))
  · subst unforced
    exact refused (rule.trans (operatorRequest_refused (s := s.handed) used unlocked carried inside
      (operatorTests_onAir (s := s.handed) free onAir)))
  · have passes : (s.handed.link k).tally.program = false ∨ decide (force ≠ 0) = true := may.imp id decide_eq_true
    refine ⟨fun staged => refused (rule.trans (operatorRequest_refused (s := s.handed) used unlocked carried inside
      (operatorTests_full (s := s.handed) free passes staged))), fun empty => ?_⟩
    have accepted := rule.trans (operatorRequest_accepted (s := s.handed) used unlocked carried inside
      (operatorTests_passed (s := s.handed) free passes empty))
    have replied := receiveCmd_replies taken accepted
      (stageOrder_entry (Order.fresh k target .operator (decide (force ≠ 0))) s.handed)
    exact executed.trans (congrArg Host.Outcome.next replied)

/-! ## CANCEL_MOVE (R114) -/

section
variable {l : Byte} {k : LinkId} {s : State}

theorem cancelMove_noSuch (above : 64 ≤ l.toNat) : cancelMove [l] s = refuse .noSuch s := by
  unfold cancelMove
  rw [show finField 64 (at0 [l] 0).toNat = none from finField_none above]

theorem any_active_iff : (s.rte.active.any fun o => o.link = k) = true ↔ ∃ o, s.rte.active = some o ∧ o.link = k := by
  cases s.rte.active <;> simp

variable (named : l.toNat = k.val)
include named

theorem cancelMove_link : cancelMove [l] s =
    if (s.rte.active.any fun o => o.link = k) = true then
      if (s.link k).carrier.phase = .checking then accept (rteSettle (withdrawRequest (phaseReport k (leaveActive k s))))
      else refuse .busy s
    else if s.rte.holds k then accept (rteSettle (removeWaiting k s)) else refuse .noSuch s := by
  unfold cancelMove
  rw [show finField 64 (at0 [l] 0).toNat = some k from finField_some named]

theorem cancelMove_absent (free : s.rte.holds k = false) : cancelMove [l] s = refuse .noSuch s := by
  have inactive : ¬(s.rte.active.any fun o => o.link = k) = true := fun active => by
    obtain ⟨o, isActive, link⟩ := (any_active_iff (s := s)).mp active
    have holds : s.rte.holds k = true := List.any_eq_true.mpr ⟨o, by simp [Rte.orders, isActive], decide_eq_true link⟩
    rw [free] at holds
    cases holds
  rw [cancelMove_link named, if_neg inactive, free]
  rfl

section
variable {o : Order} (active : s.rte.active = some o) (link : o.link = k)
include active link

theorem cancelMove_busy (later : (s.link k).carrier.phase ≠ .checking) : cancelMove [l] s = refuse .busy s := by
  rw [cancelMove_link named, if_pos (by simp [active, link]), if_neg later]

theorem cancelMove_checking (checking : (s.link k).carrier.phase = .checking) : cancelMove [l] s =
    accept (rteSettle (withdrawRequest (setPhase k .idle (s.onRte fun r => { r with active := none })))) := by
  rw [cancelMove_link named, if_pos (by simp [active, link]), if_pos checking]
  rfl

end

theorem cancelMove_waiting (inactive : ∀ o, s.rte.active = some o → o.link ≠ k) (holds : s.rte.holds k = true) :
    cancelMove [l] s = accept (rteSettle (removeWaiting k s)) := by
  have notActive : ¬(s.rte.active.any fun o => o.link = k) = true := fun active => by
    obtain ⟨o, isActive, link⟩ := any_active_iff.mp active
    exact inactive o isActive link
  rw [cancelMove_link named, if_neg notActive, if_pos holds]

end

theorem withdrawRequest_waiting {s : State} (waits : s.cpl.rtePlace ≠ none) :
    withdrawRequest s = { s with cpl := { s.cpl with rtePlace := none } } :=
  if_pos (Option.isSome_iff_ne_none.mpr waits)

theorem withdrawRequest_running {s : State} {op : ActiveOp} (empty : s.cpl.rtePlace = none) (active : s.cpl.active = some op)
    (origin : op.origin = .retune) : withdrawRequest s = { s with rte := { s.rte with owed := true } } := by
  have emptyPlace : ¬s.cpl.rtePlace.isSome = true := by simp [empty]
  rw [withdrawRequest, if_neg emptyPlace, active]
  exact if_pos origin

/-- Settles O38. -/
theorem cancelMoveWithdraws : Obligations.CancelMoveWithdraws := by
  intro h l k s taken
  have refused {st : RspStatus} (rule : cancelMove [l] s.handed = refuse st s.handed) :
      exec (.cancelMove h [l]) s = .next (reply h Req.cancelMove st [] s.handed) :=
    congrArg _ (receiveCmd_refused (f := ofLength 1 cancelMove) taken rule)
  have accepted {t : State} (rule : cancelMove [l] s.handed = accept t) (inner : Inner s.handed t) :
      exec (.cancelMove h [l]) s = .next (reply h Req.cancelMove .ok [] t) :=
    congrArg _ (receiveCmd_replies (f := ofLength 1 cancelMove) taken rule (by rw [inner.rif]; rfl))
  refine ⟨fun above => refused (cancelMove_noSuch above), fun named => ⟨fun free => refused (cancelMove_absent named free),
    fun o active link later => refused (cancelMove_busy (s := s.handed) named active link later),
    fun o active link checking idle isIdle => ?_, fun inactive holds => ?_⟩⟩
  · have rule := cancelMove_checking (s := s.handed) named active link checking
    obtain ⟨-, cpl, rte, -⟩ := setPhase_leaves k .idle (s.handed.onRte fun r => { r with active := none })
    have inner := cancelMove_inner [l] s.handed
    rw [rule] at inner
    have left : setPhase k .idle (s.handed.onRte fun r => { r with active := none }) = idle := isIdle.symm
    rw [left] at rule inner cpl rte
    refine ⟨fun waits => ?_, fun op empty isActive origin => ?_⟩
    · have withdrawn := withdrawRequest_waiting (s := idle) (by rw [cpl]; exact waits)
      rw [withdrawn] at rule inner
      rw [← show idle.cpl = s.cpl from cpl]
      exact accepted rule inner
    · have withdrawn := withdrawRequest_running (s := idle) (by rw [cpl]; exact empty) (by rw [cpl]; exact isActive) origin
      rw [withdrawn, rte] at rule inner
      exact accepted rule inner
  · have rule := cancelMove_waiting (s := s.handed) named inactive holds
    have inner := cancelMove_inner [l] s.handed
    rw [rule] at inner
    exact accepted rule inner

end Sys2Proof.Machine
end

section
/-! Proofs of the ends of a tuning exchange: commit, failure and revert (R108 to R111). -/

namespace Sys2Proof.Machine

/-! ## A note stands, or is lost at a full queue (R169, R187) -/

section
variable {s : State}

theorem note_stands (kind : NoteKind) (fields : List Byte) (node : s.mgr.settings.reportNode ≠ 0) (normal : s.rif.mode = .normal) :
    { cls := .note, frame := { kind := Kind.note, dst := s.mgr.settings.reportNode, src := s.rif.node,
                               payload := kind.code :: fields } } ∈ (note kind fields s).rif.ctlQ
      ∨ (24 ≤ (note kind fields s).rif.ctlQ.length ∧ (note kind fields s).rif.notesLost = true) := by
  rw [note_formed kind fields node normal]
  by_cases room : s.rif.ctlQ.length < 24
  · rw [admitNote_below room]
    exact .inl (List.mem_append_right _ (List.mem_singleton_self _))
  · rw [admitNote_full (Nat.not_lt.mp room)]
    exact .inr ⟨Nat.not_lt.mp room, rfl⟩

theorem admitNote_leaves (r : Rif) (f : Frame) :
    r.admitNote f = { r with ctlQ := (r.admitNote f).ctlQ, notesLost := (r.admitNote f).notesLost } := by
  unfold Rif.admitNote
  split
  · rfl
  · rfl

theorem note_leaves (kind : NoteKind) (fields : List Byte) (s : State) : note kind fields s = { s with
    rif := { s.rif with ctlQ := (note kind fields s).rif.ctlQ, notesLost := (note kind fields s).rif.notesLost } } := by
  unfold note
  split
  · exact congrArg (fun r => { s with rif := r }) (admitNote_leaves s.rif (s.noteFrame kind fields))
  · rfl

theorem healthLamp_leaves (k : LinkId) (old new : Health) (s : State) : healthLamp k old new s = { s with
    lmp := { s.lmp with pending := (healthLamp k old new s).lmp.pending } } := by
  unfold healthLamp lampPend State.onLmp
  split
  · simp only
    split
    · rfl
    · rfl
  · rfl

/-! ## The refill flag of a commit (R41, R52) -/

theorem opOf_snapshot (s : State) (w : Work) : (s.opOf w).snap = s.snapshot (s.opOf w).band := by
  cases w with
  | rte r => rfl
  | mgr r =>
    unfold State.opOf
    simp only
    split
    · rfl
    · rfl
  | refill b => rfl

/-- The band is flagged for a REFILL, or its REFILL is active (R41). -/
def State.refillDue (s : State) (b : BandId) : Prop :=
  rd s.cpl.flags b = true ∨ ∃ op, s.cpl.active = some op ∧ op.kind = .refill ∧ op.band = b.val

/-- Work that begins leaves a band's flag, or it is the REFILL of the band (R43). -/
theorem startFlags_keeps (op : ActiveOp) {flags : Vector Bool 4} {b : BandId} (flagged : rd flags b = true) :
    rd (op.startFlags flags) b = true ∨ (op.kind = .refill ∧ op.band = b.val) := by
  unfold ActiveOp.startFlags
  split
  · next b' kind named =>
    by_cases same : b' = b
    · subst same
      exact .inr ⟨kind, (val_eq_iff_finField.mpr named).symm⟩
    · exact .inl ((rd_wr_ne _ _ _ _ same).trans flagged)
  · exact .inl flagged

/-- The REFILL of an enabled band does not end at once (R47). -/
theorem endsAtOnce_enabled {w : Work} {b : BandId} (band : (s.opOf w).band = b.val) (enabled : (s.band b).enabled = true) :
    (s.opOf w).endsAtOnce = false := by
  have opened : (s.opOf w).snap.openBand = some (s.band b) := by
    rw [opOf_snapshot, band, openBand_eq_some_iff]
    refine ⟨?_, enabled⟩
    rw [State.snapshot, finField_val]
    rfl
  simp [ActiveOp.endsAtOnce, opened]

theorem arbitrate_refillDue (n : Nat) : ∀ (s : State) {b : BandId}, rd s.cpl.flags b = true → (s.band b).enabled = true →
    (arbitrate n s).refillDue b := by
  induction n with
  | zero => exact fun s b flagged _ => .inl flagged
  | succ n ih =>
    intro s b flagged enabled
    unfold arbitrate
    split
    · exact .inl flagged
    · next w c next =>
      have sameFlags : c.flags = s.cpl.flags := by
        unfold Cpl.nextWork at next
        split at next
        · cases next
          rfl
        · split at next
          · cases next
            rfl
          · obtain ⟨_, -, same⟩ := Option.map_eq_some_iff.mp next
            cases same
            rfl
      have begun : (beginOp w (s.onCpl fun _ => c)).cpl.active = some ((s.onCpl fun _ => c).opOf w) := rfl
      have keeps := startFlags_keeps ((s.onCpl fun _ => c).opOf w) (flags := c.flags) (by rw [sameFlags]; exact flagged)
      have due : (beginOp w (s.onCpl fun _ => c)).refillDue b :=
        keeps.imp id fun ⟨kind, band⟩ => ⟨_, begun, kind, band⟩
      simp only [begun]
      split
      · next ends =>
        refine ih _ ?_ ?_
        · rw [answerOp_cpl]
          refine keeps.resolve_right fun ⟨_, band⟩ => ?_
          rw [endsAtOnce_enabled (s := s.onCpl fun _ => c) band enabled] at ends
          cases ends
        · have bands : (answerOp ((s.onCpl fun _ => c).opOf w) .range [] (beginOp w (s.onCpl fun _ => c))).plan = s.plan :=
            congrArg Prod.fst ((answerOp_ledger _ _ _ _).trans (beginOp_ledger _ _))
          rw [State.band, bands]
          exact enabled
      · exact due

theorem setRefillFlag_due {b : BandId} (enabled : (s.band b).enabled = true) : (setRefillFlag b s).refillDue b := by
  have flagged : rd (s.onCpl fun c => { c with flags := wr c.flags b true }).cpl.flags b = true := rd_wr_same _ _ _
  unfold setRefillFlag
  simp only
  split
  · exact arbitrate_refillDue 8 _ flagged enabled
  · exact .inl flagged

/-! ## A carrier that leaves the exchange -/

/-- A link's carrier changed and its order ended, with the generation (R108 to R110). -/
def State.vacated (s : State) (k : LinkId) (f : LinkCarrier → LinkCarrier) : State :=
  (leaveActive k (s.onCarrier k f)).advanceGen

section
variable (k : LinkId) (f : LinkCarrier → LinkCarrier) (s : State)

theorem vacated_eq : s.vacated k f = { s with plan := (s.vacated k f).plan, rte := { s.rte with active := none } } := rfl

theorem link_vacated (j : LinkId) : (s.vacated k f).link j =
    if k = j then { s.link k with carrier := { f (s.link k).carrier with phase := .idle } } else s.link j := by
  refine (link_onLink (s.onCarrier k f) k j fun l => { l with carrier := { l.carrier with phase := .idle } }).trans ?_
  rw [State.onCarrier, link_onLink, link_onLink, if_pos rfl]
  split
  · rfl
  · rfl

theorem vacated_plan : (s.vacated k f).plan.gen = s.plan.gen + 1 ∧ (s.vacated k f).plan.bands = s.plan.bands
    ∧ (s.vacated k f).plan.windows = s.plan.windows := ⟨rfl, rfl, rfl⟩

theorem band_vacated (b : BandId) : (s.vacated k f).band b = s.band b := rfl

end

/-- OWN marks that were recomputed stand while only the sweep and the planner work and the healths change. -/
theorem ownMarked_through {s u v : State} {b : BandId} {spans : List Span}
    (marked : s.ownMarked (ownRecompute b (touching spans) u) b spans)
    (own : ∀ j, (rd (rd v.swp.cells b) j).state = .own ↔ (rd (rd (ownRecompute b (touching spans) u).swp.cells b) j).state = .own)
    (bands : v.plan.bands = u.plan.bands)
    (links : ∀ j, (v.link j).cfg = (u.link j).cfg ∧ (v.link j).carrier = (u.link j).carrier)
    (active : v.rte.active.map (fun o => (o.link, o.chosen)) = u.rte.active.map fun o => (o.link, o.chosen)) :
    s.ownMarked v b spans := by
  have rest := ownRecompute_aside u b (touching spans)
  refine marked.congr rfl rfl own ?_
  rw [rest.plan, rest.rte]
  exact (bandCarriers_batched active).trans (bandCarriers_congr bands links)

end

/-! ## Reports at the end of an exchange -/

/-- A note and the report of the phase: the queue, the mixes and the lamps (R98, R187). -/
theorem notedReport_leaves (k : LinkId) (kind : NoteKind) (fields : List Byte) (s : State) :
    phaseReport k (note kind fields s) = { s with
      rif := { s.rif with
        ctlQ := (note kind fields s).rif.ctlQ, notesLost := (note kind fields s).rif.notesLost
        voiceQ := (phaseReport k (note kind fields s)).rif.voiceQ }
      lmp := { s.lmp with pending := (phaseReport k (note kind fields s)).lmp.pending } } := by
  have reported := phaseReport_leaves k (note kind fields s)
  have noted := note_leaves kind fields s
  revert reported
  generalize (phaseReport k (note kind fields s)).rif.voiceQ = voice
  generalize (phaseReport k (note kind fields s)).lmp.pending = pend
  intro reported
  refine reported.trans ?_
  generalize note kind fields s = t at noted ⊢
  generalize t.rif.ctlQ = queue, t.rif.notesLost = lost at noted ⊢
  rw [noted]

theorem notedReport_keeps (k : LinkId) (kind : NoteKind) (fields : List Byte) (s : State) {t : State}
    (isReport : t = phaseReport k (note kind fields s)) : t.plan = s.plan ∧ t.rte = s.rte ∧ t.lmn = s.lmn ∧ t.cpl = s.cpl
      ∧ t.swp = s.swp ∧ t.rif.ctlQ = (note kind fields s).rif.ctlQ ∧ t.rif.notesLost = (note kind fields s).rif.notesLost := by
  have report := isReport.trans (notedReport_leaves k kind fields s)
  exact ⟨(congrArg State.plan report :), (congrArg State.rte report :), (congrArg State.lmn report :),
    (congrArg State.cpl report :), (congrArg State.swp report :), (congrArg (fun t => t.rif.ctlQ) report :),
    (congrArg (fun t => t.rif.notesLost) report :)⟩

theorem reportedNote_leaves (k : LinkId) (kind : NoteKind) (fields : List Byte) (s : State) :
    note kind fields (phaseReport k s) = { s with
      rif := { s.rif with
        ctlQ := (note kind fields (phaseReport k s)).rif.ctlQ, notesLost := (note kind fields (phaseReport k s)).rif.notesLost
        voiceQ := (phaseReport k s).rif.voiceQ }
      lmp := { s.lmp with pending := (phaseReport k s).lmp.pending } } := by
  have noted := note_leaves kind fields (phaseReport k s)
  have reported := phaseReport_leaves k s
  revert noted
  generalize (note kind fields (phaseReport k s)).rif.ctlQ = queue
  generalize (note kind fields (phaseReport k s)).rif.notesLost = lost
  intro noted
  refine noted.trans ?_
  generalize phaseReport k s = t at reported ⊢
  generalize t.rif.voiceQ = voice, t.lmp.pending = pend at reported ⊢
  rw [reported]

/-! ## Health at a commit and at a loss (R92, R93) -/

theorem link_onHealth (k j : LinkId) (f : LinkHealth → LinkHealth) (s : State) : (s.onHealth k f).link j =
    if k = j then { s.link k with health := f (s.link k).health } else s.link j := link_onLink s k j _

/-- A link's health after a commit to a channel (R92). -/
def LinkHealth.recommitted (silence : Nat) (h : LinkHealth) : LinkHealth :=
  { h with grade := .unknown, level := none, persist := 0, silence := some silence }

theorem healthCommit_eq (k : LinkId) (s : State) : ∃ pend, healthCommit k s =
    { s.onHealth k (LinkHealth.recommitted s.mgr.settings.meterSilence) with lmp := { s.lmp with pending := pend } } := by
  have reset : startSilence k (s.onHealth k fun h => { h with grade := .unknown, level := none, persist := 0 })
      = s.onHealth k (LinkHealth.recommitted s.mgr.settings.meterSilence) := by
    rw [startSilence, onHealth_onHealth]
    rfl
  refine ⟨(healthCommit k s).lmp.pending, ?_⟩
  unfold healthCommit
  rw [reset]
  exact healthLamp_leaves k _ _ _

theorem healthNone_eq (k : LinkId) (s : State) : ∃ pend, healthNone k s =
    { s.onHealth k LinkHealth.forgotten with
      lmn := { s.lmn with wants := wr s.lmn.wants k none }, lmp := { s.lmp with pending := pend } } :=
  ⟨(healthNone k s).lmp.pending, healthLamp_leaves k _ _ _⟩

/-! ## Commit (R108) -/

theorem spanOf_channels (s : State) (k : LinkId) (ch : Option Nat) : s.spanOf k ch =
    ch.toList.map fun n : Nat => (s.band (s.link k).cfg.band).channelSpan n (s.link k).cfg.width := by
  cases ch with
  | some n => rfl
  | none => rfl

/-- What a commit makes of the carrier (R108). -/
def Chosen.settled (c : Chosen) (force : Bool) (l : LinkCarrier) : LinkCarrier :=
  match c with
  | .channel n => { l with channel := some n, state := .committed, forced := force }
  | .off => { l with channel := none, state := .none, forced := false }

/-- The health that a commit leaves (R92, R93). -/
def Chosen.health (c : Chosen) (silence : Nat) : LinkHealth → LinkHealth :=
  match c with
  | .channel _ => LinkHealth.recommitted silence
  | .off => LinkHealth.forgotten

/-- The wants that a commit leaves (R93). -/
def Chosen.wants (c : Chosen) (k : LinkId) (l : Lmn) : Lmn :=
  match c with
  | .channel _ => l
  | .off => { l with wants := wr l.wants k none }

section
variable (o : Order) (c : Chosen) (s : State)

/-- The carrier settled, the order ended (R108). -/
def State.settling : State := (closeBatch s).vacated o.link (c.settled o.force)

/-- The spans over which a commit marks OWN: the old channel's and the new one's (R60). -/
def State.commitSpans : List Span := s.spanOf o.link (s.link o.link).carrier.channel ++ s.spanOf o.link c.channel?

/-- The OWN marks and the planner's report (R52, R60). -/
def State.planned : State :=
  planCommit (s.link o.link).cfg.band c.channel? (ownRecompute (s.link o.link).cfg.band (touching (s.commitSpans o c)) (s.settling o c))

/-- The health reported (R92, R93). -/
def State.graded : State :=
  match c with
  | .channel _ => healthCommit o.link (s.planned o c)
  | .off => healthNone o.link (s.planned o c)

theorem link_settling (j : LinkId) : (s.settling o c).link j = if o.link = j then
    { s.link o.link with carrier := { c.settled o.force (s.link o.link).carrier with phase := .idle } } else s.link j :=
  link_vacated o.link (c.settled o.force) (closeBatch s) j

theorem cfg_settling (j : LinkId) : ((s.settling o c).link j).cfg = (s.link j).cfg := by
  rw [link_settling]
  split
  · next same => rw [← same]
  · rfl

theorem planned_aside :
    Aside (remarkCells (s.link o.link).cfg.band (touching (s.commitSpans o c)) (s.settling o c)) (s.planned o c) :=
  (ownRecompute_aside _ _ _).trans (planCommit_aside _ _ _)

theorem planned_link (j : LinkId) : (s.planned o c).link j = (s.settling o c).link j := (planned_aside o c s).link j

theorem planned_inner : Inner s (s.planned o c) :=
  (((closeBatch_inner s).trans (Inner.onCarrier _ _)).trans ((leaveActive_inner _ _).trans Inner.advanceGen)).trans
    ((ownRecompute_inner _ _ _).trans (planCommit_inner _ _ _))

theorem graded_eq : ∃ pend, s.graded o c = { (s.planned o c).onHealth o.link (c.health s.mgr.settings.meterSilence) with
    lmn := c.wants o.link s.lmn, lmp := { (s.planned o c).lmp with pending := pend } } := by
  have lmn : (s.planned o c).lmn = s.lmn := (planned_aside o c s).lmn
  have settings : (s.planned o c).mgr.settings = s.mgr.settings := by rw [(planned_inner o c s).mgr]
  cases c with
  | channel n =>
    obtain ⟨pend, left⟩ := healthCommit_eq o.link (s.planned o (.channel n))
    refine ⟨pend, left.trans ?_⟩
    rw [settings, ← lmn]
    rfl
  | off =>
    obtain ⟨pend, left⟩ := healthNone_eq o.link (s.planned o .off)
    refine ⟨pend, left.trans ?_⟩
    rw [lmn]
    rfl

theorem graded_inner : Inner (s.planned o c) (s.graded o c) := by
  unfold State.graded
  split
  · exact healthCommit_inner _ _
  · exact healthNone_inner _ _

/-- The fields of the RETUNED note (R163). -/
def State.retunedFields : List Byte :=
  [byte o.link.val] ++ channelOrNone o.previous ++ channelOrNone c.channel?
    ++ [o.reason.code, onOff (match c with | .channel _ => o.force | .off => false)] ++ halfBytes (s.graded o c).plan.gen

/-- The state that a commit leaves, before the promotion test (R108). -/
def State.committed : State := phaseReport o.link (note .retuned (s.retunedFields o c) (s.graded o c))

theorem commit_eq : commit o c s = rteSettle (s.committed o c) := by
  have cfg := cfg_settling o c s o.link
  have spans : (s.settling o c).spanOf o.link c.channel? = s.spanOf o.link c.channel? := by
    rw [spanOf_eq, spanOf_eq, cfg]
    rfl
  have planned : s.planned o c = planCommit ((ownRecomputeLink o.link (s.spanOf o.link (s.link o.link).carrier.channel
      ++ (s.settling o c).spanOf o.link c.channel?) (s.settling o c)).bandOf o.link) c.channel?
      (ownRecomputeLink o.link (s.spanOf o.link (s.link o.link).carrier.channel
      ++ (s.settling o c).spanOf o.link c.channel?) (s.settling o c)) := by
    simp only [State.bandOf, ownRecomputeLink, ownRecompute_link, cfg, spans]
    rfl
  cases c with
  | channel n =>
    unfold State.committed State.retunedFields State.graded
    rw [planned]
    rfl
  | off =>
    unfold State.committed State.retunedFields State.graded
    rw [planned]
    rfl

theorem commitSpans_eq : s.commitSpans o c =
    ((s.link o.link).carrier.channel.toList ++ (match c with | .channel n => [n] | .off => [])).map fun n =>
      (s.band (s.link o.link).cfg.band).channelSpan n (s.link o.link).cfg.width := by
  rw [State.commitSpans, spanOf_channels, spanOf_channels, List.map_append]
  cases c with
  | channel n => rfl
  | off => rfl

theorem committed_inner : Inner s (s.committed o c) :=
  (((planned_inner o c s).trans (graded_inner o c s)).trans (note_inner _ _ _)).trans (phaseReport_inner _ _)

theorem committed_leaves : (s.committed o c).plan = (s.graded o c).plan ∧ (s.committed o c).rte = (s.settling o c).rte
    ∧ (s.committed o c).lmn = c.wants o.link s.lmn ∧ (s.committed o c).cpl = (s.planned o c).cpl
    ∧ (s.committed o c).swp = (s.planned o c).swp := by
  obtain ⟨plan, rte, lmn, cpl, swp, -⟩ := notedReport_keeps o.link .retuned (s.retunedFields o c) (s.graded o c) rfl
  obtain ⟨pend, graded⟩ := graded_eq o c s
  have sameRte : (s.planned o c).rte = (s.settling o c).rte := (planned_aside o c s).rte
  exact ⟨plan, (rte.trans (congrArg State.rte graded :)).trans sameRte, lmn.trans (congrArg State.lmn graded :),
    cpl.trans (congrArg State.cpl graded :), swp.trans (congrArg State.swp graded :)⟩

theorem gen_committed : (s.graded o c).plan.gen = s.plan.gen + 1 := by
  obtain ⟨pend, graded⟩ := graded_eq o c s
  rw [graded]
  exact congrArg Plan.gen (planned_aside o c s).plan

theorem link_committed (j : LinkId) : (s.committed o c).link j = if o.link = j then
    { s.link o.link with
      carrier := { c.settled o.force (s.link o.link).carrier with phase := .idle }
      health := c.health s.mgr.settings.meterSilence (s.link o.link).health } else s.link j := by
  obtain ⟨plan, -⟩ := committed_leaves o c s
  obtain ⟨pend, graded⟩ := graded_eq o c s
  have link : (s.committed o c).link j = ((s.planned o c).onHealth o.link (c.health s.mgr.settings.meterSilence)).link j := by
    rw [State.link, plan, graded]
    rfl
  rw [link, link_onHealth, planned_link, planned_link, link_settling, link_settling, if_pos rfl]
  split
  · rfl
  · rfl

theorem committed_ownMarked : s.ownMarked (s.committed o c) (s.link o.link).cfg.band (s.commitSpans o c) := by
  obtain ⟨-, rte, -, -, swp⟩ := committed_leaves o c s
  have marked := ownRecompute_ownMarked (s.settling o c) (s.link o.link).cfg.band (s.commitSpans o c)
  have here : s.ownMarked (ownRecompute (s.link o.link).cfg.band (touching (s.commitSpans o c)) (s.settling o c))
      (s.link o.link).cfg.band (s.commitSpans o c) := marked.congr rfl rfl (fun _ => .rfl) rfl
  refine ownMarked_through here (fun j => ?_) (committed_inner o c s).bands (fun j => ⟨?_, ?_⟩) ?_
  · rw [swp]
    exact (planCommit_aside _ _ _).own _ _
  · rw [(committed_inner o c s).cfg, cfg_settling]
  · rw [link_committed, link_settling]
    split
    · rfl
    · rfl
  · rw [rte]

theorem committed_spares {n : Nat} {e : Spare} (mem : e ∈ rd (s.committed o (.channel n)).cpl.spares (s.link o.link).cfg.band) :
    e.channel ≠ n := by
  obtain ⟨-, -, -, cpl, -⟩ := committed_leaves o (.channel n) s
  rw [cpl] at mem
  have spares : rd (s.planned o (.channel n)).cpl.spares (s.link o.link).cfg.band = _ :=
    (congrArg (fun v => rd v _) (setRefillFlag_spares _ _)).trans (rd_wr_same _ _ _)
  rw [spares] at mem
  have kept := mem
  exact of_decide_eq_true (List.mem_filter.mp kept).2

theorem committed_refillDue (enabled : (s.band (s.link o.link).cfg.band).enabled = true) :
    (s.committed o c).refillDue (s.link o.link).cfg.band := by
  obtain ⟨-, -, -, cpl, -⟩ := committed_leaves o c s
  rw [State.refillDue, cpl]
  refine setRefillFlag_due ?_
  have bands := (ownRecompute_inner (s.link o.link).cfg.band (touching (s.commitSpans o c)) (s.settling o c)).bands
  cases c with
  | channel n => exact (congrArg (fun v => (rd v (s.link o.link).cfg.band).enabled) bands).trans enabled
  | off => exact (congrArg (fun v => (rd v (s.link o.link).cfg.band).enabled) bands).trans enabled

theorem retunedFields_eq : s.retunedFields o c = [byte o.link.val] ++ channelOrNone o.previous ++ channelOrNone c.channel?
    ++ [o.reason.code, if c ≠ .off ∧ o.force = true then 1 else 0] ++ halfBytes (s.plan.gen + 1) := by
  unfold State.retunedFields
  rw [gen_committed]
  cases c with
  | channel n => simp [onOff]
  | off => simp [onOff]

theorem committed_noted (node : s.mgr.settings.reportNode ≠ 0) (normal : s.rif.mode = .normal) :
    { cls := .note, frame := { kind := Kind.note, dst := s.mgr.settings.reportNode, src := s.rif.node
                               payload := [NoteKind.retuned.code, byte o.link.val] ++ channelOrNone o.previous
                                 ++ channelOrNone c.channel? ++ [o.reason.code, if c ≠ .off ∧ o.force = true then 1 else 0]
                                 ++ halfBytes (s.plan.gen + 1) } } ∈ (s.committed o c).rif.ctlQ
      ∨ (24 ≤ (s.committed o c).rif.ctlQ.length ∧ (s.committed o c).rif.notesLost = true) := by
  have inner := (planned_inner o c s).trans (graded_inner o c s)
  have stands := note_stands .retuned (s.retunedFields o c) (by rw [inner.settings]; exact node) (inner.mode.trans normal)
  obtain ⟨-, -, -, -, -, queue, lost⟩ :=
    notedReport_keeps o.link .retuned (s.retunedFields o c) (s.graded o c) (rfl : s.committed o c = _)
  rw [← queue, ← lost, inner.settings, inner.node, retunedFields_eq] at stands
  exact stands

end

theorem tunedOk_all {o : Order} {src : Node} {phase : Phase} {s : State} (others : ∀ n ∈ o.nodes, n.node ≠ src → n.ok = true) :
    tunedOk o phase src s = match phase, o.chosen with
      | .tuning, some c => commit (o.mark src) c (s.onRte fun r => { r with active := some (o.mark src) })
      | .reverting, _ => endRevert (o.mark src) (s.onRte fun r => { r with active := some (o.mark src) })
      | _, _ => s.onRte fun r => { r with active := some (o.mark src) } := by
  have all : (o.mark src).nodes.all (·.ok) = true := by
    refine List.all_eq_true.mpr fun n mem => ?_
    obtain ⟨x, isNode, rfl⟩ := List.mem_map.mp mem
    by_cases own : x.node = src
    · rw [if_pos own]
    · rw [if_neg own]
      exact others x isNode own
  exact if_pos all

/-- An accepted answer is marked (R107). -/
def State.marking (s : State) (o : Order) (src : Node) : State := s.handed.onRte fun r => { r with active := some (o.mark src) }

/-- Settles O45. -/
theorem lastAnswerCommits : Obligations.LastAnswerCommits := by
  intro h l tag c1 c0 o c s consumed active tuning chosen accepts others
  refine ⟨(s.marking o h.src).committed (o.mark h.src) c, ?_, ?_⟩
  · rw [exec_tuned_consumed consumed, takeTuned_active (s := s.handed) active]
    have phase : (s.handed.link o.link).carrier.phase = .tuning := tuning
    rw [phase, if_pos accepts, if_pos rfl, tunedOk_all others, chosen]
    exact congrArg _ (commit_eq _ _ _)
  · have inner := committed_inner (o.mark h.src) c (s.marking o h.src)
    obtain ⟨plan, rte, lmn, -, -⟩ := committed_leaves (o.mark h.src) c (s.marking o h.src)
    have link := link_committed (o.mark h.src) c (s.marking o h.src)
    have here := (link o.link).trans (if_pos rfl)
    refine ⟨?_, ?_, inner.cfg _, inner.tally _, fun j other => ⟨(link j).trans (if_neg other.symm), ?_⟩,
      (congrArg Plan.gen plan).trans (gen_committed _ _ _), inner.bands, inner.windows, by rw [rte]; rfl, by rw [rte]; rfl,
      by rw [rte]; rfl, by rw [rte]; rfl, by rw [rte]; rfl, by rw [rte]; rfl, fun eligible => ?_, inner.tly, inner.tbm,
      inner.settings, ?_, fun enabled _ => committed_refillDue _ _ _ enabled, ?_⟩
    · rintro n rfl
      exact ⟨(congrArg Link.carrier here :), (congrArg Link.health here :), fun e mem => committed_spares _ _ mem⟩
    · rintro rfl
      refine ⟨(congrArg Link.carrier here :), (congrArg Link.health here :), ?_⟩
      rw [State.want, lmn]
      exact rd_wr_same _ _ _
    · rw [State.want, lmn]
      cases c with
      | channel n => rfl
      | off => exact rd_wr_ne _ _ _ _ other.symm
    · exact phaseReport_pending (((note_inner _ _ _).eligible _).trans
        ((((planned_inner _ _ (s.marking o h.src)).trans (graded_inner _ _ (s.marking o h.src))).eligible _).trans eligible))
    · have marked := committed_ownMarked (o.mark h.src) c (s.marking o h.src)
      rw [commitSpans_eq] at marked
      exact marked.congr rfl rfl (fun _ => .rfl) rfl
    · rintro node normal f rfl
      exact committed_noted _ _ (s.marking o h.src) node normal

end Sys2Proof.Machine
end

section
/-! Proofs of a failed tuning and of the ends of a revert (R109 to R111). -/

namespace Sys2Proof.Machine

/-! ## OWN marks through an exchange (R60) -/

/-- No order in TUNING has a target (R12). -/
theorem tuningTarget_none {p : Plan} {r : Rte} (free : ∀ o, r.active = some o → (rd p.links o.link).carrier.phase ≠ .tuning) :
    tuningTarget p r = none := by
  unfold tuningTarget
  cases active : r.active with
  | none => rfl
  | some o =>
    have phase := free o active
    simp only
    split
    · next tuning _ => exact absurd tuning phase
    · rfl

/-- A band's carriers are told by its links' configuration, carrier state and channel, and by the TUNING target (R12). -/
theorem bandCarriers_told {p q : Plan} {r r' : Rte} {b : BandId} (bands : q.bands = p.bands)
    (links : ∀ j, (rd q.links j).cfg = (rd p.links j).cfg ∧ (rd q.links j).carrier.state = (rd p.links j).carrier.state
      ∧ (rd q.links j).carrier.channel = (rd p.links j).carrier.channel)
    (target : tuningTarget q r' = tuningTarget p r) : bandCarriers q r' b = bandCarriers p r b := by
  have stands (j : LinkId) : (rd q.links j).standsAt b = (rd p.links j).standsAt b := by
    rw [Link.standsAt, Link.standsAt, (links j).1, (links j).2.1, (links j).2.2]
  simp only [bandCarriers, target, bands, stands, (links _).1]

/-- OWN marks recomputed over spans stand in a state with the same OWN cells and the same carriers. -/
theorem ownMarked_anew {s u v : State} {b : BandId} {spans : List Span} (bands : u.plan.bands = s.plan.bands) (cells : u.swp = s.swp)
    (own : ∀ j, (rd (rd v.swp.cells b) j).state = .own ↔ (rd (rd (ownRecompute b (touching spans) u).swp.cells b) j).state = .own)
    (sameBands : v.plan.bands = u.plan.bands)
    (links : ∀ j, (v.link j).cfg = (u.link j).cfg ∧ (v.link j).carrier.state = (u.link j).carrier.state
      ∧ (v.link j).carrier.channel = (u.link j).carrier.channel)
    (target : tuningTarget v.plan v.rte = tuningTarget u.plan u.rte) : s.ownMarked v b spans := by
  have rest := ownRecompute_aside u b (touching spans)
  refine (ownRecompute_ownMarked u b spans).congr ?_ (by rw [cells]) own ?_
  · rw [State.band, State.band, bands]
  · rw [rest.plan, rest.rte]
    exact bandCarriers_told sameBands links target

/-! ## A carrier that becomes LOST (R110, R111) -/

theorem healthLost_eq (k : LinkId) (s : State) : ∃ w pend, Aside (s.onHealth k fun h => { h with grade := .down }) w
    ∧ healthLost k s = { w with lmp := { w.lmp with pending := pend } } :=
  ⟨_, (healthLost k s).lmp.pending, healthDegrade_aside (setGrade k .down s) k (s.link k).health.grade .down,
    healthLamp_leaves k _ _ _⟩

section
variable (o : Order) (cause : Cause) (spans : List Span) (s : State)

/-- The carrier LOST and the order ended (R110, R111). -/
def State.forsaken : State := s.vacated o.link fun c => { c with state := .lost }

/-- The OWN marks of a carrier that becomes LOST, where spans are given (R60). -/
def State.unmarked : State :=
  if spans.isEmpty then s.forsaken o else ownRecomputeLink o.link spans (s.forsaken o)

/-- The fields of the LINK_LOST note (R163). -/
def State.lostFields (s : State) (k : LinkId) (cause : Cause) : List Byte :=
  [byte k.val, byte (s.bandOf k).val] ++ channelOrNone (s.link k).carrier.channel ++ [cause.code]

/-- The state that the loss of a carrier leaves, before the promotion test. -/
def State.losing : State :=
  phaseReport o.link (note .linkLost ((healthLost o.link (s.unmarked o spans)).lostFields o.link cause)
    (healthLost o.link (s.unmarked o spans)))

theorem loseCarrier_eq : loseCarrier o cause spans s = rteSettle (s.losing o cause spans) := rfl

theorem unmarked_link (j : LinkId) : (s.unmarked o spans).link j = (s.forsaken o).link j := by
  unfold State.unmarked
  split
  · rfl
  · exact ownRecompute_link _ _ _ _

theorem unmarked_rte : (s.unmarked o spans).rte = (s.forsaken o).rte := by
  unfold State.unmarked
  split
  · rfl
  · exact (ownRecompute_aside _ _ _).rte

theorem unmarked_lmn : (s.unmarked o spans).lmn = s.lmn := by
  unfold State.unmarked
  split
  · rfl
  · exact (ownRecompute_aside _ _ _).lmn

theorem unmarked_gen : (s.unmarked o spans).plan.gen = s.plan.gen + 1 := by
  unfold State.unmarked
  split
  · rfl
  · exact congrArg Plan.gen (ownRecompute_aside _ _ _).plan

theorem unmarked_inner : Inner s (s.unmarked o spans) := by
  have forsaken : Inner s (s.forsaken o) := ((Inner.onCarrier _ _).trans (leaveActive_inner _ _)).trans Inner.advanceGen
  unfold State.unmarked
  split
  · exact forsaken
  · exact forsaken.trans (ownRecomputeLink_inner _ _ _)

theorem losing_inner : Inner s (s.losing o cause spans) :=
  (((unmarked_inner o spans s).trans (healthLost_inner _ _)).trans (note_inner _ _ _)).trans (phaseReport_inner _ _)

theorem losing_leaves : (s.losing o cause spans).plan.gen = s.plan.gen + 1
    ∧ (s.losing o cause spans).rte = { s.rte with active := none } ∧ (s.losing o cause spans).lmn = s.lmn
    ∧ ∀ b j, (rd (rd (s.losing o cause spans).swp.cells b) j).state = .own
        ↔ (rd (rd (s.unmarked o spans).swp.cells b) j).state = .own := by
  obtain ⟨plan, rte, lmn, -, swp, -⟩ :=
    notedReport_keeps o.link .linkLost ((healthLost o.link (s.unmarked o spans)).lostFields o.link cause)
      (healthLost o.link (s.unmarked o spans)) (rfl : s.losing o cause spans = _)
  obtain ⟨w, pend, aside, lost⟩ := healthLost_eq o.link (s.unmarked o spans)
  rw [plan, rte, lmn, swp, lost]
  exact ⟨(congrArg Plan.gen aside.plan).trans (unmarked_gen o spans s), aside.rte.trans (unmarked_rte o spans s),
    aside.lmn.trans (unmarked_lmn o spans s), aside.own⟩

theorem link_losing (j : LinkId) : (s.losing o cause spans).link j = if o.link = j then
    { s.link o.link with
      carrier := { (s.link o.link).carrier with state := .lost, phase := .idle }
      health := { (s.link o.link).health with grade := .down } } else s.link j := by
  obtain ⟨plan, -⟩ :=
    notedReport_keeps o.link .linkLost ((healthLost o.link (s.unmarked o spans)).lostFields o.link cause)
      (healthLost o.link (s.unmarked o spans)) (rfl : s.losing o cause spans = _)
  obtain ⟨w, pend, aside, lost⟩ := healthLost_eq o.link (s.unmarked o spans)
  have link : (s.losing o cause spans).link j = w.link j := by
    rw [State.link, plan, lost]
    rfl
  rw [link, aside.link, link_onHealth, unmarked_link, unmarked_link, State.forsaken, link_vacated, link_vacated, if_pos rfl]
  split
  · rfl
  · rfl

theorem losing_noted (node : s.mgr.settings.reportNode ≠ 0) (normal : s.rif.mode = .normal) :
    { cls := .note, frame := { kind := Kind.note, dst := s.mgr.settings.reportNode, src := s.rif.node
                               payload := [NoteKind.linkLost.code, byte o.link.val, byte (s.link o.link).cfg.band.val]
                                 ++ channelOrNone (s.link o.link).carrier.channel ++ [cause.code] } }
        ∈ (s.losing o cause spans).rif.ctlQ
      ∨ (24 ≤ (s.losing o cause spans).rif.ctlQ.length ∧ (s.losing o cause spans).rif.notesLost = true) := by
  have inner := (unmarked_inner o spans s).trans (healthLost_inner o.link _)
  have stands := note_stands .linkLost ((healthLost o.link (s.unmarked o spans)).lostFields o.link cause)
    (by rw [inner.settings]; exact node) (inner.mode.trans normal)
  obtain ⟨plan, -, -, -, -, queue, lost⟩ :=
    notedReport_keeps o.link .linkLost ((healthLost o.link (s.unmarked o spans)).lostFields o.link cause)
      (healthLost o.link (s.unmarked o spans)) (rfl : s.losing o cause spans = _)
  have link : (healthLost o.link (s.unmarked o spans)).link o.link = (s.losing o cause spans).link o.link := by
    rw [State.link, State.link, plan]
  have fields : (healthLost o.link (s.unmarked o spans)).lostFields o.link cause =
      [byte o.link.val, byte (s.link o.link).cfg.band.val] ++ channelOrNone (s.link o.link).carrier.channel ++ [cause.code] := by
    rw [State.lostFields, State.bandOf, link, link_losing, if_pos rfl]
  rw [← queue, ← lost, inner.settings, inner.node, fields] at stands
  exact stands

end

/-! ## The target of a failed tuning leaves (R109) -/

section
variable (o : Order) (s : State)

/-- The batch ended, the phase REVERTING and the generation advanced (R109). -/
def State.ceding : State := ((endBatch s).onCarrier o.link fun c => { c with phase := .reverting }).advanceGen

/-- The span of an Active order's chosen channel. -/
def State.targetSpans : List Span := s.spanOf o.link (o.chosen.bind Chosen.channel?)

/-- The OWN marks recomputed under the target that left (R60, R109). -/
def State.ceded : State := ownRecompute (s.link o.link).cfg.band (touching (s.targetSpans o)) (s.ceding o)

theorem link_ceding (j : LinkId) : (s.ceding o).link j =
    if o.link = j then { s.link o.link with carrier := { (s.link o.link).carrier with phase := .reverting } } else s.link j :=
  link_onLink (endBatch s) o.link j fun l => { l with carrier := { l.carrier with phase := .reverting } }

theorem link_ceded (j : LinkId) : (s.ceded o).link j =
    if o.link = j then { s.link o.link with carrier := { (s.link o.link).carrier with phase := .reverting } } else s.link j :=
  (ownRecompute_link _ _ _ _).trans (link_ceding o s j)

theorem ceded_inner : Inner s (s.ceded o) :=
  ((endBatch_inner s).trans (Inner.onCarrier _ _)).trans (Inner.advanceGen.trans (ownRecompute_inner _ _ _))

theorem ceded_leaves : (s.ceded o).plan.gen = s.plan.gen + 1
    ∧ (s.ceded o).rte = { s.rte with tuneTimer := none, hold := s.rte.hold.filter fun h => !h.awaited }
    ∧ (s.ceded o).lmn = s.lmn := by
  have rest := ownRecompute_aside (s.ceding o) (s.link o.link).cfg.band (touching (s.targetSpans o))
  exact ⟨congrArg Plan.gen rest.plan, rest.rte, rest.lmn⟩

theorem failTuning_eq (cause : Cause) : failTuning o cause s =
    if o.reason = .verify then loseCarrier o cause [] (s.ceded o)
    else match o.previous with
      | none => failOrder o cause 0 (tuneBatch o (o.nodes.map (·.node)) 0xFFFF false (s.ceded o))
      | some n => tuneBatch { o with cause := some cause } (o.nodes.map (·.node)) n true (phaseReport o.link (s.ceded o)) := by
  have cfg : ((s.ceding o).link o.link).cfg = (s.link o.link).cfg := by rw [link_ceding, if_pos rfl]
  have ceded : s.ceded o =
      ownRecomputeLink o.link ((s.ceding o).spanOf o.link (o.chosen.bind Chosen.channel?)) (s.ceding o) := by
    rw [ownRecomputeLink, cfg, State.ceded, State.targetSpans, spanOf_channels, spanOf_channels, cfg]
    rfl
  rw [ceded]
  rfl

/-- OWN marks under the target that left stand while the carriers stand as they were (R60). -/
theorem ceded_ownMarked {v : State} (active : s.rte.active = some o)
    (own : ∀ j, (rd (rd v.swp.cells (s.link o.link).cfg.band) j).state = .own
      ↔ (rd (rd (s.ceded o).swp.cells (s.link o.link).cfg.band) j).state = .own)
    (bands : v.plan.bands = s.plan.bands)
    (links : ∀ j, (v.link j).cfg = (s.link j).cfg ∧ (v.link j).carrier.state = (s.link j).carrier.state
      ∧ (v.link j).carrier.channel = (s.link j).carrier.channel)
    (free : ∀ o', v.rte.active = some o' → (v.link o'.link).carrier.phase ≠ .tuning) :
    s.ownMarked v (s.link o.link).cfg.band (s.targetSpans o) := by
  refine ownMarked_anew (u := s.ceding o) rfl rfl own bands (fun j => ?_) ?_
  · obtain ⟨cfg, state, channel⟩ := links j
    rw [cfg, state, channel, link_ceding]
    split
    · next same =>
      subst same
      exact ⟨rfl, rfl, rfl⟩
    · exact ⟨rfl, rfl, rfl⟩
  · rw [tuningTarget_none free, tuningTarget_none]
    intro o' isActive
    obtain rfl : o = o' := Option.some.inj (active.symm.trans isActive)
    have phase : ((s.ceding o).link o.link).carrier.phase = .reverting := by rw [link_ceding, if_pos rfl]
    exact fun tuning => nomatch phase.symm.trans tuning

theorem targetSpans_eq : s.targetSpans o = match o.chosen with
    | some (.channel n) => [(s.band (s.link o.link).cfg.band).channelSpan n (s.link o.link).cfg.width]
    | _ => [] := by
  unfold State.targetSpans
  cases o.chosen with
  | none => rfl
  | some c =>
    cases c with
    | channel n => rfl
    | off => rfl

/-- A frame of the batch that follows a failed tuning (R105, R109). -/
def State.revertFrame (node : Node) : Frame :=
  { kind := Kind.tune, dst := node, src := s.rif.node
    payload := [byte o.link.val, s.rte.tuneTag + 1, byte (s.link o.link).cfg.band.val]
      ++ n16 (previousChannel o.previous) ++ n16 (s.link o.link).cfg.width }

end

/-- What a failed tuning leaves in each of its three outcomes, before the promotion test (R109, R111). -/
structure Cedes (o : Order) (s u : State) (later : List HeldTune) : Prop where
  inner : Inner s u
  other : ∀ j, j ≠ o.link → u.link j = s.link j
  staged : u.rte.staged = s.rte.staged
  deferred : u.rte.deferred = s.rte.deferred
  lmn : u.lmn = s.lmn
  hold : u.rte.hold = s.rte.hold.filter (fun h => h.awaited = false) ++ later
  channel : (u.link o.link).carrier.channel = (s.link o.link).carrier.channel
  own : ∀ j, (rd (rd u.swp.cells (s.link o.link).cfg.band) j).state = .own
    ↔ (rd (rd (s.ceded o).swp.cells (s.link o.link).cfg.band) j).state = .own
  free : ∀ o', u.rte.active = some o' → (u.link o'.link).carrier.phase ≠ .tuning
  awaited : ∀ h ∈ later, h.awaited = o.previous.isSome ∧ ∃ x ∈ o.nodes, h.frame = s.revertFrame o x.node
  timer : u.rte.tuneTimer = if o.reason ≠ .verify ∧ o.previous ≠ none ∧ o.nodes ≠ [] ∧ later = [] then
    some s.mgr.settings.tuneTimeout else none

theorem awaited_filter (l : List HeldTune) : (l.filter fun h => !h.awaited) = l.filter fun h => h.awaited = false := by
  refine List.filter_congr fun h _ => ?_
  cases h.awaited with
  | true => rfl
  | false => rfl

/-- The marks of OWN for whoever restores the carrier's state (R60, R111). -/
theorem Cedes.ownMarked {o : Order} {s u : State} {later : List HeldTune} (cedes : Cedes o s u later)
    (active : s.rte.active = some o) :
    s.ownMarked (u.onCarrier o.link fun c => { c with state := (s.link o.link).carrier.state }) (s.link o.link).cfg.band
      (s.targetSpans o) := by
  refine ceded_ownMarked o s active cedes.own cedes.inner.bands (fun j => ?_) fun o' isActive => ?_
  · rw [State.onCarrier, link_onLink]
    split
    · next same =>
      subst same
      exact ⟨cedes.inner.cfg _, rfl, cedes.channel⟩
    · next other =>
      rw [cedes.other j (Ne.symm other)]
      exact ⟨rfl, rfl, rfl⟩
  · have phase := cedes.free o' isActive
    rw [State.onCarrier, link_onLink]
    split
    · next same =>
      rw [same]
      exact phase
    · exact phase

section
variable {o : Order} {s : State}

/-- A VERIFY order loses its carrier (R111). -/
theorem cedes_losing (cause : Cause) (verify : o.reason = .verify) : Cedes o s ((s.ceded o).losing o cause []) [] := by
  obtain ⟨-, rte, lmn, own⟩ := losing_leaves o cause [] (s.ceded o)
  obtain ⟨-, cededRte, cededLmn⟩ := ceded_leaves o s
  have link := link_losing o cause [] (s.ceded o)
  refine ⟨(ceded_inner o s).trans (losing_inner _ _ _ _), fun j other => ?_, ?_, ?_, lmn.trans cededLmn, ?_, ?_,
    fun j => own _ j, fun o' active => ?_, fun h none => (nomatch none), ?_⟩
  · rw [link, if_neg other.symm, link_ceded, if_neg other.symm]
  · rw [rte, cededRte]
  · rw [rte, cededRte]
  · rw [rte, cededRte, List.append_nil]
    exact awaited_filter _
  · rw [link, if_pos rfl, link_ceded, if_pos rfl]
  · rw [rte] at active
    cases active
  · rw [rte, cededRte, if_neg fun runs => runs.1 verify]

theorem tuneFrame_revert {u : State} {o' : Order} {n : Nat} (link : o'.link = o.link) (node : u.rif.node = s.rif.node)
    (cfg : (u.link o.link).cfg = (s.link o.link).cfg) (tag : u.rte.tuneTag = s.rte.tuneTag)
    (previous : n = previousChannel o.previous) (x : Node) :
    u.tuneFrame o' (u.rte.tuneTag + 1) n x = s.revertFrame o x := by
  rw [State.tuneFrame, State.bandOf, link, node, cfg, tag, State.revertFrame, previous]

end

/-! ## An order that ends FAILED after its batch to OFF (R109, R111) -/

theorem reportedNote_keeps (k : LinkId) (kind : NoteKind) (fields : List Byte) (s : State) {t : State}
    (isNote : t = note kind fields (phaseReport k s)) : t.plan = s.plan ∧ t.rte = s.rte ∧ t.lmn = s.lmn ∧ t.swp = s.swp
      ∧ claims s.rif.ctlQ <+: claims t.rif.ctlQ := by
  have noted := isNote.trans (reportedNote_leaves k kind fields s)
  refine ⟨(congrArg State.plan noted :), (congrArg State.rte noted :), (congrArg State.lmn noted :),
    (congrArg State.swp noted :), ?_⟩
  have queue := (note_aside (phaseReport k s) kind fields).queue
  rw [phaseReport_leaves] at queue
  rw [isNote, phaseReport_leaves]
  exact queue

section
variable (o : Order) (cause : Cause) (s : State)

/-- The batch to OFF of an order that has no previous channel (R109). -/
def State.batchedOff : State := tuneBatch o (o.nodes.map (·.node)) 0xFFFF false (s.ceded o)

/-- The state that an order's failure after its batch to OFF leaves, before the promotion test (R109, R111). -/
def State.failing : State := failedNote o cause 0 (phaseReport o.link (leaveActive o.link (s.batchedOff o)))

theorem failing_leaves : (s.failing o cause).plan = (leaveActive o.link (s.batchedOff o)).plan
    ∧ (s.failing o cause).rte = { (s.batchedOff o).rte with active := none } ∧ (s.failing o cause).lmn = s.lmn
    ∧ (s.failing o cause).swp = (s.ceded o).swp ∧ claims (s.batchedOff o).rif.ctlQ <+: claims (s.failing o cause).rif.ctlQ := by
  obtain ⟨plan, rte, lmn, swp, queue⟩ := reportedNote_keeps o.link _ _ _ (rfl : s.failing o cause = _)
  obtain ⟨-, batchLmn, batchSwp, -⟩ := tuneBatch_leaves (rfl : s.batchedOff o = _)
  obtain ⟨-, -, cededLmn⟩ := ceded_leaves o s
  exact ⟨plan, rte, lmn.trans (batchLmn.trans cededLmn), swp.trans batchSwp, queue⟩

theorem failing_inner : Inner s (s.failing o cause) :=
  ((ceded_inner o s).trans (tuneBatch_inner _ _ _ _ _)).trans
    (((leaveActive_inner _ _).trans (phaseReport_inner _ _)).trans (failedNote_inner _ _ _ _))

theorem gen_failing : (s.failing o cause).plan.gen = s.plan.gen + 1 := by
  obtain ⟨plan, -⟩ := failing_leaves o cause s
  obtain ⟨batchPlan, -⟩ := tuneBatch_leaves (rfl : s.batchedOff o = _)
  obtain ⟨gen, -⟩ := ceded_leaves o s
  rw [plan]
  exact (congrArg Plan.gen batchPlan).trans gen

theorem link_failing (j : LinkId) : (s.failing o cause).link j =
    if o.link = j then { s.link o.link with carrier := { (s.link o.link).carrier with phase := .idle } } else s.link j := by
  obtain ⟨plan, -⟩ := failing_leaves o cause s
  obtain ⟨batchPlan, -⟩ := tuneBatch_leaves (rfl : s.batchedOff o = _)
  have batch (j : LinkId) : (s.batchedOff o).link j = (s.ceded o).link j := by rw [State.link, batchPlan]; rfl
  have left := link_onLink (s.batchedOff o) o.link j fun l => { l with carrier := { l.carrier with phase := .idle } }
  rw [State.link, plan]
  refine left.trans ?_
  rw [batch, batch, link_ceded, link_ceded, if_pos rfl]
  split
  · rfl
  · rfl

variable {o s}

theorem batchedOff_frame (fresh : o.previous = none) (x : Node) :
    (s.ceded o).tuneFrame o ((s.ceded o).rte.tuneTag + 1) 0xFFFF x = s.revertFrame o x := by
  have inner := ceded_inner o s
  obtain ⟨-, rte, -⟩ := ceded_leaves o s
  exact tuneFrame_revert rfl inner.node (inner.cfg _) (by rw [rte]) (by rw [fresh]; rfl) x

theorem failing_frames (fresh : o.previous = none) {x : Addressed} (mem : x ∈ o.nodes) :
    { cls := .tune, frame := s.revertFrame o x.node } ∈ (s.failing o cause).rif.ctlQ
      ∨ ∃ w, { frame := s.revertFrame o x.node, awaited := w } ∈ (s.failing o cause).rte.hold := by
  obtain ⟨-, rte, -, -, queue⟩ := failing_leaves o cause s
  have sent := tuneBatch_frames (rfl : s.batchedOff o = _) (List.mem_map_of_mem mem)
  rw [batchedOff_frame fresh] at sent
  refine sent.imp (mem_of_claims · queue) fun held => ⟨false, ?_⟩
  rw [rte]
  exact held

theorem cedes_failing (fresh : o.previous = none) (active : s.rte.active = some o) :
    ∃ later, Cedes o s (s.failing o cause) later := by
  obtain ⟨-, rte, lmn, swp, -⟩ := failing_leaves o cause s
  obtain ⟨-, cededRte, -⟩ := ceded_leaves o s
  obtain ⟨-, -, -, -, -, staged, deferred, -⟩ := tuneBatch_leaves (rfl : s.batchedOff o = _)
  have link := link_failing o cause s
  obtain ⟨later, hold, own⟩ := tuneBatch_hold (rfl : s.batchedOff o = _)
  have cededActive : (s.ceded o).rte.active ≠ none := by
    rw [cededRte, active]
    exact Option.some_ne_none o
  have timer := tuneBatch_timer (rfl : s.batchedOff o = _) cededActive
  refine ⟨later, failing_inner o cause s, fun j other => (link j).trans (if_neg other.symm), ?_, ?_, lmn, ?_, ?_, ?_, ?_, ?_, ?_⟩
  · rw [rte, staged, cededRte]
  · rw [rte, deferred, cededRte]
  · rw [rte, hold, cededRte, awaited_filter]
  · rw [link, if_pos rfl]
  · intro j
    rw [swp]
  · intro o' isActive
    rw [rte] at isActive
    cases isActive
  · intro h mem
    obtain ⟨awaited, node, at_node, frame⟩ := own h mem
    obtain ⟨x, isNode, rfl⟩ := List.mem_map.mp at_node
    exact ⟨awaited.trans (by rw [fresh]; rfl), x, isNode, frame.trans (batchedOff_frame fresh _)⟩
  · rw [rte, if_neg fun runs => runs.2.1 fresh]
    refine timer.trans ((if_neg fun runs => nomatch runs.1).trans ?_)
    rw [cededRte]

theorem failing_noted (node : s.mgr.settings.reportNode ≠ 0) (normal : s.rif.mode = .normal) :
    { cls := .note, frame := { kind := Kind.note, dst := s.mgr.settings.reportNode, src := s.rif.node
                               payload := [NoteKind.retuneFailed.code, byte o.link.val, o.reason.code] ++ o.target.wire
                                 ++ [cause.code, 0, 0] } } ∈ (s.failing o cause).rif.ctlQ
      ∨ (24 ≤ (s.failing o cause).rif.ctlQ.length ∧ (s.failing o cause).rif.notesLost = true) := by
  have inner : Inner s (phaseReport o.link (leaveActive o.link (s.batchedOff o))) :=
    ((ceded_inner o s).trans (tuneBatch_inner _ _ _ _ _)).trans ((leaveActive_inner _ _).trans (phaseReport_inner _ _))
  have stands := note_stands .retuneFailed
    ([byte o.link.val, o.reason.code] ++ o.target.wire ++ [cause.code] ++ n16 (if cause = .conflict then 0 else 0))
    (by rw [inner.settings]; exact node) (inner.mode.trans normal)
  have total : n16 (if cause = .conflict then 0 else 0) = [0, 0] := by
    rw [ite_self]
    rfl
  rw [inner.settings, inner.node] at stands
  have fields : [byte o.link.val, o.reason.code] ++ o.target.wire ++ [cause.code] ++ n16 (if cause = .conflict then 0 else 0)
      = [byte o.link.val, o.reason.code] ++ o.target.wire ++ [cause.code, 0, 0] := by
    rw [total, List.append_assoc]
    rfl
  unfold State.failing failedNote
  rw [fields] at stands ⊢
  exact stands

end

/-! ## An order that enters REVERTING (R109) -/

section
variable (o : Order) (cause : Cause) (n : Nat) (s : State)

/-- The state that the entry into REVERTING leaves (R109). -/
def State.reverting : State :=
  tuneBatch { o with cause := some cause } (o.nodes.map (·.node)) n true (phaseReport o.link (s.ceded o))

theorem reverting_leaves : (s.reverting o cause n).plan = (s.ceded o).plan ∧ (s.reverting o cause n).lmn = s.lmn
    ∧ (s.reverting o cause n).swp = (s.ceded o).swp ∧ (s.reverting o cause n).rte.staged = s.rte.staged
    ∧ (s.reverting o cause n).rte.deferred = s.rte.deferred ∧ (s.reverting o cause n).rte.tuneTag = s.rte.tuneTag + 1
    ∧ (s.reverting o cause n).rte.active = s.rte.active.map fun _ => { o with
        cause := some cause, tag := some (s.rte.tuneTag + 1)
        nodes := o.nodes.map fun x => { node := x.node, ok := false } } := by
  obtain ⟨plan, lmn, swp, -, -, staged, deferred, tag, active⟩ := tuneBatch_leaves (rfl : s.reverting o cause n = _)
  obtain ⟨-, cededRte, cededLmn⟩ := ceded_leaves o s
  rw [phaseReport_leaves] at plan lmn swp staged deferred tag active
  refine ⟨plan, lmn.trans cededLmn, swp, staged.trans (by rw [cededRte]), deferred.trans (by rw [cededRte]),
    tag.trans (by rw [cededRte]), active.trans ?_⟩
  rw [cededRte, Order.batched, List.map_map]
  rfl

theorem reverting_inner : Inner s (s.reverting o cause n) :=
  ((ceded_inner o s).trans (phaseReport_inner _ _)).trans (tuneBatch_inner _ _ _ _ _)

theorem link_reverting (j : LinkId) : (s.reverting o cause n).link j =
    if o.link = j then { s.link o.link with carrier := { (s.link o.link).carrier with phase := .reverting } } else s.link j := by
  obtain ⟨plan, -⟩ := reverting_leaves o cause n s
  rw [State.link, plan]
  exact link_ceded o s j

variable {o n s} (previous : o.previous = some n)
include previous

theorem reverting_frame (x : Node) : (phaseReport o.link (s.ceded o)).tuneFrame { o with cause := some cause }
    ((phaseReport o.link (s.ceded o)).rte.tuneTag + 1) n x = s.revertFrame o x := by
  have inner := (ceded_inner o s).trans (phaseReport_inner o.link _)
  obtain ⟨-, rte, -⟩ := ceded_leaves o s
  refine tuneFrame_revert rfl inner.node (inner.cfg _) ?_ (by rw [previous]; rfl) x
  rw [phaseReport_leaves, rte]

theorem reverting_frames {x : Addressed} (mem : x ∈ o.nodes) :
    { cls := .tune, frame := s.revertFrame o x.node } ∈ (s.reverting o cause n).rif.ctlQ
      ∨ ∃ w, { frame := s.revertFrame o x.node, awaited := w } ∈ (s.reverting o cause n).rte.hold := by
  have sent := tuneBatch_frames (rfl : s.reverting o cause n = _) (List.mem_map_of_mem mem)
  rw [reverting_frame cause previous] at sent
  exact sent.imp List.mem_of_mem_filter fun held => ⟨true, held⟩

theorem cedes_reverting (plain : o.reason ≠ .verify) (active : s.rte.active = some o) :
    ∃ later, Cedes o s (s.reverting o cause n) later := by
  obtain ⟨-, lmn, swp, staged, deferred, -, nowActive⟩ := reverting_leaves o cause n s
  obtain ⟨-, cededRte, -⟩ := ceded_leaves o s
  have rte : (phaseReport o.link (s.ceded o)).rte = (s.ceded o).rte := by rw [phaseReport_leaves]
  have link := link_reverting o cause n s
  obtain ⟨later, hold, own⟩ := tuneBatch_hold (rfl : s.reverting o cause n = _)
  have wasActive : (phaseReport o.link (s.ceded o)).rte.active ≠ none := by
    rw [rte, cededRte, active]
    exact Option.some_ne_none o
  have timer := tuneBatch_timer (rfl : s.reverting o cause n = _) wasActive
  rw [rte, cededRte, awaited_filter] at hold
  refine ⟨later, reverting_inner o cause n s, fun j other => (link j).trans (if_neg other.symm), staged, deferred, lmn, hold,
    ?_, ?_, ?_, ?_, ?_⟩
  · rw [link, if_pos rfl]
  · intro j
    rw [swp]
  · intro o' isActive
    rw [nowActive, active] at isActive
    cases isActive
    rw [link, if_pos rfl]
    exact Phase.noConfusion
  · intro h mem
    obtain ⟨awaited, node, at_node, frame⟩ := own h mem
    obtain ⟨x, isNode, rfl⟩ := List.mem_map.mp at_node
    exact ⟨awaited.trans (by rw [previous]; rfl), x, isNode, frame.trans (reverting_frame cause previous _)⟩
  · have none_awaited : (s.reverting o cause n).rte.hold.all (fun h => !h.awaited) = true ↔ later = [] := by
      rw [hold, List.all_append, Bool.and_eq_true]
      constructor
      · rintro ⟨-, all⟩
        refine List.eq_nil_iff_forall_not_mem.mpr fun h mem => ?_
        obtain ⟨awaited, -⟩ := own h mem
        have unheld := List.all_eq_true.mp all h mem
        rw [awaited] at unheld
        cases unheld
      · rintro rfl
        refine ⟨List.all_eq_true.mpr fun h mem => ?_, rfl⟩
        rw [of_decide_eq_true (List.mem_filter.mp mem).2]
        rfl
    have settings : (phaseReport o.link (s.ceded o)).mgr.settings = s.mgr.settings :=
      ((ceded_inner o s).trans (phaseReport_inner o.link _)).settings
    rw [timer, settings, rte, cededRte, previous]
    exact ite_congr (propext
      ⟨fun ⟨_, nodes, held⟩ => ⟨plain, Option.some_ne_none n, mt List.map_eq_nil_iff.mpr nodes, none_awaited.mp held⟩,
        fun ⟨_, _, nodes, held⟩ => ⟨rfl, mt List.map_eq_nil_iff.mp nodes, none_awaited.mpr held⟩⟩) (fun _ => rfl) fun _ => rfl

end

section
variable {o : Order} (cause : Cause) {s : State}

theorem failTuning_verify (verify : o.reason = .verify) :
    failTuning o cause s = rteSettle ((s.ceded o).losing o cause []) := by
  rw [failTuning_eq, if_pos verify, loseCarrier_eq]

theorem failTuning_fresh (plain : o.reason ≠ .verify) (fresh : o.previous = none) :
    failTuning o cause s = rteSettle (s.failing o cause) := by
  rw [failTuning_eq, if_neg plain, fresh]
  rfl

theorem failTuning_reverts {n : Nat} (plain : o.reason ≠ .verify) (previous : o.previous = some n) :
    failTuning o cause s = s.reverting o cause n := by
  rw [failTuning_eq, if_neg plain]
  split
  · next fresh => exact nomatch fresh.symm.trans previous
  · next m isPrevious =>
    obtain rfl : m = n := Option.some.inj (isPrevious.symm.trans previous)
    rfl

end

/-- A FAIL answer or the expiry of the tune timer in TUNING fails the tuning (R106, R107). -/
theorem exec_failTuning {i : Instr} {cause : Cause} {o : Order} {s : State} (active : s.rte.active = some o)
    (tuning : (s.link o.link).carrier.phase = .tuning)
    (occasion : (∃ h l tag c1 c0, i = .tuned h [l, tag, c1, c0, 1] ∧ cause = .tuneFail
        ∧ s.consumes Kind.tuned h [l, tag, c1, c0, 1] = true ∧ o.accepts .tuning h.src l tag (u16 c1 c0) = true)
      ∨ (i = .tuneTimerExpiry ∧ cause = .tuneTimeout ∧ s.live = true ∧ s.rte.tuneTimer ≠ none)) :
    ∃ out, exec i s = .next (failTuning o cause (s.setOut out)) := by
  rcases occasion with ⟨h, l, tag, c1, c0, rfl, rfl, consumed, accepts⟩ | ⟨rfl, rfl, live, timer⟩
  · refine ⟨.slot, ?_⟩
    rw [exec_tuned_consumed consumed, takeTuned_active (s := s.handed) active]
    have phase : (s.handed.link o.link).carrier.phase = .tuning := tuning
    rw [phase, if_pos accepts, if_neg (by decide), if_pos rfl]
    rfl
  · obtain ⟨time, runs⟩ := Option.ne_none_iff_exists'.mp timer
    refine ⟨.quiet, congrArg _ ((if_pos live).trans ?_)⟩
    have phase : ((s.setOut .quiet).link o.link).carrier.phase = .tuning := tuning
    have active' : (s.setOut .quiet).rte.active = some o := active
    have runs' : (s.setOut .quiet).rte.tuneTimer = some time := runs
    simp only [tuneExpiry, active', runs', phase]

/-- Settles O46. -/
theorem failedTuningReverts : Obligations.FailedTuningReverts := by
  intro i cause o s active tuning occasion
  obtain ⟨out, runs⟩ := exec_failTuning active tuning occasion
  have isActive : (s.setOut out).rte.active = some o := active
  have target := targetSpans_eq o (s.setOut out)
  have gen := (ceded_leaves o (s.setOut out)).1
  rw [runs]
  by_cases verify : o.reason = .verify
  · have cedes := cedes_losing (s := s.setOut out) cause verify
    have marked := cedes.ownMarked isActive
    rw [target] at marked
    obtain ⟨lostGen, rte, -⟩ := losing_leaves o cause [] ((s.setOut out).ceded o)
    have here := (link_losing o cause [] ((s.setOut out).ceded o) o.link).trans (if_pos rfl)
    rw [link_ceded, if_pos rfl] at here
    refine ⟨((s.setOut out).ceded o).losing o cause [], [], fun _ => ⟨congrArg _ (failTuning_verify cause verify), (congrArg Link.carrier here :), (congrArg Link.health here :), ?_,
        by rw [rte], ?_⟩, fun plain => absurd verify plain, fun _ plain => absurd verify plain,
      fun _ _ plain => absurd verify plain, cedes.hold, fun _ => rfl, cedes.awaited, cedes.timer,
      marked.congr rfl rfl (fun _ => .rfl) rfl, cedes.inner.cfg _, cedes.inner.tally _, cedes.other, cedes.inner.bands,
      cedes.inner.windows, cedes.staged, cedes.deferred, cedes.lmn, cedes.inner.tly, cedes.inner.tbm, cedes.inner.settings, ?_⟩
    · rw [lostGen, gen, add_assoc]
      rfl
    · rw [rte, (ceded_leaves o (s.setOut out)).2.1]
      rfl
    · rintro node normal f (⟨-, rfl⟩ | ⟨plain, -⟩)
      · have inner := ceded_inner o (s.setOut out)
        have noted := losing_noted o cause [] ((s.setOut out).ceded o)
        rw [inner.settings, inner.node, inner.mode, link_ceded, if_pos rfl] at noted
        exact noted node normal
      · exact absurd verify plain
  · cases previous : o.previous with
    | none =>
      obtain ⟨later, cedes⟩ := cedes_failing (s := s.setOut out) cause previous isActive
      have marked := cedes.ownMarked isActive
      rw [target] at marked
      obtain ⟨-, rte, -⟩ := failing_leaves o cause (s.setOut out)
      obtain ⟨-, -, -, -, -, -, -, tag, -⟩ := tuneBatch_leaves (rfl : (s.setOut out).batchedOff o = _)
      have here := (link_failing o cause (s.setOut out) o.link).trans (if_pos rfl)
      have awaited := cedes.awaited
      have timer := cedes.timer
      rw [previous] at awaited timer
      simp only [State.revertFrame, previous] at awaited
      refine ⟨(s.setOut out).failing o cause, later, fun verified => absurd verified verify,
        fun _ _ => ⟨congrArg _ (failTuning_fresh cause verify previous), (congrArg Link.carrier here :),
          (congrArg Link.health here :), gen_failing _ _ _, by rw [rte], ?_⟩, fun _ _ other => (nomatch other), ?_, cedes.hold,
        fun verified => absurd verified verify, awaited, timer, marked.congr rfl rfl (fun _ => .rfl) rfl, cedes.inner.cfg _,
        cedes.inner.tally _, cedes.other, cedes.inner.bands, cedes.inner.windows, cedes.staged, cedes.deferred, cedes.lmn,
        cedes.inner.tly, cedes.inner.tbm, cedes.inner.settings, ?_⟩
      · rw [rte, tag, (ceded_leaves o (s.setOut out)).2.1]
        rfl
      · rintro x mem - f rfl
        have sent := failing_frames (s := s.setOut out) cause previous mem
        rw [State.revertFrame, previous] at sent
        exact sent
      · rintro node normal f (⟨verified, -⟩ | ⟨-, -, rfl⟩)
        · exact absurd verified verify
        · exact failing_noted (s := s.setOut out) cause node normal
    | some n =>
      obtain ⟨later, cedes⟩ := cedes_reverting (s := s.setOut out) cause previous verify isActive
      have marked := cedes.ownMarked isActive
      rw [target] at marked
      obtain ⟨plan, -, -, -, -, tag, nowActive⟩ := reverting_leaves o cause n (s.setOut out)
      have here := (link_reverting o cause n (s.setOut out) o.link).trans (if_pos rfl)
      have awaited := cedes.awaited
      have timer := cedes.timer
      rw [previous] at awaited timer
      simp only [State.revertFrame, previous] at awaited
      refine ⟨(s.setOut out).reverting o cause n, later, fun verified => absurd verified verify, fun _ other => (nomatch other),
        fun m _ isPrevious => ⟨?_, (congrArg Link.carrier here :), (congrArg Link.health here :),
          (congrArg Plan.gen plan).trans gen, tag, ?_⟩, ?_, cedes.hold,
        fun verified => absurd verified verify, awaited, timer, marked.congr rfl rfl (fun _ => .rfl) rfl, cedes.inner.cfg _,
        cedes.inner.tally _, cedes.other, cedes.inner.bands, cedes.inner.windows, cedes.staged, cedes.deferred, cedes.lmn,
        cedes.inner.tly, cedes.inner.tbm, cedes.inner.settings, ?_⟩
      · exact congrArg _ (failTuning_reverts cause verify previous)
      · rw [nowActive, isActive, previous]
        rfl
      · rintro x mem - f rfl
        have sent := reverting_frames (s := s.setOut out) cause previous mem
        rw [State.revertFrame, previous] at sent
        exact sent
      · rintro node normal f (⟨verified, -⟩ | ⟨-, other, -⟩)
        · exact absurd verified verify
        · cases other

end Sys2Proof.Machine
end

section
/-! Proofs of the ends of a revert (R110). -/

namespace Sys2Proof.Machine

theorem tuningTarget_inactive {p : Plan} {r : Rte} (inactive : r.active = none) : tuningTarget p r = none := by
  rw [tuningTarget, inactive]

/-- With no spans the OWN marks are as they were. -/
theorem ownMarked_nil {s u : State} {b : BandId}
    (own : ∀ j, (rd (rd u.swp.cells b) j).state = .own ↔ (rd (rd s.swp.cells b) j).state = .own) : s.ownMarked u b [] := by
  intro j
  rw [own, if_neg]
  rintro ⟨_, -, -, _, mem, -⟩
  cases mem

section
variable (o : Order) (s : State)

/-- The carrier COMMITTED again and the order ended (R110). -/
def State.regained : State := (closeBatch s).vacated o.link fun c => { c with state := .committed }

/-- The OWN marks under the previous channel (R60, R110). -/
def State.remarked : State := ownRecompute (s.link o.link).cfg.band (touching (s.spanOf o.link o.previous)) (s.regained o)

/-- The fields of the RETUNE_FAILED note of an order that failed without a conflict (R104, R163). -/
def Order.failedFields (o : Order) (cause : Cause) : List Byte :=
  [byte o.link.val, o.reason.code] ++ o.target.wire ++ [cause.code] ++ n16 (if cause = .conflict then 0 else 0)

theorem failedFields_eq (cause : Cause) :
    o.failedFields cause = [byte o.link.val, o.reason.code] ++ o.target.wire ++ [cause.code, 0, 0] := by
  rw [Order.failedFields, ite_self, List.append_assoc]
  rfl

/-- The state that a completed revert leaves, before the promotion test (R110). -/
def State.reverted : State :=
  phaseReport o.link (note .retuneFailed (o.failedFields (o.cause.getD .tuneFail)) (s.remarked o))

theorem link_regained (j : LinkId) : (s.regained o).link j = if o.link = j then
    { s.link o.link with carrier := { (s.link o.link).carrier with state := .committed, phase := .idle } } else s.link j :=
  link_vacated o.link (fun c => { c with state := .committed }) (closeBatch s) j

theorem endRevert_eq : endRevert o s = rteSettle (s.reverted o) := by
  have cfg : ((s.regained o).link o.link).cfg = (s.link o.link).cfg := by rw [link_regained, if_pos rfl]
  have remarked : s.remarked o = ownRecomputeLink o.link ((s.regained o).spanOf o.link o.previous) (s.regained o) := by
    rw [ownRecomputeLink, cfg, State.remarked, spanOf_channels, spanOf_channels, cfg]
    rfl
  unfold State.reverted
  rw [remarked]
  rfl

theorem remarked_inner : Inner s (s.remarked o) :=
  (((closeBatch_inner s).trans (Inner.onCarrier _ _)).trans ((leaveActive_inner _ _).trans Inner.advanceGen)).trans
    (ownRecompute_inner _ _ _)

theorem reverted_inner : Inner s (s.reverted o) :=
  ((remarked_inner o s).trans (note_inner _ _ _)).trans (phaseReport_inner _ _)

theorem reverted_leaves : (s.reverted o).plan.gen = s.plan.gen + 1 ∧ (s.reverted o).rte = (s.regained o).rte
    ∧ (s.reverted o).lmn = s.lmn ∧ (s.reverted o).swp = (s.remarked o).swp := by
  obtain ⟨plan, rte, lmn, -, swp, -⟩ := notedReport_keeps o.link .retuneFailed (o.failedFields (o.cause.getD .tuneFail))
    (s.remarked o) (rfl : s.reverted o = _)
  have rest := ownRecompute_aside (s.regained o) (s.link o.link).cfg.band (touching (s.spanOf o.link o.previous))
  exact ⟨(congrArg Plan.gen plan).trans (congrArg Plan.gen rest.plan), rte.trans rest.rte, lmn.trans rest.lmn, swp⟩

theorem link_reverted (j : LinkId) : (s.reverted o).link j = if o.link = j then
    { s.link o.link with carrier := { (s.link o.link).carrier with state := .committed, phase := .idle } } else s.link j := by
  obtain ⟨plan, -⟩ := notedReport_keeps o.link .retuneFailed (o.failedFields (o.cause.getD .tuneFail))
    (s.remarked o) (rfl : s.reverted o = _)
  rw [State.link, plan]
  exact (ownRecompute_link _ _ _ _).trans (link_regained o s j)

theorem reverted_ownMarked : s.ownMarked (s.reverted o) (s.link o.link).cfg.band (s.spanOf o.link o.previous) := by
  obtain ⟨-, rte, -, swp⟩ := reverted_leaves o s
  refine ownMarked_anew (u := s.regained o) rfl rfl (fun j => by rw [swp]; rfl) (reverted_inner o s).bands (fun j => ?_) ?_
  · rw [link_reverted, link_regained]
    exact ⟨rfl, rfl, rfl⟩
  · rw [rte, tuningTarget_inactive rfl, tuningTarget_inactive rfl]

theorem reverted_noted (node : s.mgr.settings.reportNode ≠ 0) (normal : s.rif.mode = .normal) :
    { cls := .note, frame := { kind := Kind.note, dst := s.mgr.settings.reportNode, src := s.rif.node
                               payload := [NoteKind.retuneFailed.code, byte o.link.val, o.reason.code] ++ o.target.wire
                                 ++ [(o.cause.getD .tuneFail).code, 0, 0] } } ∈ (s.reverted o).rif.ctlQ
      ∨ (24 ≤ (s.reverted o).rif.ctlQ.length ∧ (s.reverted o).rif.notesLost = true) := by
  have inner := remarked_inner o s
  have stands := note_stands .retuneFailed (o.failedFields (o.cause.getD .tuneFail)) (by rw [inner.settings]; exact node)
    (inner.mode.trans normal)
  obtain ⟨-, -, -, -, -, queue, lost⟩ := notedReport_keeps o.link .retuneFailed (o.failedFields (o.cause.getD .tuneFail))
    (s.remarked o) (rfl : s.reverted o = _)
  rw [← queue, ← lost, inner.settings, inner.node, failedFields_eq] at stands
  exact stands

/-- A carrier that becomes LOST leaves the OWN marks recomputed under the given spans (R60, R110). -/
theorem losing_ownMarked (cause : Cause) (spans : List Span) :
    s.ownMarked (s.losing o cause spans) (s.link o.link).cfg.band spans := by
  obtain ⟨-, rte, -, own⟩ := losing_leaves o cause spans s
  have isUnmarked : s.unmarked o spans = if spans.isEmpty then s.forsaken o else ownRecomputeLink o.link spans (s.forsaken o) := rfl
  cases spans with
  | nil => exact ownMarked_nil fun j => own _ j
  | cons x rest =>
    have cfg : ((s.forsaken o).link o.link).cfg = (s.link o.link).cfg :=
      (congrArg Link.cfg ((link_vacated o.link _ s o.link).trans (if_pos rfl)) :)
    rw [if_neg (by simp), ownRecomputeLink, cfg] at isUnmarked
    refine ownMarked_anew (u := s.forsaken o) rfl rfl (fun j => ?_) (losing_inner _ _ _ _).bands (fun j => ?_) ?_
    · rw [own, isUnmarked]
    · rw [link_losing, State.forsaken, link_vacated]
      split
      · exact ⟨rfl, rfl, rfl⟩
      · exact ⟨rfl, rfl, rfl⟩
    · rw [rte]
      exact (tuningTarget_inactive rfl).trans (tuningTarget_inactive rfl).symm

end

/-- A FAIL answer or the expiry of the tune timer in REVERTING loses the carrier (R106, R107, R110). -/
theorem exec_failRevert {i : Instr} {o : Order} {s : State} (active : s.rte.active = some o)
    (reverting : (s.link o.link).carrier.phase = .reverting)
    (occasion : (∃ h l tag c1 c0, i = .tuned h [l, tag, c1, c0, 1] ∧ s.consumes Kind.tuned h [l, tag, c1, c0, 1] = true
        ∧ o.accepts .reverting h.src l tag (u16 c1 c0) = true)
      ∨ (i = .tuneTimerExpiry ∧ s.live = true ∧ s.rte.tuneTimer ≠ none)) :
    ∃ out, exec i s = .next (failRevert o (s.setOut out)) := by
  rcases occasion with ⟨h, l, tag, c1, c0, rfl, consumed, accepts⟩ | ⟨rfl, live, timer⟩
  · refine ⟨.slot, ?_⟩
    rw [exec_tuned_consumed consumed, takeTuned_active (s := s.handed) active]
    have phase : (s.handed.link o.link).carrier.phase = .reverting := reverting
    rw [phase, if_pos accepts, if_neg (by decide), if_pos rfl]
    rfl
  · obtain ⟨time, runs⟩ := Option.ne_none_iff_exists'.mp timer
    refine ⟨.quiet, congrArg _ ((if_pos live).trans ?_)⟩
    have phase : ((s.setOut .quiet).link o.link).carrier.phase = .reverting := reverting
    have active' : (s.setOut .quiet).rte.active = some o := active
    have runs' : (s.setOut .quiet).rte.tuneTimer = some time := runs
    simp only [tuneExpiry, active', runs', phase]

/-- Settles O47. -/
theorem revertEnds : Obligations.RevertEnds := by
  intro i lost o s active reverting occasion
  rcases occasion with ⟨h, l, tag, c1, c0, rfl, rfl, consumed, accepts, others⟩ | fails
  · have inner := reverted_inner (o.mark h.src) (s.marking o h.src)
    obtain ⟨gen, rte, lmn, -⟩ := reverted_leaves (o.mark h.src) (s.marking o h.src)
    have link := link_reverted (o.mark h.src) (s.marking o h.src)
    have here := (link o.link).trans (if_pos rfl)
    have marked := reverted_ownMarked (o.mark h.src) (s.marking o h.src)
    rw [spanOf_channels] at marked
    refine ⟨(s.marking o h.src).reverted (o.mark h.src), ?_, (congrArg Link.carrier here :), (congrArg Link.health here :),
      inner.cfg _, inner.tally _, fun j other => (link j).trans (if_neg other.symm), gen, inner.bands, inner.windows,
      by rw [rte]; rfl, by rw [rte]; rfl, by rw [rte]; rfl, by rw [rte]; rfl, by rw [rte]; rfl, lmn, inner.tly, inner.tbm,
      by rw [rte]; rfl, marked.congr rfl rfl (fun _ => .rfl) rfl, ?_⟩
    · rw [exec_tuned_consumed consumed, takeTuned_active (s := s.handed) active]
      have phase : (s.handed.link o.link).carrier.phase = .reverting := reverting
      rw [phase, if_pos accepts, if_pos rfl, tunedOk_all others]
      exact congrArg _ (endRevert_eq _ _)
    · rintro cause isCause node normal f rfl
      have noted := reverted_noted (o.mark h.src) (s.marking o h.src) node normal
      have sameCause : (o.mark h.src).cause = some cause := isCause
      rw [sameCause] at noted
      exact noted
  · obtain ⟨isLost, occasion⟩ : lost = true ∧ ((∃ h l tag c1 c0, i = .tuned h [l, tag, c1, c0, 1]
        ∧ s.consumes Kind.tuned h [l, tag, c1, c0, 1] = true ∧ o.accepts .reverting h.src l tag (u16 c1 c0) = true)
        ∨ (i = .tuneTimerExpiry ∧ s.live = true ∧ s.rte.tuneTimer ≠ none)) := by
      rcases fails with ⟨h, l, tag, c1, c0, isInstr, isLost, fails⟩ | ⟨isInstr, isLost, fails⟩
      · exact ⟨isLost, .inl ⟨h, l, tag, c1, c0, isInstr, fails⟩⟩
      · exact ⟨isLost, .inr ⟨isInstr, fails⟩⟩
    obtain ⟨out, runs⟩ := exec_failRevert active reverting occasion
    subst isLost
    have ended : Inner (s.setOut out) (endBatch (s.setOut out)) := endBatch_inner _
    obtain ⟨u, isLost⟩ : ∃ u : State,
        u = (endBatch (s.setOut out)).losing o (o.cause.getD .tuneFail) ((s.setOut out).spanOf o.link o.previous) := ⟨_, rfl⟩
    have inner := losing_inner o (o.cause.getD .tuneFail) ((s.setOut out).spanOf o.link o.previous) (endBatch (s.setOut out))
    have link := link_losing o (o.cause.getD .tuneFail) ((s.setOut out).spanOf o.link o.previous) (endBatch (s.setOut out))
    have marked := losing_ownMarked o (endBatch (s.setOut out)) (o.cause.getD .tuneFail) ((s.setOut out).spanOf o.link o.previous)
    have noted := losing_noted o (o.cause.getD .tuneFail) ((s.setOut out).spanOf o.link o.previous) (endBatch (s.setOut out))
    obtain ⟨gen, rte, lmn, -⟩ :=
      losing_leaves o (o.cause.getD .tuneFail) ((s.setOut out).spanOf o.link o.previous) (endBatch (s.setOut out))
    rw [← isLost] at inner link marked noted gen rte lmn
    rw [spanOf_channels] at marked
    have here := (link o.link).trans (if_pos rfl)
    refine ⟨u, isLost ▸ runs, (congrArg Link.carrier here :), (congrArg Link.health here :), inner.cfg _, inner.tally _,
      fun j other => (link j).trans (if_neg other.symm), gen, inner.bands, inner.windows,
      by rw [rte], by rw [rte]; rfl, by rw [rte]; rfl, by rw [rte]; rfl, by rw [rte]; rfl, lmn, inner.tly, inner.tbm, ?_,
      marked.congr rfl rfl (fun _ => .rfl) rfl, ?_⟩
    · rw [rte]
      exact awaited_filter _
    · rintro cause isCause node normal f rfl
      have sameCause : o.cause.getD .tuneFail = cause := by rw [isCause]; rfl
      rw [sameCause] at noted
      exact noted node normal

end Sys2Proof.Machine
end

section
/-! Proofs of the planner's requests and of its arbiter (R40 to R43, R182). -/

namespace Sys2Proof.Machine

/-! ## The arbiter (R42, R43) -/

section
variable {s : State} {w : Work}

theorem beginOp_active (w : Work) (s : State) : (beginOp w s).cpl.active = some (s.opOf w) := rfl

/-- Only a REFILL may be over at once (R47). -/
theorem endsAtOnce_lasting {op : ActiveOp} (lasting : op.kind ≠ .refill ∨ op.snap.openBand ≠ none) : op.endsAtOnce = false := by
  rcases lasting with kind | opened
  · simp [ActiveOp.endsAtOnce, kind]
  · simp [ActiveOp.endsAtOnce, Option.isNone_eq_false_iff, Option.isSome_iff_ne_none, opened]

/-- Work that is not over at once runs. -/
theorem arbitrate_takes {n : Nat} {c : Cpl} (next : s.cpl.nextWork = some (w, c))
    (lasts : ((s.onCpl fun _ => c).opOf w).endsAtOnce = false) : arbitrate (n + 1) s = beginOp w (s.onCpl fun _ => c) := by
  rw [arbitrate, next]
  exact if_neg (by rw [lasts]; exact Bool.false_ne_true)

theorem arbitrate_rests (n : Nat) (idle : s.cpl.nextWork = none) : arbitrate n s = s.onCpl fun c => { c with active := none } := by
  cases n with
  | zero => rfl
  | succ n => rw [arbitrate, idle]

theorem nextWork_rte {c : Cpl} {r : RteRequest} (waits : c.rtePlace = some r) :
    c.nextWork = some (.rte r, { c with rtePlace := none }) := by
  rw [Cpl.nextWork, waits]

theorem nextWork_mgr {c : Cpl} {r : MgrRequest} (free : c.rtePlace = none) (waits : c.mgrPlace = some r) :
    c.nextWork = some (.mgr r, { c with mgrPlace := none }) := by
  rw [Cpl.nextWork, free, waits]

theorem nextWork_flag {c : Cpl} (rte : c.rtePlace = none) (mgr : c.mgrPlace = none) :
    c.nextWork = ((List.finRange 4).find? (rd c.flags)).map fun b => (.refill b, c) := by
  rw [Cpl.nextWork, rte, mgr]

/-- The lowest flag is the first that is set. -/
theorem find_lowest {n : Nat} {p : Fin n → Bool} {b : Fin n} (flagged : p b = true) (lowest : ∀ c < b, p c = false) :
    (List.finRange n).find? p = some b := by
  cases found : (List.finRange n).find? p with
  | none => exact absurd flagged (List.find?_eq_none.mp found b (List.mem_finRange b))
  | some c =>
    have holds := List.find?_some found
    obtain ⟨-, pre, post, split, before⟩ := List.find?_eq_some_iff_append.mp found
    refine congrArg some (le_antisymm ?_ ?_)
    · by_contra above
      have early : b ∈ pre := by
        have sorted : (pre ++ c :: post).Pairwise (· < ·) := split ▸ List.pairwise_lt_finRange n
        have mem : b ∈ pre ++ c :: post := split ▸ List.mem_finRange b
        rcases List.mem_append.mp mem with early | late
        · exact early
        · rcases List.mem_cons.mp late with same | late
          · exact absurd (le_of_eq same.symm) above
          · exact absurd (List.rel_of_pairwise_cons (List.pairwise_append.mp sorted).2.1 late).le above
      have unset := before b early
      rw [flagged] at unset
      cases unset
    · by_contra below
      rw [lowest c (lt_of_not_ge below)] at holds
      cases holds

theorem opOf_mgr (r : MgrRequest) : s.opOf (.mgr r) =
    { kind := r.kind, origin := .management, band := r.band
      link := if r.kind = .check then r.mover else none
      channel := if r.kind = .check then some r.channel else none
      width := if r.kind = .check then some r.width else none
      mode := .full, snap := s.snapshot r.band, logged := 0, lastExamined := none, found := none, clearFound := [],
      emptied := false, asker := some r.asker } := by
  obtain ⟨kind, _⟩ := r
  cases kind with
  | check => rfl
  | confirm => rfl
  | search => rfl
  | refill => rfl
  | audit => rfl
  | signature => rfl

end

/-- Settles O31. -/
theorem arbiterTakesNextWork : Obligations.ArbiterTakesNextWork := by
  intro s
  refine ⟨fun r waits kind => arbitrate_takes (nextWork_rte waits) (endsAtOnce_lasting (.inl kind)),
    fun free => ⟨fun r waits kind => ?_, fun unasked => ⟨fun b flagged lowest enabled => ?_, fun unflagged => ?_⟩⟩, fun w => ?_⟩
  · refine arbitrate_takes (nextWork_mgr free waits) (endsAtOnce_lasting (.inl ?_))
    rw [opOf_mgr]
    exact kind
  · have next : s.cpl.nextWork = some (.refill b, s.cpl) := by
      rw [nextWork_flag free unasked, find_lowest flagged lowest]
      rfl
    exact arbitrate_takes next (endsAtOnce_enabled rfl enabled)
  · refine arbitrate_rests 8 ?_
    rw [nextWork_flag free unasked, List.find?_eq_none.mpr fun b _ => by rw [unflagged b]; exact Bool.false_ne_true]
    rfl
  · rw [opOf_snapshot]
    exact ⟨rfl, rfl, rfl, rfl, fun k => by rw [State.snapshot, rd_tab]⟩

/-! ## What begins (R34, R41, R43) -/

section
variable {op : ActiveOp}

theorem startLog_logging (logs : op.kind.logs = true) (l : ConflictLog) : op.startLog l =
    { header := some { operation := op.kind, requester := op.origin, link := op.link, band := op.band, channel := op.channel,
                       width := op.width, mode := op.mode, gen := op.snap.gen }
      verdict := none, total := 0, overflow := 0, records := [] } := if_pos logs

theorem startLog_kept (silent : op.kind.logs = false) (l : ConflictLog) : op.startLog l = l :=
  if_neg (by rw [silent]; exact Bool.false_ne_true)

theorem startFlags_kept (plain : op.kind ≠ .refill) (flags : Vector Bool 4) : op.startFlags flags = flags := by
  unfold ActiveOp.startFlags
  split
  · next kind _ => exact absurd kind plain
  · rfl

theorem startFlags_refill {b : BandId} (kind : op.kind = .refill) (band : op.band = b.val) (flags : Vector Bool 4) :
    op.startFlags flags = wr flags b false := by
  rw [ActiveOp.startFlags, kind, band, finField_val]

end

/-! ## Requests of management (R40, R182) -/

theorem offerRsp_onCpl (f : Frame) (g : Cpl → Cpl) (s : State) : offerRsp f (s.onCpl g) = (offerRsp f s).onCpl g := by
  unfold offerRsp
  rw [onCpl_rif]
  split
  · rfl
  · rfl

section
variable {s : State} {q : MgrRequest}

theorem requestMgr_waits (busy : s.cpl.active ≠ none) (free : s.cpl.mgrPlace = none) :
    requestMgr q s = some (s.onCpl fun c => { c with mgrPlace := some q }) :=
  (if_neg (by simp [State.plannerFree, busy])).trans (if_pos (Option.isNone_iff_eq_none.mpr free))

theorem requestMgr_busy (busy : s.cpl.active ≠ none) (occupied : s.cpl.mgrPlace ≠ none) : requestMgr q s = none :=
  (if_neg (by simp [State.plannerFree, busy])).trans (if_neg (by simp [occupied]))

variable (normal : s.normal = true) (free : s.cpl.active = none)
include normal free

theorem requestMgr_idle : requestMgr q s = some (if (s.opOf (.mgr q)).endsAtOnce then
    arbiterNext (answerOp (s.opOf (.mgr q)) .range [] (beginOp (.mgr q) s)) else beginOp (.mgr q) s) :=
  if_pos (by simp [State.plannerFree, normal, free])

theorem requestMgr_begins (lasts : (s.opOf (.mgr q)).endsAtOnce = false) : requestMgr q s = some (beginOp (.mgr q) s) := by
  rw [requestMgr_idle normal free, lasts]
  rfl

/-- A REFILL of a band out of range or disabled, with nothing else to do: the planner is as it was, and the answer is RANGE. -/
theorem requestMgr_ended (kind : q.kind = .refill) (closed : ∀ b : BandId, q.band = b.val → (s.band b).enabled = false)
    (rte : s.cpl.rtePlace = none) (mgr : s.cpl.mgrPlace = none) (flags : ∀ b, rd s.cpl.flags b = false) :
    requestMgr q s = some (offerRsp (s.rspFrame Req.refill q.asker .range []) s) := by
  have op := opOf_mgr (s := s) q
  have isRefill : (s.opOf (.mgr q)).kind = .refill := by rw [op]; exact kind
  have ends : (s.opOf (.mgr q)).endsAtOnce = true := by
    have closes : (s.opOf (.mgr q)).snap.openBand = none := by
      refine Option.eq_none_iff_forall_ne_some.mpr fun e opened => ?_
      obtain ⟨band, enabled⟩ := openBand_eq_some_iff.mp opened
      rw [op] at band
      obtain ⟨b, named, rfl⟩ := Option.map_eq_some_iff.mp band
      rw [closed b (val_eq_iff_finField.mpr named).symm] at enabled
      cases enabled
    simp [ActiveOp.endsAtOnce, isRefill, closes]
  have flagsKept : (s.opOf (.mgr q)).startFlags s.cpl.flags = s.cpl.flags := by
    unfold ActiveOp.startFlags
    split
    · next b _ _ =>
      refine tab_ext fun i => ?_
      by_cases same : b = i
      · rw [← same, rd_wr_same, flags]
      · rw [rd_wr_ne _ _ _ _ same]
    · rfl
  have logKept : (s.opOf (.mgr q)).startLog s.cpl.log = s.cpl.log := by
    rw [ActiveOp.startLog, isRefill]
    rfl
  have begun : beginOp (.mgr q) s = s.onCpl fun c => { c with active := some (s.opOf (.mgr q)) } := by
    rw [beginOp, State.onCpl, flagsKept, logKept]
    rfl
  have answered : answerOp (s.opOf (.mgr q)) .range [] (beginOp (.mgr q) s) =
      (offerRsp (s.rspFrame Req.refill q.asker .range []) s).onCpl fun c => { c with active := some (s.opOf (.mgr q)) } := by
    rw [begun, op, answerOp, kind, ← offerRsp_onCpl]
    rfl
  have quiet : ((offerRsp (s.rspFrame Req.refill q.asker .range []) s).onCpl fun c =>
      { c with active := some (s.opOf (.mgr q)) }).cpl.nextWork = none := by
    rw [onCpl_cpl, offerRsp_cpl]
    rw [nextWork_flag (by exact rte) (by exact mgr), List.find?_eq_none.mpr fun b _ => by rw [flags b]; exact Bool.false_ne_true]
    rfl
  rw [requestMgr_idle normal free, ends, if_pos rfl, answered, arbiterNext, arbitrate_rests 8 quiet]
  have inactive : (offerRsp (s.rspFrame Req.refill q.asker .range []) s).cpl.active = none := by rw [offerRsp_cpl, free]
  exact congrArg some (congrArg (fun a => (offerRsp (s.rspFrame Req.refill q.asker .range []) s).onCpl fun c =>
    { c with active := a }) inactive.symm)

end

theorem takes_normal {h : CmdHead} {code : Byte} {p : List Byte} {s : State} (taken : s.takes h code p = true) : s.normal = true := by
  simp only [State.takes, State.consumes, State.working, Bool.and_eq_true] at taken
  obtain ⟨⟨⟨⟨⟨⟨-, normal⟩, -⟩, -⟩, -⟩, -⟩, -⟩ := taken
  exact normal

/-- A planner request that is taken goes to the planner with what its parameters say (R163, R182). -/
theorem exec_askPlanner {h : CmdHead} {c : Instr} {code : Byte} {p : List Byte} {q : MgrRequest} {s : State}
    (taken : s.takes h code p = true) {kind : OpKind} {n : Nat} (exec_eq : exec c s = .next (receiveCmd h code p (askPlanner kind n) s))
    (length : p.length = n) (read : plannerRequest kind p h.asker = q) (request : kind.request = code) :
    exec c s = .next ((requestMgr q s.handed).getD (reply h code .busy [] s.handed)) := by
  rw [exec_eq, receiveCmd_taken _ taken, askPlanner, if_pos length, read]
  cases requestMgr q s.handed with
  | some t => rfl
  | none =>
    have entry : s.handed.rif.entry = none := takes_entry taken
    rw [← request]
    exact congrArg _ (answerCmd_offers entry _ _)

/-- Settles O30. -/
theorem plannerRequests : Obligations.PlannerRequests := by
  intro h c code p q s taken asked
  have handled : q.kind.request = code ∧ q.asker = h.asker ∧ exec c s = .next ((requestMgr q s.handed).getD (reply h code .busy [] s.handed)) := by
    rcases asked with ⟨b, c1, c0, w1, w0, m, rfl, rfl, rfl, rfl⟩ | ⟨b, rfl, rfl, rfl, rfl⟩ | ⟨b, rfl, rfl, rfl, rfl⟩
      | ⟨rfl, rfl, rfl, rfl⟩
    · exact ⟨rfl, rfl, exec_askPlanner taken (kind := .check) (n := 6) rfl rfl rfl rfl⟩
    · exact ⟨rfl, rfl, exec_askPlanner taken (kind := .audit) (n := 1) rfl rfl rfl rfl⟩
    · exact ⟨rfl, rfl, exec_askPlanner taken (kind := .refill) (n := 1) rfl rfl rfl rfl⟩
    · exact ⟨rfl, rfl, exec_askPlanner taken (kind := .signature) (n := 0) rfl rfl rfl rfl⟩
  obtain ⟨request, asker, handled⟩ := handled
  have normal : s.handed.normal = true := takes_normal taken
  rw [handled]
  refine ⟨fun busy free => ?_, fun busy occupied => ?_, fun free op isOp => ?_⟩
  · rw [requestMgr_waits (s := s.handed) busy free]
    rfl
  · rw [requestMgr_busy (s := s.handed) busy occupied]
    rfl
  have work : s.handed.opOf (.mgr q) = op := (opOf_mgr q).trans isOp.symm
  have opKind : op.kind = q.kind := by rw [isOp]
  have begins (lasts : op.endsAtOnce = false) : (requestMgr q s.handed).getD (reply h code .busy [] s.handed) =
      { s.handed with cpl := { s.cpl with
          active := some op, log := op.startLog s.cpl.log, flags := op.startFlags s.cpl.flags } } := by
    rw [requestMgr_begins (s := s.handed) normal free (by rw [work]; exact lasts), Option.getD_some, beginOp, work]
    rfl
  have plainly (plain : q.kind ≠ .refill) : (requestMgr q s.handed).getD (reply h code .busy [] s.handed) =
      { s.handed with cpl := { s.cpl with active := some op, log := op.startLog s.cpl.log } } := by
    rw [begins (endsAtOnce_lasting (.inl (opKind ▸ plain))), startFlags_kept (opKind ▸ plain)]
  refine ⟨fun logs => ?_, fun kind => ?_, fun kind => ⟨fun b band enabled => ?_, fun closed rte mgr flags => ?_⟩⟩
  · have logging : op.kind.logs = true ∧ q.kind ≠ .refill := by
      rw [opKind]
      rcases logs with kind | kind
      · simp [kind, OpKind.logs]
      · simp [kind, OpKind.logs]
    have origin : op.origin = .management ∧ op.mode = .full ∧ op.snap.gen = s.plan.gen := by
      rw [isOp]
      exact ⟨rfl, rfl, rfl⟩
    rw [plainly logging.2, startLog_logging logging.1, origin.1, origin.2.1, origin.2.2]
    rfl
  · rw [plainly (by rw [kind]; exact OpKind.noConfusion), startLog_kept (by rw [opKind, kind]; rfl)]
    rfl
  · have opBand : (s.handed.opOf (.mgr q)).band = b.val := by rw [work, isOp]; exact band
    have lasts : op.endsAtOnce = false := work ▸ endsAtOnce_enabled (s := s.handed) opBand enabled
    rw [begins lasts, startLog_kept (by rw [opKind, kind]; rfl), startFlags_refill (opKind.trans kind) (work ▸ opBand)]
    rfl
  · rw [requestMgr_ended (s := s.handed) normal free kind closed rte mgr flags, asker, ← request, kind]
    rfl

end Sys2Proof.Machine
end

section
/-! Proofs of the standing evaluation and of the completions of AUDIT and SIGNATURE (R33, R46, R49). -/

namespace Sys2Proof.Machine

/-! ## The standing evaluation (R33) -/

section
variable {ps : List (Carrier × Nat)} {n : Nat} {entry : Nat → Tone} (num : Numbered ps n entry) (e : BandEntry)
include num

/-- The spacing tests of each pair in the order of R29 (R33). -/
theorem standingSpacing_eq : ((pairs ps).flatMap fun ij => spacingTest e ij.1.1.item ij.1.1.freq ij.1.1.width ij.2.1)
    = (positionPairs n).filterMap fun x => spacingHit e.gcc (entry x.1) (entry x.2) := by
  rw [List.filterMap_eq_flatMap_toList]
  refine num.pairs_flatMap fun x hx y hy => ?_
  rw [spacingTest_eq, ← num.tones x hx, ← num.tones y hy]
  rfl

/-- The two-tone tests of a standing evaluation in their order (R33). -/
theorem standingTwoTone_eq : (ps.flatMap fun a => (others ps [a.2]).flatMap fun b =>
      (others ps [a.2, b.2]).flatMap fun k => im2Test e a.1.tone b.1.tone k.1.tone)
    = (standingTwoTone n entry).filterMap (twoToneHit e.gim) := by
  have victims : ∀ a ∈ ps, ∀ b ∈ ps, ((others ps [a.2, b.2]).flatMap fun k => im2Test e a.1.tone b.1.tone k.1.tone)
      = (positions n [a.2, b.2]).filterMap fun k => twoToneHit e.gim (entry a.2, entry b.2, entry k) := fun a ha b hb =>
    num.others_hits fun k hk => by rw [im2Test_eq, num.tones a ha, num.tones b hb, num.tones k hk]
  simp only [standingTwoTone, List.filterMap_flatMap, List.filterMap_map]
  exact num.flatMap fun a ha => num.others_flatMap (victims a ha)

/-- The three-tone tests of a standing evaluation in their order (R33). -/
theorem standingThreeTone_eq : ((pairs ps).flatMap fun xy => (others ps [xy.1.2, xy.2.2]).flatMap fun z =>
      (others ps [xy.1.2, xy.2.2, z.2]).flatMap fun k => im3Test e xy.1.1.tone xy.2.1.tone z.1.tone k.1.tone)
    = (standingThreeTone n entry).filterMap (threeToneHit e.gim) := by
  have victims : ∀ x ∈ ps, ∀ y ∈ ps, ∀ z ∈ ps,
      ((others ps [x.2, y.2, z.2]).flatMap fun k => im3Test e x.1.tone y.1.tone z.1.tone k.1.tone)
        = (positions n [x.2, y.2, z.2]).filterMap fun k => threeToneHit e.gim (entry x.2, entry y.2, entry z.2, entry k) :=
    fun x hx y hy z hz => num.others_hits fun k hk => by
      rw [im3Test_eq, num.tones x hx, num.tones y hy, num.tones z hz, num.tones k hk]
  simp only [standingThreeTone, List.filterMap_flatMap, List.filterMap_map]
  exact num.pairs_flatMap fun x hx y hy => num.others_flatMap (victims x hx y hy)

end

section
variable {snap : Snapshot} {b : Nat}

/-- A standing evaluation is RANGE on a missing or disabled band (R33). -/
theorem standingEvaluation_range (closed : snap.band = none ∨ ∃ e, snap.band = some e ∧ e.enabled = false) :
    standingEvaluation snap b = .range := by
  have shut : snap.openBand = none := by
    refine Option.eq_none_iff_forall_ne_some.mpr fun e opened => ?_
    obtain ⟨band, enabled⟩ := openBand_eq_some_iff.mp opened
    rcases closed with missing | ⟨e', band', disabled⟩
    · rw [band] at missing
      cases missing
    · obtain rfl : e = e' := Option.some.inj (band.symm.trans band')
      rw [enabled] at disabled
      cases disabled
  rw [standingEvaluation, shut]

/-- On an enabled band a standing evaluation makes its parts in order, by the positions of the checked set (R33). -/
theorem standingEvaluation_eq {e : BandEntry} (band : snap.band = some e) (enabled : e.enabled = true) {count : Nat}
    {entry : Nat → Tone} (num : Numbered (checkedSet snap e b none).zipIdx count entry) : standingEvaluation snap b =
      .conflicts (((List.range count).flatMap fun i =>
          exclusionStage snap e b (entry i).1 (carrierSpan (entry i).2.1 (entry i).2.2))
        ++ ((positionPairs count).filterMap fun x => spacingHit e.gcc (entry x.1) (entry x.2))
        ++ (standingTwoTone count entry).filterMap (twoToneHit e.gim)
        ++ (if e.threeTone then (standingThreeTone count entry).filterMap (threeToneHit e.gim) else [])) := by
  have excluded : ((checkedSet snap e b none).zipIdx.flatMap fun i =>
      exclusionStage snap e b i.1.item (carrierSpan i.1.freq i.1.width))
      = (List.range count).flatMap fun i =>
          exclusionStage snap e b (entry i).1 (carrierSpan (entry i).2.1 (entry i).2.2) :=
    num.flatMap fun k hk => by rw [← num.tones k hk]; rfl
  unfold standingEvaluation
  rw [openBand_eq_some_iff.mpr ⟨band, enabled⟩]
  simp only [excluded, standingSpacing_eq num, standingTwoTone_eq num, standingThreeTone_eq num]

end

/-! ## The completions (R46, R49) -/

theorem exec_auditCompletion (s : State) :
    exec .auditCompletion s = .next (event (whileRunning (fun k => k = .audit) completeAudit) s) := rfl

theorem exec_signatureCompletion (s : State) :
    exec .signatureCompletion s = .next (event (whileRunning (fun k => k = .signature) completeSignature) s) := rfl

section
variable {op : ActiveOp} {a : Asker} {s : State} (asker : op.asker = some a)
include asker

theorem answerOp_asked (st : RspStatus) (results : List Byte) :
    answerOp op st results s = offerRsp (s.rspFrame op.kind.request a st results) s := by
  rw [answerOp, asker]

/-- An AUDIT writes its verdict and answers with its total and its generation (R46). -/
theorem completeAudit_eq (kind : op.kind = .audit) {found : Findings} {v : Verdict} {st : RspStatus}
    (findings : found = standingEvaluation op.snap op.band)
    (outcome : found = .range ∧ v = .range ∧ st = .range ∨ found = .conflicts [] ∧ v = .clean ∧ st = .ok
      ∨ (∃ x l, found = .conflicts (x :: l)) ∧ v = .conflict ∧ st = .conflict) :
    completeAudit op s = arbiterNext (offerRsp
      (s.rspFrame Req.audit a st (n16 found.total ++ halfBytes op.snap.gen))
      (s.onCpl fun c => { c with log :=
        { (found.list.drop op.logged).foldl ConflictLog.append c.log with verdict := some v } })) := by
  have own : op.findings = found := by rw [findings, ActiveOp.findings, kind]
  unfold completeAudit finishLog
  simp only [answerOp_asked asker, own, kind]
  rcases outcome with ⟨rfl, rfl, rfl⟩ | ⟨rfl, rfl, rfl⟩ | ⟨⟨x, l, rfl⟩, rfl, rfl⟩
  · rfl
  · rfl
  · rfl

end

/-- The fields of a link that a SIGNATURE feeds (R49). -/
def Snapshot.signed (snap : Snapshot) (k : LinkId) : List Byte :=
  [byte k.val, byte (rd snap.links k).band.val] ++ channelOrNone (rd snap.links k).carrier.channel ++ n16 (rd snap.links k).width

/-- The fields of each link with a carrier, in link order (R49). -/
def Snapshot.fed (snap : Snapshot) : List (List Byte) :=
  ((List.finRange 64).filter fun k => (rd snap.links k).carrier.state ≠ .none).map snap.signed

theorem signed_length (snap : Snapshot) (k : LinkId) : (snap.signed k).length = 6 := by
  unfold Snapshot.signed
  cases (rd snap.links k).carrier.channel with
  | none => rfl
  | some n => rfl

/-- A stage that adds a list where a test holds joins the lists of those that pass it. -/
theorem flatMap_ite_nil {α γ : Type} (l : List α) (test : α → Bool) (f : α → List γ) :
    (l.flatMap fun x => if test x then f x else []) = ((l.filter test).map f).flatten := by
  induction l with
  | nil => rfl
  | cons x l ih => cases holds : test x <;> simp [holds, ih]

theorem signatureBytes_eq (snap : Snapshot) : signatureBytes snap = snap.fed.flatten := by
  rw [Snapshot.fed, ← flatMap_ite_nil]
  refine List.flatMap_congr fun k _ => ?_
  simp only [decide_eq_true_eq, Snapshot.signed]

theorem fed_length (snap : Snapshot) : snap.fed.flatten.length / 6 = snap.fed.length := by
  have six : snap.fed.map List.length = List.replicate snap.fed.length 6 := by
    refine List.eq_replicate_iff.mpr ⟨List.length_map _, fun n mem => ?_⟩
    obtain ⟨l, isFed, rfl⟩ := List.mem_map.mp mem
    obtain ⟨k, -, rfl⟩ := List.mem_map.mp isFed
    exact signed_length snap k
  rw [List.length_flatten, six, List.sum_replicate, smul_eq_mul, Nat.mul_div_cancel _ (by decide)]

/-- Settles O34. -/
theorem auditAndSignatureComplete : Obligations.AuditAndSignatureComplete := by
  refine ⟨fun snap b => ⟨standingEvaluation_range, fun e band enabled => ⟨checkedSet snap e b none,
    checkedSet_checks snap e b none, fun entry atPositions => ⟨fun i =>
      exclusionStage snap e b (entry i).1 (carrierSpan (entry i).2.1 (entry i).2.2),
      fun i _ => exclusionStage_excludes snap e b (entry i),
      standingEvaluation_eq band enabled (numbered_zipIdx atPositions)⟩⟩⟩,
    fun op a s live active asker => ⟨fun kind found v st findings outcome => ?_, fun kind fed isFed => ?_⟩⟩
  · rw [exec_auditCompletion, event_whileRunning live active (by simpa using kind),
      completeAudit_eq asker kind findings outcome]
    rfl
  · have isFed : fed = op.snap.fed := isFed
    rw [exec_signatureCompletion, event_whileRunning live active (by simpa using kind), completeSignature]
    simp only [answerOp_asked asker, signatureBytes_eq, fed_length, kind, isFed]
    rfl

end Sys2Proof.Machine
end

section
/-! Proofs of the walk of a SEARCH (R45). -/

namespace Sys2Proof.Machine

/-! ## The walk over a list -/

/-- An entry is examined: it is not at the link's current channel (R45). -/
def ActiveOp.examines (op : ActiveOp) (x : Spare) : Bool := op.currentChannel ≠ some x.channel

/-- The planner at a point of its walk: the operation, and the band's list (R45). -/
def State.onSearch (s : State) (op : ActiveOp) (b : BandId) (l : List Spare) : State :=
  s.onCpl fun c => { c with active := some op, spares := wr c.spares b l }

theorem first_of_filter {l rest : List Spare} {p : Spare → Bool} {e : Spare} (first : l.filter p = e :: rest) :
    e ∈ l ∧ p e = true :=
  List.mem_filter.mp (by rw [first]; exact List.mem_cons_self)

/-- In a list of distinct channels an entry leaves by its channel as by itself. -/
theorem filter_channel {l : List Spare} (distinct : (l.map (·.channel)).Nodup) {e : Spare} (mem : e ∈ l) :
    (l.filter fun x => x.channel ≠ e.channel) = l.filter fun x => x ≠ e := by
  refine List.filter_congr fun x isHere => decide_eq_decide.mpr (not_congr ⟨fun same => ?_, congrArg _⟩)
  exact List.inj_on_of_nodup_map distinct isHere mem same

theorem verdict_clear_iff (f : Findings) : f.verdict .clear = .clear ↔ f = .conflicts [] := by
  rcases f with _ | _ | _
  · simp [Findings.verdict]
  · simp [Findings.verdict]
  · simp [Findings.verdict]

theorem entryClear_iff (op : ActiveOp) (e : Spare) : op.entryClear e = true ↔
    compatCheck op.snap op.band e.channel (op.width.getD 0) op.link .full = .conflicts [] := by
  rw [ActiveOp.entryClear, decide_eq_true_eq, verdict_clear_iff]

section
variable {s : State} {op : ActiveOp} {b : BandId} {l : List Spare}

theorem onSearch_self (active : s.cpl.active = some op) : s.onSearch op b (rd s.cpl.spares b) = s := by
  rw [State.onSearch, State.onCpl, wr_rd_self, ← active]

theorem onSearch_onSearch (op' : ActiveOp) (l' : List Spare) : (s.onSearch op b l).onSearch op' b l' = s.onSearch op' b l' := by
  rw [State.onSearch, State.onSearch, State.onSearch, State.onCpl, State.onCpl, State.onCpl, wr_wr]

theorem onSearch_active : (s.onSearch op b l).cpl.active = some op := rfl

theorem onSearch_spares : rd (s.onSearch op b l).cpl.spares b = l := rd_wr_same _ _ _

/-- With a CLEAR entry found a SEARCH goes no further (R45). -/
theorem searchEntry_found {n : Nat} (active : s.cpl.active = some op) (found : op.found = some n) : searchEntry s = s := by
  simp [searchEntry, active, found]

section
variable (kind : op.kind = .search) (band : op.band = b.val) (unfound : op.found = none)
include kind band unfound

theorem searchEntry_empty (done : l.filter op.examines = []) : searchEntry (s.onSearch op b l) = s.onSearch op b l := by
  have next : op.nextEntry l = none := List.find?_eq_none.mpr (List.filter_eq_nil_iff.mp done)
  unfold searchEntry
  simp only [onSearch_active, kind, unfound, band, finField_val, onSearch_spares, next]

theorem searchEntry_next (active : s.cpl.active = some op) {e : Spare} (next : op.nextEntry (rd s.cpl.spares b) = some e) :
    searchEntry s = s.onSearch { op with
        lastExamined := some e.channel, found := if op.entryClear e then some e.channel else none } b
      ((rd s.cpl.spares b).filter fun x => x.channel ≠ e.channel) := by
  have field : finField 4 op.band = some b := by rw [band, finField_val]
  unfold searchEntry
  simp only [active, kind, unfound, field, next]
  rfl

theorem searchEntry_examines {e : Spare} {rest : List Spare} (first : l.filter op.examines = e :: rest) :
    searchEntry (s.onSearch op b l) = s.onSearch { op with
        lastExamined := some e.channel, found := if op.entryClear e then some e.channel else none } b
      (l.filter fun x => x.channel ≠ e.channel) := by
  have next : op.nextEntry l = some e := by
    rw [ActiveOp.nextEntry, ← List.head?_filter]
    exact congrArg List.head? first
  have spares : rd (s.onSearch op b l).cpl.spares b = l := onSearch_spares
  rw [searchEntry_next kind band unfound onSearch_active (by rw [spares]; exact next), spares, onSearch_onSearch]

end

theorem searchRun_found (n : Nat) {m : Nat} (active : s.cpl.active = some op) (found : op.found = some m) : searchRun n s = s := by
  induction n with
  | zero => rfl
  | succ n ih => rw [searchRun, searchEntry_found active found, ih]

end

/-! ## The walk to its end (R45) -/

section
variable {s : State} {b : BandId}

/-- Once the first entry has left a list of distinct channels the others are to be examined. -/
theorem filter_examines_rest {op : ActiveOp} {l rest : List Spare} {e : Spare} (distinct : (l.map (·.channel)).Nodup)
    (first : l.filter op.examines = e :: rest) :
    (l.filter fun x => x.channel ≠ e.channel).filter op.examines = rest := by
  obtain ⟨mem, -⟩ := first_of_filter first
  have nodup : (e :: rest).Nodup := first ▸ (List.Nodup.of_map _ distinct).filter _
  obtain ⟨absent, -⟩ := List.nodup_cons.mp nodup
  rw [filter_channel distinct mem, List.filter_filter]
  have swapped : (l.filter fun x => op.examines x && decide (x ≠ e)) = (l.filter op.examines).filter fun x => x ≠ e := by
    rw [List.filter_filter]
    exact List.filter_congr fun x _ => Bool.and_comm _ _
  rw [swapped, first, List.filter_cons_of_neg (by simp)]
  exact List.filter_eq_self.mpr fun x isRest => decide_eq_true fun same => absent (same ▸ isRest)

theorem distinct_filter {l : List Spare} (distinct : (l.map (·.channel)).Nodup) (p : Spare → Bool) :
    ((l.filter p).map (·.channel)).Nodup :=
  distinct.sublist (List.filter_sublist.map _)

/-- A walk that comes to a CLEAR entry ends there: the entries before it and it have left (R45). -/
theorem searchRun_clear (e : Spare) (post : List Spare) : ∀ (pre : List Spare) (n : Nat) (op : ActiveOp) (l : List Spare),
    op.kind = .search → op.band = b.val → op.found = none → (l.map (·.channel)).Nodup →
    l.filter op.examines = pre ++ e :: post → (∀ x ∈ pre, op.entryClear x = false) → op.entryClear e = true → pre.length < n →
    searchRun n (s.onSearch op b l) = s.onSearch { op with lastExamined := some e.channel, found := some e.channel } b
      (l.filter fun x => x ∉ pre ++ [e]) := by
  intro pre
  induction pre with
  | nil =>
    intro n op l kind band unfound distinct walk _ clear fuel
    obtain ⟨n, rfl⟩ := Nat.exists_eq_add_one_of_ne_zero (Nat.ne_of_gt fuel)
    obtain ⟨mem, -⟩ := first_of_filter walk
    rw [searchRun, searchEntry_examines kind band unfound walk, clear, if_pos rfl, searchRun_found n rfl rfl,
      filter_channel distinct mem]
    simp
  | cons y pre ih =>
    intro n op l kind band unfound distinct walk unclear clear fuel
    obtain ⟨n, rfl⟩ := Nat.exists_eq_add_one_of_ne_zero (Nat.ne_of_gt (Nat.zero_lt_of_lt fuel))
    obtain ⟨mem, -⟩ := first_of_filter walk
    have further := ih n { op with lastExamined := some y.channel, found := none } (l.filter fun x => x.channel ≠ y.channel)
      kind band rfl (distinct_filter distinct _) (filter_examines_rest distinct walk)
      (fun x isPre => unclear x (List.mem_cons_of_mem y isPre)) clear (Nat.lt_of_succ_lt_succ fuel)
    rw [searchRun, searchEntry_examines kind band unfound walk, unclear y List.mem_cons_self, if_neg Bool.false_ne_true, further,
      filter_channel distinct mem, List.filter_filter]
    refine congrArg _ (List.filter_congr fun x _ => ?_)
    simp only [List.cons_append, List.mem_cons, not_or, Bool.decide_and]
    exact Bool.and_comm _ _

/-- A walk without a CLEAR entry leaves the entries at the current channel (R45). -/
theorem searchRun_exhausted : ∀ (cand : List Spare) (n : Nat) (op : ActiveOp) (l : List Spare),
    op.kind = .search → op.band = b.val → op.found = none → (l.map (·.channel)).Nodup →
    l.filter op.examines = cand → (∀ x ∈ cand, op.entryClear x = false) → cand.length ≤ n →
    ∃ last, searchRun n (s.onSearch op b l) = s.onSearch { op with lastExamined := last } b
      (l.filter fun x => op.currentChannel = some x.channel) := by
  intro cand
  induction cand with
  | nil =>
    intro n op l kind band unfound _ walk _ _
    have stays : searchRun n (s.onSearch op b l) = s.onSearch op b l := by
      induction n with
      | zero => rfl
      | succ n ih => rw [searchRun, searchEntry_empty kind band unfound walk, ih (Nat.zero_le n)]
    refine ⟨op.lastExamined, stays.trans (congrArg (s.onSearch op b) (List.filter_eq_self.mpr fun x mem => ?_).symm)⟩
    have unexamined := List.filter_eq_nil_iff.mp walk x mem
    simpa [ActiveOp.examines] using unexamined
  | cons y rest ih =>
    intro n op l kind band unfound distinct walk unclear fuel
    obtain ⟨n, rfl⟩ := Nat.exists_eq_add_one_of_ne_zero (Nat.ne_of_gt (Nat.zero_lt_of_lt fuel))
    obtain ⟨last, further⟩ := ih n { op with lastExamined := some y.channel, found := none }
      (l.filter fun x => x.channel ≠ y.channel) kind band rfl (distinct_filter distinct _) (filter_examines_rest distinct walk)
      (fun x isRest => unclear x (List.mem_cons_of_mem y isRest)) (Nat.le_of_succ_le_succ fuel)
    obtain ⟨mem, examined⟩ := first_of_filter walk
    refine ⟨last, ?_⟩
    rw [searchRun, searchEntry_examines kind band unfound walk, unclear y List.mem_cons_self, if_neg Bool.false_ne_true, further,
      List.filter_filter]
    refine congrArg₂ (fun op l => s.onSearch op b l) (by rw [unfound]) (List.filter_congr fun x _ => ?_)
    have apart (stays : op.currentChannel = some x.channel) : x.channel ≠ y.channel := fun same =>
      of_decide_eq_true examined (stays.trans (congrArg some same))
    exact (Bool.decide_and _ _).symm.trans (decide_eq_decide.mpr ⟨And.left, fun stays => ⟨stays, apart stays⟩⟩)

end

/-! ## The two events of a SEARCH (R45) -/

theorem exec_searchEntryVerdict (s : State) :
    exec .searchEntryVerdict s = .next (event (whileRunning (fun k => k = .search) fun _ => searchEntry) s) := rfl

theorem exec_searchCompletion (s : State) :
    exec .searchCompletion s = .next (event (whileRunning (fun k => k = .search) fun _ => completeSearch) s) := rfl

/-- The completion of a SEARCH hands on what its walk comes to (R45). -/
theorem completeSearch_walked {s t : State} {op : ActiveOp} (walked : searchRun 16 s = t) (active : t.cpl.active = some op) :
    completeSearch s = arbiterNext (takeResult op.searchResult t) := by
  unfold completeSearch
  simp only [Config.listCapacity, walked, active]

/-- Settles O35. -/
theorem searchWalksSpareList : Obligations.SearchWalksSpareList := by
  refine ⟨fun op n s live active kind found => ?_, fun op b cand s live active kind unfound band isCand distinct capacity clear
    isClear => ?_⟩
  · rw [exec_searchEntryVerdict, exec_searchCompletion, event_whileRunning live active (by simpa using kind),
      event_whileRunning live active (by simpa using kind), searchEntry_found (s := s.quieted) active found,
      completeSearch_walked (searchRun_found 16 (s := s.quieted) active found) active, ActiveOp.searchResult, found]
    exact ⟨rfl, rfl⟩
  · rw [exec_searchEntryVerdict, exec_searchCompletion, event_whileRunning live active (by simpa using kind),
      event_whileRunning live active (by simpa using kind)]
    have walking : s.quieted = s.quieted.onSearch op b (rd s.cpl.spares b) := (onSearch_self (s := s.quieted) active).symm
    have cleared (x : Spare) : op.entryClear x = true ↔ clear x := (entryClear_iff op x).trans (isClear x).symm
    have uncleared (x : Spare) (unclear : ¬clear x) : op.entryClear x = false :=
      Bool.eq_false_iff.mpr fun is => unclear ((cleared x).mp is)
    have walk : (rd s.cpl.spares b).filter op.examines = cand := isCand.symm
    rw [walking]
    refine ⟨fun e rest first => ?_, fun done => ?_, fun pre e post split unclear isHere => ?_, fun unclear => ?_⟩
    · refine ⟨{ op with lastExamined := some e.channel, found := if op.entryClear e then some e.channel else none }, rfl,
        fun is => if_pos ((cleared e).mpr is), fun not => if_neg (by rw [uncleared e not]; exact Bool.false_ne_true), ?_⟩
      rw [searchEntry_examines kind band unfound (walk.trans first)]
      rfl
    · exact congrArg _ (searchEntry_empty kind band unfound (walk.trans done))
    · have short : pre.length < 16 := by
        have length := congrArg List.length (walk.trans split)
        have within := List.length_filter_le op.examines (rd s.cpl.spares b)
        simp only [List.length_append, List.length_cons] at length
        omega
      rw [completeSearch_walked (searchRun_clear e post pre 16 op _ kind band unfound distinct (walk.trans split)
        (fun x isPre => uncleared x (unclear x isPre)) ((cleared e).mpr isHere) short) rfl]
      rfl
    · have short : cand.length ≤ 16 := walk ▸ (List.length_filter_le _ _).trans capacity
      obtain ⟨last, walked⟩ := searchRun_exhausted cand 16 op _ kind band unfound distinct walk
        (fun x mem => uncleared x (unclear x mem)) short (s := s.quieted)
      refine ⟨{ op with lastExamined := last }, rfl, ?_⟩
      rw [completeSearch_walked walked rfl, ActiveOp.searchResult, unfound]
      rfl

end Sys2Proof.Machine
end

section
/-! Proofs of the candidates of a REFILL and of its completion (R47, R48). -/

namespace Sys2Proof.Machine

/-! ## QUIET cells by rising level (R47) -/

/-- A cell with its last level comes before another: lower level, then lower cell number (R47). -/
def cellBefore (x y : Nat × Int) : Prop := x.2 < y.2 ∨ (x.2 = y.2 ∧ x.1 < y.1)

theorem insertCell_perm (x : Nat × Int) (l : List (Nat × Int)) : (insertCell x l).Perm (x :: l) := by
  induction l with
  | nil => exact .refl _
  | cons y l ih =>
    unfold insertCell
    split
    · exact .refl _
    · exact (ih.cons y).trans (.swap x y l)

/-- A cell numbered above all before it goes behind those of its own level. -/
theorem insertCell_sorted {x : Nat × Int} {l : List (Nat × Int)} (sorted : l.Pairwise cellBefore) (above : ∀ y ∈ l, y.1 < x.1) :
    (insertCell x l).Pairwise cellBefore := by
  induction l with
  | nil => exact List.pairwise_singleton _ _
  | cons y l ih =>
    obtain ⟨first, rest⟩ := List.pairwise_cons.mp sorted
    unfold insertCell
    split
    · next lower =>
      refine List.pairwise_cons.mpr ⟨fun z mem => ?_, sorted⟩
      rcases List.mem_cons.mp mem with rfl | later
      · exact .inl lower
      · rcases first z later with less | ⟨same, -⟩
        · exact .inl (lower.trans less)
        · exact .inl (same ▸ lower)
    · next notLower =>
      refine List.pairwise_cons.mpr ⟨fun z mem => ?_, ih rest fun z later => above z (List.mem_cons_of_mem y later)⟩
      rcases List.mem_cons.mp ((insertCell_perm x l).mem_iff.mp mem) with rfl | later
      · rcases lt_or_eq_of_le (not_lt.mp notLower) with less | same
        · exact .inl less
        · exact .inr ⟨same, above y List.mem_cons_self⟩
      · exact first z later

/-- Cells inserted by rising number into a list of lower ones: all are there, in their order. -/
theorem foldl_insertCell : ∀ (cells acc : List (Nat × Int)), acc.Pairwise cellBefore → cells.Pairwise (fun x y => x.1 < y.1) →
    (∀ y ∈ acc, ∀ x ∈ cells, y.1 < x.1) →
    (cells.foldl (fun acc x => insertCell x acc) acc).Pairwise cellBefore
      ∧ ∀ z, z ∈ cells.foldl (fun acc x => insertCell x acc) acc ↔ z ∈ acc ∨ z ∈ cells := by
  intro cells
  induction cells with
  | nil => exact fun acc sorted _ _ => ⟨sorted, fun z => by simp⟩
  | cons x cells ih =>
    intro acc sorted rising above
    obtain ⟨first, rising⟩ := List.pairwise_cons.mp rising
    have inserted := insertCell_sorted sorted fun y mem => above y mem x List.mem_cons_self
    obtain ⟨order, members⟩ := ih (insertCell x acc) inserted rising fun y mem z later => by
      rcases List.mem_cons.mp ((insertCell_perm x acc).mem_iff.mp mem) with rfl | earlier
      · exact first z later
      · exact above y earlier z (List.mem_cons_of_mem x later)
    refine ⟨order, fun z => (members z).trans ?_⟩
    rw [(insertCell_perm x acc).mem_iff, List.mem_cons, List.mem_cons]
    tauto

section
variable (snap : Snapshot) (e : BandEntry)

/-- A QUIET cell of the band with its last level (R47). -/
def Snapshot.quietAt (j : Fin 256) : Option (Nat × Int) :=
  if j.val < e.cellCount && (rd snap.cells j).state = .quiet then some (j.val, (rd snap.cells j).last.getD 0) else none

theorem quietAt_iff {j : Fin 256} {x : Nat × Int} : snap.quietAt e j = some x ↔
    j.val < e.cellCount ∧ (rd snap.cells j).state = .quiet ∧ x = (j.val, (rd snap.cells j).last.getD 0) := by
  unfold Snapshot.quietAt
  split
  · next is =>
    obtain ⟨inside, quiet⟩ := Bool.and_eq_true_iff.mp is
    exact ⟨fun same => ⟨of_decide_eq_true inside, of_decide_eq_true quiet, (Option.some.inj same).symm⟩,
      fun ⟨_, _, same⟩ => congrArg some same.symm⟩
  · next isNot =>
    refine ⟨fun same => (nomatch same), fun ⟨inside, quiet, _⟩ => absurd ?_ isNot⟩
    exact Bool.and_eq_true_iff.mpr ⟨decide_eq_true inside, decide_eq_true quiet⟩

theorem quietCells_spec : (quietCells snap e).Pairwise cellBefore
    ∧ ∀ x, x ∈ quietCells snap e ↔ ∃ j, snap.quietAt e j = some x := by
  have rising : ((List.finRange 256).filterMap (snap.quietAt e)).Pairwise fun x y => x.1 < y.1 := by
    refine List.Pairwise.filterMap _ (fun i j before x isX y isY => ?_) (List.sortedLT_finRange 256).pairwise
    obtain ⟨-, -, rfl⟩ := (quietAt_iff snap e).mp isX
    obtain ⟨-, -, rfl⟩ := (quietAt_iff snap e).mp isY
    exact before
  obtain ⟨order, members⟩ := foldl_insertCell ((List.finRange 256).filterMap (snap.quietAt e)) [] .nil rising
    fun y mem => (nomatch mem)
  exact ⟨order, fun x => (members x).trans ((or_iff_right List.not_mem_nil).trans (List.mem_filterMap.trans
    ⟨fun ⟨j, _, quiet⟩ => ⟨j, quiet⟩, fun ⟨j, quiet⟩ => ⟨j, List.mem_finRange j, quiet⟩⟩))⟩

end

/-! ## The candidates (R47) -/

section
variable (snap : Snapshot) (e : BandEntry) (b : Nat)

/-- The spare entry of a cell's centre channel (R47). -/
def BandEntry.candidate (e : BandEntry) (x : Nat × Int) : Spare := { channel := e.cellCentre x.1, level := x.2 }

/-- A cell's centre channel is CLEAR at the spare width (R47). -/
def Snapshot.clearAt (x : Nat × Int) : Bool :=
  (compatCheck snap b (e.cellCentre x.1) e.spareWidth none .full).verdict .clear = .clear

theorem clearAt_iff (x : Nat × Int) : snap.clearAt e b x = true ↔
    compatCheck snap b (e.cellCentre x.1) e.spareWidth none .full = .conflicts [] := by
  rw [Snapshot.clearAt, decide_eq_true_eq, verdict_clear_iff]

theorem refillWalk_eq (l : List (Nat × Int)) (n : Nat) :
    refillWalk snap e b l n = ((l.filter (snap.clearAt e b)).take n).map e.candidate := by
  induction l generalizing n with
  | nil => cases n <;> rfl
  | cons x l ih =>
    cases n with
    | zero => simp [refillWalk]
    | succ n =>
      cases clear : snap.clearAt e b x with
      | true =>
        have walk : refillWalk snap e b (x :: l) (n + 1) = e.candidate x :: refillWalk snap e b l n := if_pos (of_decide_eq_true clear)
        rw [walk, ih, List.filter_cons_of_pos clear]
        rfl
      | false =>
        have walk : refillWalk snap e b (x :: l) (n + 1) = refillWalk snap e b l (n + 1) := if_neg (of_decide_eq_false clear)
        rw [walk, ih, List.filter_cons_of_neg (by rw [clear]; exact Bool.false_ne_true)]

/-- The centre channels of a band's cells rise with the cell number (R1, R47). -/
theorem cellCentre_lt {i j : Nat} (before : i < j) (inside : j < e.cellCount) : e.cellCentre i < e.cellCentre j := by
  have span : 0 < e.span := by
    by_contra none
    have zero : e.span = 0 := Nat.eq_zero_of_not_pos none
    rw [BandEntry.cellCount, zero, Nat.div_zero] at inside
    cases inside
  have next : (i + 1) * e.span ≤ j * e.span := Nat.mul_le_mul_right _ before
  have half : min e.span (e.count - e.cellFirst i) / 2 < e.span :=
    lt_of_le_of_lt (Nat.div_le_div_right (min_le_left _ _)) (Nat.div_lt_self span (by decide))
  calc e.cellCentre i < i * e.span + e.span := Nat.add_lt_add_left half _
    _ = (i + 1) * e.span := (Nat.succ_mul i e.span).symm
    _ ≤ j * e.span := next
    _ ≤ e.cellCentre j := Nat.le_add_right _ _

end

section
variable {op : ActiveOp} {e : BandEntry} (opened : op.snap.openBand = some e)

/-- The CLEAR ones of the QUIET cells, by rising level (R47). -/
def ActiveOp.clearCells (op : ActiveOp) (e : BandEntry) : List (Nat × Int) :=
  (quietCells op.snap e).filter (op.snap.clearAt e op.band)

theorem clearCells_sorted : (op.clearCells e).Pairwise cellBefore := (quietCells_spec op.snap e).1.filter _

theorem mem_clearCells {x : Nat × Int} : x ∈ op.clearCells e ↔
    (∃ j, op.snap.quietAt e j = some x) ∧ op.snap.clearAt e op.band x = true := by
  rw [ActiveOp.clearCells, List.mem_filter, (quietCells_spec op.snap e).2]

/-- The candidate of a cell that comes before another's is at a lower level, or at the same level and a lower channel (R47). -/
theorem candidate_before {x y : Nat × Int} (mem : y ∈ op.clearCells e) (before : cellBefore x y) :
    (e.candidate x).level < (e.candidate y).level
      ∨ ((e.candidate x).level = (e.candidate y).level ∧ (e.candidate x).channel < (e.candidate y).channel) := by
  obtain ⟨⟨j, quiet⟩, -⟩ := mem_clearCells.mp mem
  obtain ⟨inside, -, rfl⟩ := (quietAt_iff op.snap e).mp quiet
  exact before.imp id fun ⟨level, number⟩ => ⟨level, cellCentre_lt e number inside⟩

include opened

theorem refillCandidates_eq : refillCandidates op = ((op.clearCells e).take 16).map e.candidate := by
  rw [refillCandidates, opened]
  exact refillWalk_eq op.snap e op.band _ 16

theorem refillCandidates_sorted : (refillCandidates op).Pairwise fun x y =>
    x.level < y.level ∨ (x.level = y.level ∧ x.channel < y.channel) := by
  rw [refillCandidates_eq opened, List.pairwise_map]
  refine (clearCells_sorted.sublist (List.take_sublist 16 _)).imp_of_mem fun _ isTaken before => ?_
  exact candidate_before (List.mem_of_mem_take isTaken) before

/-- A CLEAR cell is a candidate, or sixteen come before it (R47). -/
theorem mem_refillCandidates {y : Nat × Int} (mem : y ∈ op.clearCells e) : e.candidate y ∈ refillCandidates op
    ∨ ((refillCandidates op).length = 16 ∧ ∀ x ∈ refillCandidates op, x.level < (e.candidate y).level
        ∨ (x.level = (e.candidate y).level ∧ x.channel < (e.candidate y).channel)) := by
  rw [refillCandidates_eq opened]
  have split := List.take_append_drop 16 (op.clearCells e)
  rcases List.mem_append.mp (split.symm ▸ mem : y ∈ (op.clearCells e).take 16 ++ (op.clearCells e).drop 16) with taken | left
  · exact .inl (List.mem_map_of_mem taken)
  · refine .inr ⟨?_, fun x isTaken => ?_⟩
    · have positive : 0 < ((op.clearCells e).drop 16).length := List.length_pos_of_mem left
      rw [List.length_drop] at positive
      rw [List.length_map, List.length_take]
      omega
    · obtain ⟨z, taken, rfl⟩ := List.mem_map.mp isTaken
      have sorted : ((op.clearCells e).take 16 ++ (op.clearCells e).drop 16).Pairwise cellBefore := by
        rw [split]
        exact clearCells_sorted
      obtain ⟨-, -, across⟩ := List.pairwise_append.mp sorted
      exact candidate_before mem (across z taken y left)

end

/-! ## The completion (R48) -/

theorem stillSpare_iff {s : State} {b : BandId} {x : Spare} : s.stillSpare b x = true ↔
    (∀ j : Fin 256, j.val = (s.band b).cellOf x.channel →
      (rd (rd s.swp.cells b) j).state ≠ .busy ∧ (rd (rd s.swp.cells b) j).state ≠ .own)
    ∧ ∀ k, (s.link k).cfg.band = b → (s.link k).carrier.state = .committed → (s.link k).carrier.channel ≠ some x.channel := by
  unfold State.stillSpare
  rw [Bool.and_eq_true]
  refine and_congr ?_ ?_
  · split
    · next j isCell =>
      have number : j.val = (s.band b).cellOf x.channel := val_eq_iff_finField.mpr isCell
      rw [Bool.and_eq_true, decide_eq_true_eq, decide_eq_true_eq]
      refine ⟨fun stands i isNumber => ?_, fun stands => stands j number⟩
      obtain rfl : i = j := Fin.ext (isNumber.trans number.symm)
      exact stands
    · next beyond =>
      refine iff_of_true rfl fun j number => ?_
      rw [val_eq_iff_finField.mp number] at beyond
      cases beyond
  · rw [List.all_eq_true]
    refine ⟨fun all k band committed channel => ?_, fun stands k _ => ?_⟩
    · have free := all k (List.mem_finRange k)
      rw [decide_eq_true band, decide_eq_true committed, decide_eq_true channel] at free
      cases free
    · by_cases held : (s.link k).cfg.band = b ∧ (s.link k).carrier.state = .committed
      · simp [stands k held.1 held.2]
      · rw [Bool.not_eq_true', Bool.and_eq_false_iff, ← Bool.decide_and]
        exact .inl (decide_eq_false held)

/-- What a REFILL leaves and answers (R48). -/
theorem completeRefill_eq {op : ActiveOp} {b : BandId} {s : State} {placed : List Spare} (band : op.band = b.val)
    (isPlaced : placed = if op.emptied then [] else (refillCandidates op).filter (s.stillSpare b)) :
    completeRefill op s = arbiterNext (answerOp { op with clearFound := refillCandidates op } .ok
      ([byte placed.length] ++ halfBytes op.snap.gen)
      { s with cpl := { s.cpl with
          active := some { op with clearFound := refillCandidates op }
          spares := if op.emptied then s.cpl.spares else wr s.cpl.spares b placed } }) := by
  have field : finField 4 op.band = some b := by rw [band, finField_val]
  unfold completeRefill
  simp only [field, ← isPlaced]
  cases op.emptied with
  | true => simp only [if_true, onSpares, State.onCpl, wr_rd_self]
  | false => rfl

theorem exec_refillCompletion (s : State) :
    exec .refillCompletion s = .next (event (whileRunning (fun k => k = .refill) completeRefill) s) := rfl

/-- Settles O36. -/
theorem refillReplacesSpareList : Obligations.RefillReplacesSpareList := by
  intro op b e s live active kind band snapBand enabled cands placed quiet u isQuiet isCands isPlaced isState
  have opened : op.snap.openBand = some e := openBand_eq_some_iff.mpr ⟨snapBand, enabled⟩
  have quietAt (j : Fin 256) (x : Spare) : quiet j x ↔
      ∃ y ∈ op.clearCells e, op.snap.quietAt e j = some y ∧ x = e.candidate y := by
    rw [isQuiet]
    constructor
    · obtain ⟨channel, level⟩ := x
      rintro ⟨inside, isQuiet, rfl, rfl, clear⟩
      have quiet : op.snap.quietAt e j = some (j.val, (rd op.snap.cells j).last.getD 0) :=
        (quietAt_iff op.snap e).mpr ⟨inside, isQuiet, rfl⟩
      exact ⟨_, mem_clearCells.mpr ⟨⟨j, quiet⟩, (clearAt_iff op.snap e op.band _).mpr clear⟩, quiet, rfl⟩
    · rintro ⟨y, mem, quiet, rfl⟩
      obtain ⟨inside, isQuiet, rfl⟩ := (quietAt_iff op.snap e).mp quiet
      exact ⟨inside, isQuiet, rfl, rfl, (clearAt_iff op.snap e op.band _).mp (mem_clearCells.mp mem).2⟩
  subst isCands
  refine ⟨⟨refillCandidates_length op, fun x mem => ?_, refillCandidates_sorted opened, fun j x isX => ?_⟩, ?_⟩
  · rw [refillCandidates_eq opened] at mem
    obtain ⟨y, taken, rfl⟩ := List.mem_map.mp mem
    have clear := List.mem_of_mem_take taken
    obtain ⟨⟨j, isY⟩, -⟩ := mem_clearCells.mp clear
    exact ⟨j, (quietAt j _).mpr ⟨y, clear, isY, rfl⟩⟩
  · obtain ⟨y, mem, -, rfl⟩ := (quietAt j x).mp isX
    exact mem_refillCandidates opened mem
  · have isPlaced : placed = if op.emptied then [] else (refillCandidates op).filter (s.quieted.stillSpare b) := by
      rw [isPlaced]
      refine if_congr Iff.rfl rfl (List.filter_congr fun x _ => ?_)
      rw [Bool.eq_iff_iff, decide_eq_true_eq]
      exact stillSpare_iff.symm
    rw [exec_refillCompletion, event_whileRunning live active (by simpa using kind), completeRefill_eq band isPlaced, isState]
    unfold answerOp
    cases op.asker with
    | none => rfl
    | some a =>
      simp only [kind]
      rfl

end Sys2Proof.Machine
end

section
/-! Proofs of RESUME in NORMAL mode and in BYPASS (R55, R56, R94, R116, R142, R174, R185). -/

namespace Sys2Proof.Machine

/-! ## The settling clears no lamp flag (R98 to R105) -/

/-- Every pending flag stays. -/
def State.pendsOn (s t : State) : Prop := ∀ k, rd s.lmp.pending k = true → rd t.lmp.pending k = true

section
variable {s t u : State}

theorem State.pendsOn.trans (a : s.pendsOn t) (b : t.pendsOn u) : s.pendsOn u := fun k pending => b k (a k pending)

theorem pendsOn_of_lmp (lmp : t.lmp = s.lmp) : s.pendsOn t := fun k pending => by rw [lmp]; exact pending

theorem launch_pends (o : Order) (c : Chosen) (s : State) : s.pendsOn (launch o c s) := by
  have enters : s.pendsOn (s.entersTuning o c) :=
    (setPhase_settled o.link .tuning (s.onRte fun r => { r with active := some (s.launched o c) })).pend
  have marks : (s.launching o c).lmp = (s.entersTuning o c).lmp := (ownRecompute_aside _ _ _).lmp
  obtain ⟨-, -, -, -, batch, -⟩ := tuneBatch_leaves (launch_eq o c s)
  exact enters.trans (pendsOn_of_lmp (batch.trans marks))

theorem startOrder_pends (o : Order) (s : State) : s.pendsOn (startOrder o s) := by
  have launches (o' : Order) (c : Chosen) := launch_pends o' c (s.onRte fun r => { r with staged := none, active := some o' })
  have checks (o' : Order) (r : RteRequest) :=
    ((setPhase_settled o'.link .checking (s.onRte fun r => { r with staged := none, active := some o' })).trans
      (requestRte_settled r _)).pend
  unfold startOrder
  dsimp only
  split
  · exact launches _ _
  · exact launches _ _
  · exact launches _ _
  · exact checks _ _
  · exact checks _ _

theorem rteSettle_pends (s : State) : s.pendsOn (rteSettle s) :=
  rteSettle_keeps (P := s.pendsOn) (fun _ _ pends _ filled => pends.trans (fillStaged_settled filled).pend)
    (fun _ o pends _ _ => pends.trans (startOrder_pends o _))
    (fun _ _ pends _ _ => pends.trans ((Settled.onRte _).trans (note_settled _ _ _)).pend) fun _ pending => pending

end

/-! ## RESUME (R174, R185) -/

section
variable {h : CmdHead} {s : State}

theorem exec_resume_normal (taken : s.takes h Req.resume [] = true) :
    exec (.resume h []) s = .next (reply h Req.resume .ok [] s.handed) := by
  have entry : s.handed.rif.entry = none := takes_entry taken
  have notBypass : s.handed.rif.mode ≠ .bypass := by
    have normal : s.handed.rif.mode = .normal := of_decide_eq_true (takes_normal taken)
    rw [normal]
    exact RingMode.noConfusion
  have effect : takeResume h.asker [] s.handed = answerCmd (s.handed.rspFrame Req.resume h.asker .ok []) false s.handed := by
    simp only [takeResume, List.length_nil, ne_eq, not_true_eq_false, if_false, entry, Option.isSome_none,
      Bool.false_eq_true, notBypass]
  exact congrArg _ ((receiveCmd_taken takeResume taken).trans (effect.trans (answerCmd_offers entry _ _)))

end

theorem offers_aside (l : List Frame) (s : State) : Aside s (forEach l offerRsp s) := by
  induction l generalizing s with
  | nil => exact Aside.refl s
  | cons f l ih =>
    rw [forEach_cons]
    exact (offerRsp_aside s f).trans (ih _)

theorem offers_cpl (l : List Frame) (s : State) : (forEach l offerRsp s).cpl = s.cpl := by
  induction l generalizing s with
  | nil => rfl
  | cons f l ih => rw [forEach_cons, ih, offerRsp_cpl]

theorem plannerResume_aside (s : State) : Aside s (plannerResume s) := .ite (arbiterNext_aside s) (.refl s)

section
variable (s : State)

/-- NORMAL mode, the planner at work and the wants made (R56, R94). -/
def State.readied : State := verifyWants (plannerResume (s.onRif fun r => { r with mode := .normal }))

/-- The orders settled after every lamp is pending, and the answers taken (R55, R116, R142). -/
def State.homeward : State := (rteSettle (lampResume s.readied)).onCpl fun c => { c with answers := [] }

theorem readied_inner : Inner (s.onRif fun r => { r with mode := .normal }) s.readied :=
  (plannerResume_inner _).trans (verifyWants_inner _)

theorem homeward_inner : Inner (lampResume s.readied) s.homeward := (rteSettle_inner _).trans (Inner.onCpl _ id id)

theorem homeward_node : s.homeward.rif.node = s.rif.node := (homeward_inner s).node.trans (readied_inner s).node

theorem resumeNormal_offers : resumeNormal s =
    forEach ((rteSettle (lampResume s.readied)).cpl.answers.map (HeldAnswer.rsp s.rif.node)) offerRsp s.homeward := by
  have sent : resumeNormal s = sendBypassed (rteSettle (lampResume s.readied)).cpl.answers s.homeward := rfl
  rw [sent, sendBypassed_offers, homeward_node]

theorem readied_want {k : LinkId} (uncertain : (s.link k).carrier.state = .uncertain) : s.readied.want k ≠ none := by
  have rest := plannerResume_aside (s.onRif fun r => { r with mode := .normal })
  have want : s.readied.want k = if (s.want k).isNone && (s.link k).carrier.state = .uncertain then some .verify else s.want k := by
    refine (rd_tab _ k).trans ?_
    rw [rest.lmn, rest.link]
    rfl
  rw [want]
  cases s.want k with
  | none => simp [uncertain]
  | some r => simp

theorem homeward_wanted {k : LinkId} (uncertain : (s.link k).carrier.state = .uncertain) :
    s.homeward.want k ≠ none ∨ s.homeward.rte.holds k = true := by
  obtain ⟨reason, want⟩ := Option.ne_none_iff_exists'.mp (readied_want s uncertain)
  rcases rteSettle_provides (s := lampResume s.readied) want with stays | ⟨o, order, ofLink, -⟩
  · exact .inl (Option.ne_none_iff_exists'.mpr ⟨reason, stays⟩)
  · exact .inr (List.any_eq_true.mpr ⟨o, order, decide_eq_true ofLink⟩)

theorem homeward_pending {k : LinkId} (eligible : s.eligible k = true) : rd s.homeward.lmp.pending k = true := by
  refine rteSettle_pends (lampResume s.readied) k ((rd_tab _ k).trans ?_)
  rw [(readied_inner s).eligible]
  exact Bool.or_eq_true_iff.mpr (.inr eligible)

theorem homeward_refresh : s.homeward.lmp.refresh = some (1000 * s.mgr.settings.lampRefresh) := by
  rw [(homeward_inner s).lmp]
  have settings : s.readied.mgr.settings = s.mgr.settings := (readied_inner s).settings
  exact congrArg (fun x : Settings => some (1000 * x.lampRefresh)) settings

end

section
variable {h : CmdHead} {s : State}

theorem exec_resume_bypass (taken : s.takesInBypass h Req.resume [] = true) : exec (.resume h []) s = .next (forEach
    ((rteSettle (lampResume s.handed.readied)).cpl.answers.map (HeldAnswer.rsp s.rif.node) ++ [s.rspTo h Req.resume .ok []])
    offerRsp s.handed.homeward) := by
  have entry : s.handed.rif.entry = none := takesInBypass_entry taken
  have bypass : s.handed.rif.mode = .bypass := by
    simp only [State.takesInBypass, Bool.and_eq_true, decide_eq_true_eq] at taken
    obtain ⟨⟨⟨⟨⟨-, bypass⟩, -⟩, -⟩, -⟩, -⟩ := taken
    exact bypass
  have inner : Inner s.handed.homeward (resumeNormal s.handed) := by
    rw [resumeNormal_offers]
    exact offers_inner _ _
  have after : (resumeNormal s.handed).rif.entry = none :=
    inner.entry.trans ((homeward_inner _).entry.trans ((readied_inner s.handed).entry.trans entry))
  have node : (resumeNormal s.handed).rif.node = s.rif.node := inner.node.trans (homeward_node s.handed)
  have frame : (resumeNormal s.handed).rspFrame Req.resume h.asker .ok [] = s.rspTo h Req.resume .ok [] := by
    rw [State.rspFrame, node]
    rfl
  have effect : takeResume h.asker [] s.handed =
      answerCmd ((resumeNormal s.handed).rspFrame Req.resume h.asker .ok []) false (resumeNormal s.handed) := by
    simp only [takeResume, List.length_nil, ne_eq, not_true_eq_false, if_false, entry, Option.isSome_none,
      Bool.false_eq_true, bypass, if_true]
  have replied : exec (.resume h []) s = .next (offerRsp (s.rspTo h Req.resume .ok []) (resumeNormal s.handed)) :=
    congrArg _ ((receiveCmd_inBypass takeResume rfl taken).trans (effect.trans ((answerCmd_offers after _ _).trans (by rw [frame]))))
  rw [replied, forEach_append, resumeNormal_offers]
  rfl

end

/-! ## With nothing to verify and no work (R174) -/

section
variable {s : State} (certain : ∀ k, (s.link k).carrier.state ≠ .uncertain ∧ s.want k = none)
  (flags : ∀ b, rd s.cpl.flags b = false) (active : s.cpl.active = none) (rte : s.cpl.rtePlace = none)
  (mgr : s.cpl.mgrPlace = none)
include certain flags active rte mgr

theorem readied_still : s.readied = s.onRif fun r => { r with mode := .normal } := by
  have noWork : (s.onRif fun r => { r with mode := .normal }).cpl.nextWork = none := by
    rw [onRif_cpl, nextWork_flag rte mgr, List.find?_eq_none.mpr fun b _ => by rw [flags b]; exact Bool.false_ne_true]
    rfl
  have planner : plannerResume (s.onRif fun r => { r with mode := .normal }) = s.onRif fun r => { r with mode := .normal } := by
    unfold plannerResume
    split
    · rw [arbiterNext, arbitrate_rests 8 noWork]
      exact congrArg (fun a => (s.onRif fun r => { r with mode := .normal }).onCpl fun c => { c with active := a }) active.symm
    · rfl
  rw [State.readied, planner]
  have wants : (tab fun k => if (rd s.lmn.wants k).isNone && (s.link k).carrier.state = .uncertain then some Reason.verify
      else rd s.lmn.wants k) = s.lmn.wants := by
    refine tab_ext fun k => (rd_tab _ k).trans (if_neg ?_)
    simp [(certain k).1]
  exact congrArg (fun w => (s.onRif fun r => { r with mode := .normal }).onLmn fun l => { l with wants := w }) wants

variable (staged : s.rte.staged = none) (deferred : s.rte.deferred = [])
include staged deferred

theorem settled_still : rteSettle (lampResume s.readied) = lampResume (s.onRif fun r => { r with mode := .normal }) := by
  rw [readied_still certain flags active rte mgr]
  refine rteSettle_rests rfl ⟨fun _ => fillStaged_none_iff.mpr ⟨fun x mem => ?_, fun k => (certain k).2⟩, fun o isStaged => ?_⟩
  · have none_deferred : x ∈ s.rte.deferred := mem
    rw [deferred] at none_deferred
    cases none_deferred
  · have isOrder : s.rte.staged = some o := isStaged
    rw [staged] at isOrder
    cases isOrder

theorem homeward_still : s.homeward = { s with
    rif := { s.rif with mode := .normal }
    cpl := { s.cpl with answers := [] }
    lmp := { s.lmp with pending := tab fun k => rd s.lmp.pending k || s.eligible k
                        refresh := some (1000 * s.mgr.settings.lampRefresh) } } := by
  rw [State.homeward, settled_still certain flags active rte mgr staged deferred]
  rfl

end

/-- Settles O16. -/
theorem resumeReturnsToNormal : Obligations.ResumeReturnsToNormal := by
  refine ⟨fun h s taken => exec_resume_normal taken, fun h s taken => ⟨⟨_, exec_resume_bypass taken, ?_⟩, ?_⟩⟩
  · have inner := (homeward_inner s.handed).trans (offers_inner
      ((rteSettle (lampResume s.handed.readied)).cpl.answers.map (HeldAnswer.rsp s.rif.node) ++ [s.rspTo h Req.resume .ok []]) _)
    have aside := offers_aside
      ((rteSettle (lampResume s.handed.readied)).cpl.answers.map (HeldAnswer.rsp s.rif.node) ++ [s.rspTo h Req.resume .ok []])
      s.handed.homeward
    have cpl := offers_cpl
      ((rteSettle (lampResume s.handed.readied)).cpl.answers.map (HeldAnswer.rsp s.rif.node) ++ [s.rspTo h Req.resume .ok []])
      s.handed.homeward
    have before := readied_inner s.handed
    refine ⟨inner.ringOut.trans before.ringOut, inner.mode.trans before.mode, inner.node.trans before.node,
      inner.errors.trans before.errors, ?_, ?_, fun k eligible => ?_, ?_, fun k uncertain => ?_, inner.tly.trans before.tly,
      inner.tbm.trans before.tbm, inner.settings.trans before.settings, inner.locked.trans before.locked,
      inner.key.trans before.key, inner.pins.trans before.pins⟩
    · exact (congrArg Rif.voicePtr inner.rif :).trans (congrArg Rif.voicePtr before.rif :)
    · rw [cpl]
      rfl
    · rw [aside.lmp]
      exact homeward_pending s.handed eligible
    · rw [aside.lmp]
      exact homeward_refresh s.handed
    · rw [State.want, aside.lmn, aside.rte]
      exact homeward_wanted s.handed uncertain
  · intro certain staged deferred flags active rte mgr room
    rw [exec_resume_bypass taken, homeward_still (s := s.handed) certain flags active rte mgr staged deferred,
      settled_still (s := s.handed) certain flags active rte mgr staged deferred, offers_room _ _ ?_, List.map_append, List.map_map]
    · rw [← List.append_assoc]
      rfl
    · rw [List.length_append, List.length_map, List.length_singleton, ← Nat.add_assoc]
      exact room

end Sys2Proof.Machine
end

section
/-! Proofs of the warm restart: its cells, its blocks and the settling of VERIFY orders (R57, R62, R63, R95, R116, R186). -/

namespace Sys2Proof.Machine

/-! ## Cells at a restart (R60, R62) -/

/-- A cell without levels and age, UNMEASURED or OWN (R62). -/
def Cell.blank (c : Cell) : Prop := c.last = none ∧ c.peak = none ∧ c.age = 0 ∧ (c.state = .unmeasured ∨ c.state = .own)

/-- Every cell is without levels and age (R62). -/
def State.blankCells (s : State) : Prop := ∀ b j, (rd (rd s.swp.cells b) j).blank

/-- Every Spare List is empty (R57). -/
def State.noSpares (s : State) : Prop := ∀ b, rd s.cpl.spares b = []

theorem marked_blank {c : Cell} (blank : c.blank) (own : Bool) : (c.marked own).blank := by
  obtain ⟨last, peak, age, state⟩ := blank
  unfold Cell.marked
  split
  · exact ⟨last, peak, age, .inr rfl⟩
  · split
    · exact ⟨last, peak, rfl, .inl rfl⟩
    · exact ⟨last, peak, age, state⟩

section
variable {s : State} (b : BandId) (touched : Span → Bool)

/-- OWN marking writes cells and spares alone. -/
theorem remarkCells_leaves (s : State) : remarkCells b touched s = { s with
    swp := { s.swp with cells := (remarkCells b touched s).swp.cells }
    cpl := { s.cpl with spares := (remarkCells b touched s).cpl.spares } } := rfl

theorem remarkCells_inside {j : Fin 256} {c : Span} (below : j.val < (s.band b).cellCount)
    (span : (s.band b).cellSpan j.val = some c) (hit : touched c = true) : rd (rd (remarkCells b touched s).swp.cells b) j =
      (rd (rd s.swp.cells b) j).marked ((bandCarriers s.plan s.rte b).any c.overlaps) := by
  refine (congrArg (fun v => rd v j) (rd_wr_same s.swp.cells b _)).trans ((rd_tab _ j).trans ?_)
  rw [if_pos below, span]
  exact if_pos hit

theorem remarkCells_outside {j : Fin 256} (outside : ∀ c, j.val < (s.band b).cellCount →
    (s.band b).cellSpan j.val = some c → touched c = false) :
    rd (rd (remarkCells b touched s).swp.cells b) j = rd (rd s.swp.cells b) j := by
  refine (congrArg (fun v => rd v j) (rd_wr_same s.swp.cells b _)).trans ((rd_tab _ j).trans ?_)
  split
  · next below =>
    split
    · next c span => exact if_neg (by rw [outside c below span]; exact Bool.false_ne_true)
    · rfl
  · rfl

theorem remarkCells_cell (s : State) (j : Fin 256) :
    rd (rd (remarkCells b touched s).swp.cells b) j = rd (rd s.swp.cells b) j
    ∨ ∃ own, rd (rd (remarkCells b touched s).swp.cells b) j = (rd (rd s.swp.cells b) j).marked own := by
  by_cases hit : ∃ c, j.val < (s.band b).cellCount ∧ (s.band b).cellSpan j.val = some c ∧ touched c = true
  · obtain ⟨c, below, span, hit⟩ := hit
    exact .inr ⟨_, remarkCells_inside b touched below span hit⟩
  · exact .inl (remarkCells_outside b touched fun c below span => Bool.eq_false_iff.mpr fun is => hit ⟨c, below, span, is⟩)

theorem remarkCells_blank (blank : s.blankCells) : (remarkCells b touched s).blankCells := by
  intro b' j
  by_cases here : b' = b
  · subst here
    rcases remarkCells_cell b' touched s j with same | ⟨own, marked⟩
    · rw [same]
      exact blank b' j
    · rw [marked]
      exact marked_blank (blank b' j) own
  · rw [remarkCells_elsewhere here]
    exact blank b' j

theorem remarkCells_noSpares (empty : s.noSpares) : (remarkCells b touched s).noSpares := by
  intro b'
  rw [remarkCells_spares, empty b']
  rfl

/-- Over all spans, the OWN cells of a band without OWN cells are those a carrier overlaps (R60, R62). -/
theorem remarkCells_all (fresh : ∀ j, (rd (rd s.swp.cells b) j).state ≠ .own) (j : Fin 256) :
    (rd (rd (remarkCells b (fun _ => true) s).swp.cells b) j).state = .own ↔ j.val < (s.band b).cellCount
      ∧ ∃ c, (s.band b).cellSpan j.val = some c ∧ ∃ y ∈ bandCarriers s.plan s.rte b, c.overlaps y = true := by
  by_cases inside : ∃ c, j.val < (s.band b).cellCount ∧ (s.band b).cellSpan j.val = some c
  · obtain ⟨c, below, span⟩ := inside
    rw [remarkCells_inside b _ below span rfl, marked_own, List.any_eq_true]
    refine ⟨fun carried => ⟨below, c, span, carried⟩, fun ⟨_, c', span', carried⟩ => ?_⟩
    obtain rfl : c = c' := Option.some.inj (span.symm.trans span')
    exact carried
  · rw [remarkCells_outside b _ fun c below span => absurd ⟨c, below, span⟩ inside]
    exact iff_of_false (fresh j) fun ⟨below, c, span, _⟩ => inside ⟨c, below, span⟩

end

/-! ## OWN marking over several bands -/

section
variable {s : State}

/-- OWN marking over several bands (R62). -/
def remarkBands (l : List BandId) (s : State) : State := forEach l (fun b s => remarkCells b (fun _ => true) s) s

theorem remarkBands_leaves (l : List BandId) : ∀ s : State, remarkBands l s = { s with
    swp := { s.swp with cells := (remarkBands l s).swp.cells }
    cpl := { s.cpl with spares := (remarkBands l s).cpl.spares } } := by
  induction l with
  | nil => exact fun s => rfl
  | cons b l ih =>
    intro s
    refine (ih (remarkCells b (fun _ => true) s)).trans ?_
    rw [remarkCells_leaves b _ s]
    rfl

theorem remarkBands_keeps {P : State → Prop} (step : ∀ b s, P s → P (remarkCells b (fun _ => true) s)) (l : List BandId) :
    ∀ s, P s → P (remarkBands l s) := by
  induction l with
  | nil => exact fun s holds => holds
  | cons b l ih => exact fun s holds => ih _ (step b s holds)

theorem remarkBands_elsewhere {b : BandId} : ∀ (l : List BandId) (s : State), b ∉ l →
    rd (remarkBands l s).swp.cells b = rd s.swp.cells b := by
  intro l
  induction l with
  | nil => exact fun s _ => rfl
  | cons x l ih =>
    intro s absent
    exact (ih (remarkCells x (fun _ => true) s) fun mem => absent (List.mem_cons_of_mem x mem)).trans
      (remarkCells_elsewhere (List.ne_of_not_mem_cons absent) _ s)

theorem remarkBands_own {b : BandId} : ∀ (l : List BandId) (s : State), l.Nodup → b ∈ l →
    (∀ j, (rd (rd s.swp.cells b) j).state ≠ .own) → ∀ j : Fin 256,
    (rd (rd (remarkBands l s).swp.cells b) j).state = .own ↔ j.val < (s.band b).cellCount
      ∧ ∃ c, (s.band b).cellSpan j.val = some c ∧ ∃ y ∈ bandCarriers s.plan s.rte b, c.overlaps y = true := by
  intro l
  induction l with
  | nil => exact fun s _ mem => nomatch mem
  | cons x l ih =>
    intro s nodup mem fresh j
    obtain ⟨absent, nodup⟩ := List.nodup_cons.mp nodup
    have step : remarkBands (x :: l) s = remarkBands l (remarkCells x (fun _ => true) s) := rfl
    rw [step]
    by_cases here : b = x
    · subst here
      rw [remarkBands_elsewhere l _ absent]
      exact remarkCells_all b fresh j
    · have later : b ∈ l := (List.mem_cons.mp mem).resolve_left here
      refine ih (remarkCells x (fun _ => true) s) nodup later (fun i => ?_) j
      rw [remarkCells_elsewhere here]
      exact fresh i

end

/-! ## The blocks of a warm restart, before the settling (R186) -/

section
variable (s : State)

/-- The queues emptied, the holds cleared, and the sweep IDLE (R63, R164, R171). -/
def State.silenced : State := sweepHalt (clearHold (s.onRif Rif.restarted))

/-- The orders abandoned and the planner's records cold (R57, R116). -/
def State.dropped : State := plannerRestart (abandonOrders s.silenced)

/-- The sweep's records cold and every cell marked (R62, R63). -/
def State.remade : State := remarkBands (List.finRange 4) (sweepReset s.dropped)

/-- Monitor, tally, talkback and lamps restarted (R95, R131, R142, R159). -/
def State.revived : State := lampRestart (talkbackSilence (tallyRestart (monitorRestart s)))

/-- The blocks restarted, before the RTE's fills (R186). -/
def State.restarting : State := s.remade.revived

theorem restartBlocks_eq : restartBlocks s = rteSettle s.restarting := rfl

theorem silenced_leaves : s.silenced = { s with
    rif := { s.rif.restarted with notesLost := s.silenced.rif.notesLost }
    mgr := { s.mgr with hold := [] }
    swp := s.silenced.swp } := by
  unfold State.silenced sweepHalt discardReport
  split
  · rfl
  · rfl

theorem silenced_idle : s.silenced.swp.state = .idle := rfl

theorem silenced_notesLost (lost : s.rif.notesLost = true) : s.silenced.rif.notesLost = true := by
  unfold State.silenced sweepHalt discardReport
  split
  · rfl
  · exact Bool.or_eq_true_iff.mpr (.inl lost)

/-- What the abandonment of all work leaves (R57, R116, R173). -/
structure Drops (s t : State) : Prop where
  rif : t.rif = { s.rif.restarted with notesLost := t.rif.notesLost }
  lost : s.rif.notesLost = true → t.rif.notesLost = true
  mgr : t.mgr = { s.mgr with hold := [] }
  rte : t.rte = s.rte.cleared
  cpl : t.cpl = .cold
  link : ∀ k, t.link k = s.abandoned k
  gen : t.plan.gen = if s.stray then s.plan.gen + 1 else s.plan.gen
  bands : t.plan.bands = s.plan.bands
  windows : t.plan.windows = s.plan.windows
  tly : t.tly = s.tly
  tbm : t.tbm = s.tbm
  lmp : t.lmp = { s.lmp with pending := t.lmp.pending }
  pins : t.pins = s.pins

theorem dropped_drops : Drops s s.dropped := by
  have quiet := silenced_leaves s
  have remarked := abandonOrders_remarked (silenced_idle s)
  have inner := abandonOrders_inner s.silenced
  have silentVoice : s.silenced.rif.voiceQ = Vector.replicate 32 none := congrArg (fun t : State => t.rif.voiceQ) quiet
  have voice : (abandonOrders s.silenced).rif.voiceQ = s.silenced.rif.voiceQ := by
    refine tab_ext fun d => (remarked.voice d ?_).trans ?_
    · rw [onRte_rif, silentVoice, rd_replicate]
    · rw [silentVoice, rd_replicate]
  have rif : s.dropped.rif = s.silenced.rif := remarked.rif.trans (by rw [voice]; rfl)
  refine ⟨?_, fun lost => ?_, ?_, ?_, rfl, fun k => ?_, ?_, ?_, ?_, ?_, ?_, ?_, ?_⟩
  · rw [rif]
    exact (congrArg State.rif quiet :)
  · rw [rif]
    exact silenced_notesLost s lost
  · exact remarked.mgr.trans (congrArg State.mgr quiet :)
  · exact remarked.rte.trans (congrArg (fun t : State => t.rte.cleared) quiet :)
  · exact (link_abandonOrders k).trans (congrArg (fun t : State => t.abandoned k) quiet :)
  · exact gen_abandonOrders.trans (congrArg (fun t : State => if t.stray then t.plan.gen + 1 else t.plan.gen) quiet :)
  · exact inner.bands.trans (congrArg (fun t : State => t.plan.bands) quiet :)
  · exact inner.windows.trans (congrArg (fun t : State => t.plan.windows) quiet :)
  · exact inner.tly.trans (congrArg State.tly quiet :)
  · exact inner.tbm.trans (congrArg State.tbm quiet :)
  · exact inner.lmp.trans (congrArg (fun t : State => { t.lmp with pending := (abandonOrders s.silenced).lmp.pending }) quiet :)
  · exact inner.pins.trans (congrArg State.pins quiet :)

end

/-- The voice buffers, CALL and DUCKED at a restart (R159). -/
def Tbm.silenced (t : Tbm) : Tbm :=
  { t with buffers := Vector.replicate 16 .silent, call := Vector.replicate 32 false, ducked := Vector.replicate 32 false }

/-- The state before the RTE's fills (R57, R62, R63, R95, R116, R131, R142, R159). -/
structure Restarts (s u : State) : Prop where
  rif : u.rif = { s.rif.restarted with notesLost := u.rif.notesLost }
  lost : s.rif.notesLost = true → u.rif.notesLost = true
  mgr : u.mgr = { s.mgr with hold := [] }
  rte : u.rte = s.rte.cleared
  cpl : u.cpl = .cold
  link : ∀ k, u.link k = { s.abandoned k with
    health := { LinkHealth.cold with
      silence := if (s.abandoned k).carrier.state = .committed then some s.mgr.settings.meterSilence else none }
    tally := .empty }
  want : ∀ k, u.want k = if (s.abandoned k).carrier.state = .uncertain then some .verify else none
  gen : u.plan.gen = if s.stray then s.plan.gen + 1 else s.plan.gen
  bands : u.plan.bands = s.plan.bands
  windows : u.plan.windows = s.plan.windows
  slots : ∀ i, u.slot i = (s.slot i).offline
  tbm : u.tbm = s.tbm.silenced
  lmp : u.lmp = { s.lmp with test := false, next := 0, refresh := some (1000 * s.mgr.settings.lampRefresh)
                             pending := u.lmp.pending }
  pend : u.lmp.pending = tab fun k => rd u.lmp.pending k || s.eligible k
  pins : u.pins = s.pins
  swp : u.swp = { Swp.cold with
    cells := u.swp.cells
    interval := if s.mgr.settings.sweepInterval = 0 then none else some (1000 * s.mgr.settings.sweepInterval) }
  blank : u.blankCells
  own : ∀ b (j : Fin 256), (rd (rd u.swp.cells b) j).state = .own ↔ j.val < (s.band b).cellCount
    ∧ ∃ c, (s.band b).cellSpan j.val = some c ∧ ∃ y ∈ bandCarriers u.plan u.rte b, c.overlaps y = true

section
variable (s : State)

theorem remade_leaves : s.remade = { s.dropped with
    swp := { (sweepReset s.dropped).swp with cells := s.remade.swp.cells } } := by
  have drops := dropped_drops s
  have empty : s.remade.noSpares := by
    refine remarkBands_keeps (P := State.noSpares) (fun b s => remarkCells_noSpares b _) _ _ fun b => ?_
    have cold : (sweepReset s.dropped).cpl = .cold := drops.cpl
    rw [cold]
    exact rd_replicate _ b
  have spares : s.remade.cpl.spares = (sweepReset s.dropped).cpl.spares := by
    refine tab_ext fun b => (empty b).trans ?_
    have cold : (sweepReset s.dropped).cpl = .cold := drops.cpl
    rw [cold]
    exact (rd_replicate _ b).symm
  exact (remarkBands_leaves _ _).trans (congrArg (fun l => { s.dropped with
    swp := { (sweepReset s.dropped).swp with cells := s.remade.swp.cells }
    cpl := { s.dropped.cpl with spares := l } }) spares)

end

end Sys2Proof.Machine
end

section
/-! Proofs of what the warm restart leaves in the blocks restarted before the settling (R62, R63, R95, R131, R142, R159). -/

namespace Sys2Proof.Machine

section
variable (s : State)

theorem monitorRestart_leaves : ∃ links lmn, monitorRestart s = { s with plan := { s.plan with links := links }, lmn := lmn } :=
  ⟨_, _, rfl⟩

theorem tallyRestart_leaves : ∃ links slots, tallyRestart s = { s with
    plan := { s.plan with links := links }, tly := { s.tly with slots := slots } } := ⟨_, _, rfl⟩

theorem talkbackSilence_leaves : ∃ pending, talkbackSilence s = { s with
    tbm := s.tbm.silenced, lmp := { s.lmp with pending := pending } } := ⟨_, rfl⟩

theorem lampRestart_leaves : ∃ pending, lampRestart s = { s with
    lmp := { s.lmp with test := false, next := 0, refresh := some (1000 * s.mgr.settings.lampRefresh), pending := pending } } :=
  ⟨_, rfl⟩

/-- The restart of monitor, tally, talkback and lamps leaves the other blocks (R95, R131, R142, R159). -/
theorem revived_leaves : ∃ links lmn slots pending, s.revived = { s with
    plan := { s.plan with links := links }
    lmn := lmn
    tly := { s.tly with slots := slots }
    tbm := s.tbm.silenced
    lmp := { s.lmp with test := false, next := 0, refresh := some (1000 * s.mgr.settings.lampRefresh), pending := pending } } := by
  obtain ⟨links, lmn, monitor⟩ := monitorRestart_leaves s
  obtain ⟨links', slots, tally⟩ := tallyRestart_leaves (monitorRestart s)
  obtain ⟨pending, talk⟩ := talkbackSilence_leaves (tallyRestart (monitorRestart s))
  obtain ⟨pending', lamps⟩ := lampRestart_leaves (talkbackSilence (tallyRestart (monitorRestart s)))
  refine ⟨links', lmn, slots, pending', ?_⟩
  rw [State.revived, lamps, talk, tally, monitor]

theorem revived_swp : s.revived.swp = s.swp := by
  obtain ⟨links, lmn, slots, pending, revived⟩ := revived_leaves s
  rw [revived]

theorem revived_slot (i : SlotId) : s.revived.slot i = (s.slot i).offline := by
  have tally : (tallyRestart (monitorRestart s)).slot i = ((monitorRestart s).slot i).offline := rd_tab _ i
  exact tally

theorem revived_link (k : LinkId) : s.revived.link k = { s.link k with
    health := { LinkHealth.cold with
      silence := if (s.link k).carrier.state = .committed then some s.mgr.settings.meterSilence else none }
    tally := .empty } := by
  have health : (monitorRestart s).link k = { s.link k with
      health := { LinkHealth.cold with silence :=
        if (s.link k).carrier.state = .committed then some s.mgr.settings.meterSilence else none } } := rd_tab _ k
  have tally : s.revived.link k = { (monitorRestart s).link k with tally := .empty } := rd_tab _ k
  rw [tally, health]

theorem revived_want (k : LinkId) :
    s.revived.want k = if (s.link k).carrier.state = .uncertain then some .verify else none := by
  have want : s.revived.want k = if (rd Lmn.cold.wants k).isNone
      && decide (((monitorRestart s).link k).carrier.state = .uncertain) then some .verify else rd Lmn.cold.wants k := rd_tab _ k
  have health : (monitorRestart s).link k = { s.link k with
      health := { LinkHealth.cold with silence :=
        if (s.link k).carrier.state = .committed then some s.mgr.settings.meterSilence else none } } := rd_tab _ k
  have cold : rd Lmn.cold.wants k = none := rd_replicate _ k
  rw [want, health, cold]
  simp

theorem lampRestart_pend (k : LinkId) (eligible : s.eligible k = true) : rd (lampRestart s).lmp.pending k = true := by
  have pending : rd (lampRestart s).lmp.pending k = (rd s.lmp.pending k || (true && s.eligible k)) := rd_tab _ k
  rw [pending, eligible]
  exact Bool.or_true _

theorem revived_pend (k : LinkId) (eligible : s.eligible k = true) : rd s.revived.lmp.pending k = true := by
  refine lampRestart_pend _ k ?_
  have health : (monitorRestart s).link k = { s.link k with
      health := { LinkHealth.cold with silence :=
        if (s.link k).carrier.state = .committed then some s.mgr.settings.meterSilence else none } } := rd_tab _ k
  have tally : (tallyRestart (monitorRestart s)).link k = { (monitorRestart s).link k with tally := .empty } := rd_tab _ k
  have cfg : ((tallyRestart (monitorRestart s)).link k).cfg = (s.link k).cfg := by rw [tally, health]
  exact (congrArg LinkCfg.eligible cfg).trans eligible

/-! ## The state before the RTE's fills -/

theorem sweepReset_cell (b : BandId) (j : Fin 256) : rd (rd (sweepReset s).swp.cells b) j = .cold :=
  (congrArg (fun v => rd v j) (rd_replicate _ b)).trans (rd_replicate _ j)

/-- What stands before the RTE's fills: the abandonment of all work, the sweep's records cold, and the four blocks restarted. -/
theorem restarting_leaves : ∃ links lmn slots pending, s.restarting = { s.dropped with
    plan := { s.dropped.plan with links := links }
    swp := { (sweepReset s.dropped).swp with cells := s.remade.swp.cells }
    lmn := lmn
    tly := { s.dropped.tly with slots := slots }
    tbm := s.dropped.tbm.silenced
    lmp := { s.dropped.lmp with
      test := false, next := 0, refresh := some (1000 * s.dropped.mgr.settings.lampRefresh), pending := pending } } := by
  obtain ⟨links, lmn, slots, pending, revived⟩ := revived_leaves s.remade
  refine ⟨links, lmn, slots, pending, ?_⟩
  rw [State.restarting, revived]
  obtain ⟨cells, isCells⟩ : ∃ cells, cells = s.remade.swp.cells := ⟨_, rfl⟩
  have remade := remade_leaves s
  rw [← isCells] at remade ⊢
  rw [remade]

theorem remade_cells : ∃ cells, s.remade = { s.dropped with swp := { (sweepReset s.dropped).swp with cells := cells } } :=
  ⟨_, remade_leaves s⟩

theorem remade_link (k : LinkId) : s.remade.link k = s.abandoned k := by
  obtain ⟨cells, remade⟩ := remade_cells s
  rw [remade]
  exact (dropped_drops s).link k

theorem remade_settings : s.remade.mgr.settings = s.mgr.settings := by
  obtain ⟨cells, remade⟩ := remade_cells s
  rw [remade]
  exact (congrArg Mgr.settings (dropped_drops s).mgr :)

theorem link_restarting (k : LinkId) : s.restarting.link k = { s.abandoned k with
    health := { LinkHealth.cold with
      silence := if (s.abandoned k).carrier.state = .committed then some s.mgr.settings.meterSilence else none }
    tally := .empty } := by
  rw [State.restarting, revived_link, remade_link, remade_settings]

theorem want_restarting (k : LinkId) :
    s.restarting.want k = if (s.abandoned k).carrier.state = .uncertain then some .verify else none := by
  rw [State.restarting, revived_want, remade_link]

theorem slot_restarting (i : SlotId) : s.restarting.slot i = (s.slot i).offline := by
  rw [State.restarting, revived_slot]
  obtain ⟨cells, remade⟩ := remade_cells s
  rw [remade]
  exact congrArg (fun t : Tly => (rd t.slots i).offline) (dropped_drops s).tly

theorem pend_restarting (k : LinkId) (eligible : s.eligible k = true) : rd s.restarting.lmp.pending k = true := by
  refine revived_pend _ k ?_
  have cfg : (s.remade.link k).cfg = (s.link k).cfg := (congrArg Link.cfg (remade_link s k) :)
  exact (congrArg LinkCfg.eligible cfg).trans eligible

theorem cells_restarting : s.restarting.swp.cells = s.remade.swp.cells := congrArg Swp.cells (revived_swp s.remade)

theorem blank_restarting : s.restarting.blankCells := by
  have blank : s.remade.blankCells := by
    refine remarkBands_keeps (P := State.blankCells) (fun b s => remarkCells_blank b _) _ _ fun b j => ?_
    have cold : rd (rd (sweepReset s.dropped).swp.cells b) j = .cold := by
      rw [sweepReset_cell]
    rw [cold]
    exact ⟨rfl, rfl, rfl, .inl rfl⟩
  intro b j
  rw [cells_restarting]
  exact blank b j

theorem carriers_restarting (b : BandId) : bandCarriers s.restarting.plan s.restarting.rte b =
    bandCarriers (sweepReset s.dropped).plan (sweepReset s.dropped).rte b := by
  have links (k : LinkId) : (rd s.restarting.plan.links k).cfg = (rd (sweepReset s.dropped).plan.links k).cfg
      ∧ (rd s.restarting.plan.links k).carrier = (rd (sweepReset s.dropped).plan.links k).carrier := by
    have here := link_restarting s k
    have before := (dropped_drops s).link k
    exact ⟨(congrArg Link.cfg here).trans (congrArg Link.cfg before).symm,
      (congrArg Link.carrier here).trans (congrArg Link.carrier before).symm⟩
  obtain ⟨newLinks, lmn, slots, pending, stands⟩ := restarting_leaves s
  have rte : s.restarting.rte = (sweepReset s.dropped).rte := by rw [stands]; rfl
  have bands : s.restarting.plan.bands = (sweepReset s.dropped).plan.bands := by rw [stands]; rfl
  rw [rte]
  exact bandCarriers_congr bands links

theorem own_restarting (b : BandId) (j : Fin 256) : (rd (rd s.restarting.swp.cells b) j).state = .own ↔ j.val < (s.band b).cellCount
    ∧ ∃ c, (s.band b).cellSpan j.val = some c ∧ ∃ y ∈ bandCarriers s.restarting.plan s.restarting.rte b, c.overlaps y = true := by
  have fresh (i : Fin 256) : (rd (rd (sweepReset s.dropped).swp.cells b) i).state ≠ .own := by
    rw [sweepReset_cell]
    exact fun is => nomatch is
  have marked := remarkBands_own (b := b) (List.finRange 4) (sweepReset s.dropped) (List.nodup_finRange 4) (List.mem_finRange b) fresh j
  have band : (sweepReset s.dropped).band b = s.band b := congrArg (fun v => rd v b) (dropped_drops s).bands
  rw [band, ← carriers_restarting s b] at marked
  rw [cells_restarting, State.remade]
  exact marked

theorem restarting_restarts : Restarts s s.restarting := by
  have link := link_restarting s
  have want := want_restarting s
  have slot := slot_restarting s
  have pend := pend_restarting s
  have blank := blank_restarting s
  have own := own_restarting s
  have drops := dropped_drops s
  obtain ⟨links, lmn, slots, pending, stands⟩ := restarting_leaves s
  generalize s.remade.swp.cells = cells at stands
  generalize s.restarting = u at *
  have settings : s.dropped.mgr.settings = s.mgr.settings := (congrArg Mgr.settings drops.mgr :)
  have rif : u.rif = s.dropped.rif := by rw [stands]
  have swp : u.swp = { (sweepReset s.dropped).swp with cells := cells } := by rw [stands]
  refine ⟨?_, fun lost => ?_, ?_, ?_, ?_, link, want, ?_, ?_, ?_, slot, ?_, ?_, ?_, ?_, ?_, blank, own⟩
  · rw [rif]
    exact drops.rif
  · rw [rif]
    exact drops.lost lost
  · rw [stands]
    exact drops.mgr
  · rw [stands]
    exact drops.rte
  · rw [stands]
    exact drops.cpl
  · rw [stands]
    exact drops.gen
  · rw [stands]
    exact drops.bands
  · rw [stands]
    exact drops.windows
  · rw [stands]
    exact congrArg Tbm.silenced drops.tbm
  · have lmp : u.lmp = { s.dropped.lmp with
      test := false, next := 0, refresh := some (1000 * s.dropped.mgr.settings.lampRefresh), pending := u.lmp.pending } := by
      rw [stands]
    rw [lmp, settings, drops.lmp]
  · refine tab_ext fun k => ?_
    rw [rd_tab]
    cases eligible : s.eligible k with
    | false => rw [Bool.or_false]
    | true => rw [pend k eligible]; rfl
  · rw [stands]
    exact drops.pins
  · have cold : (sweepReset s.dropped).swp = { Swp.cold with interval :=
        if s.dropped.mgr.settings.sweepInterval = 0 then none else some (1000 * s.dropped.mgr.settings.sweepInterval) } := rfl
    rw [swp, cold, settings]

end

end Sys2Proof.Machine
end

section
/-! Proofs of the settling after a warm restart, in which VERIFY orders alone start (R62, R94, R99, R105, R186). -/

namespace Sys2Proof.Machine

/-- The wants and the waiting orders are for VERIFY alone (R88, R94). -/
def Standing.verifiesOnly (x : Standing) : Prop :=
  (∀ k r, rd x.lmn.wants k = some r → r = .verify) ∧ (∀ o, x.staged = some o → o.reason = .verify)
    ∧ ∀ o ∈ x.deferred, o.reason = .verify

/-- From `u` to `v`, with the planner cold and the sweep without measurement, links changed in phase alone (R57, R62, R98). -/
structure Still (u v : State) : Prop where
  swp : v.swp = { u.swp with cells := v.swp.cells }
  blank : v.blankCells
  cpl : v.cpl = .cold
  link : ∀ k, (v.link k).idled = (u.link k).idled

section
variable {u v w : State}

theorem Still.of_leaves (still : Still u v) (swp : w.swp = v.swp) (cpl : w.cpl = v.cpl)
    (link : ∀ k, (w.link k).idled = (v.link k).idled) : Still u w := by
  refine ⟨?_, fun b j => ?_, cpl.trans still.cpl, fun k => (link k).trans (still.link k)⟩
  · rw [swp]
    exact still.swp
  · rw [swp]
    exact still.blank b j

/-- OWN marks beside an IDLE sweep and empty Spare Lists (R60, R73). -/
theorem Still.remarked (still : Still u v) (idle : u.swp.state = .idle) (b : BandId) (spans : List Span) :
    Still u (ownRecompute b (touching spans) v) := by
  have state : v.swp.state = .idle := (congrArg Swp.state still.swp).trans idle
  rw [ownRecompute_rests rfl (.inl (by rw [remarkCells_leaves]; simp [state]))]
  refine ⟨?_, remarkCells_blank b _ still.blank, ?_, still.link⟩
  · rw [remarkCells_leaves, still.swp]
  · have empty : (remarkCells b (touching spans) v).noSpares := remarkCells_noSpares b _ fun b' => by
      rw [still.cpl]
      exact rd_replicate _ b'
    have spares : (remarkCells b (touching spans) v).cpl.spares = Cpl.cold.spares :=
      tab_ext fun b' => (empty b').trans (rd_replicate _ b').symm
    rw [remarkCells_leaves, still.cpl]
    exact congrArg (fun l => { Cpl.cold with spares := l }) spares

theorem idled_setPhase (k j : LinkId) (p : Phase) (s : State) : ((setPhase k p s).link j).idled = (s.link j).idled := by
  rw [link_setPhase]
  split
  · next same => rw [same]; rfl
  · rfl

theorem Still.launch (still : Still u v) (idle : u.swp.state = .idle) (o : Order) (c : Chosen) : Still u (launch o c v) := by
  obtain ⟨swp, cpl, -⟩ := setPhase_leaves o.link .tuning (v.onRte fun r => { r with active := some (v.launched o c) })
  have enters : Still u (v.entersTuning o c) := still.of_leaves swp cpl fun k => idled_setPhase o.link k .tuning _
  have marks : Still u (v.launching o c) := enters.remarked idle _ _
  obtain ⟨plan, -, swp, cpl, -⟩ := tuneBatch_leaves (launch_eq o c v)
  exact marks.of_leaves swp cpl fun k => congrArg (fun p : Plan => (rd p.links k).idled) plan

theorem Still.starts (still : Still u v) (idle : u.swp.state = .idle) {o : Order} (verify : o.reason = .verify) :
    Still u (startOrder o v) := by
  have enters : Still u (v.promoting o) := still.of_leaves rfl rfl fun _ => rfl
  cases target : o.target with
  | channel m =>
    rw [startOrder_verify verify target]
    exact enters.launch idle _ _
  | spare =>
    rw [startOrder_verifySpare verify target]
    exact enters.launch idle _ _
  | off =>
    rw [startOrder_off target]
    exact enters.launch idle _ _

theorem Still.defers (still : Still u v) (o : Order) : Still u (deferOrder o v) := by
  rw [deferOrder, note_leaves]
  exact still.of_leaves rfl rfl fun _ => rfl

theorem Still.fills (still : Still u v) (filled : fillStaged v = some w) : Still u w := by
  unfold fillStaged at filled
  split at filled
  · cases filled
    exact still.of_leaves rfl rfl fun _ => rfl
  · split at filled
    · next k r best =>
      cases filled
      obtain ⟨swp, cpl, -⟩ := setPhase_leaves k .queued ((setWant k none v).onRte fun t => { t with staged := some (v.orderOf k r) })
      exact still.of_leaves swp cpl fun j => idled_setPhase k j .queued _
    · cases filled

theorem fills_verifiesOnly (only : v.standing.verifiesOnly) (filled : fillStaged v = some w) : w.standing.verifiesOnly := by
  obtain ⟨wants, -, deferred⟩ := only
  rcases fillStaged_standing filled with ⟨o, mem, -, standing⟩ | ⟨k, r, want, standing⟩
  · rw [standing]
    refine ⟨wants, fun x is => ?_, fun x mem => deferred x (List.mem_of_mem_filter mem)⟩
    cases is
    exact deferred o mem
  · rw [standing]
    refine ⟨fun j q is => ?_, fun x is => ?_, deferred⟩
    · rw [rd_wr] at is
      split at is
      · cases is
      · exact wants j q is
    · cases is
      exact (congrArg Prod.snd (orderOf_purpose v k r)).trans (wants k r want)

theorem starts_verifiesOnly (only : v.standing.verifiesOnly) (o : Order) : (startOrder o v).standing.verifiesOnly := by
  obtain ⟨wants, -, deferred⟩ := only
  rw [startOrder_standing]
  refine ⟨wants, fun x is => ?_, deferred⟩
  cases is

theorem defers_verifiesOnly (only : v.standing.verifiesOnly) {o : Order} (staged : v.rte.staged = some o) :
    (deferOrder o v).standing.verifiesOnly := by
  obtain ⟨wants, waits, deferred⟩ := only
  rw [deferOrder_standing]
  refine ⟨wants, fun x is => ?_, fun x mem => ?_⟩
  · cases is
  rcases List.mem_append.mp mem with before | last
  · exact deferred x before
  · rw [List.mem_singleton.mp last]
    exact waits o staged

/-- With VERIFY wants alone the settling leaves the planner, the sweep but for its OWN marks, and the links but for their phases. -/
theorem rteSettle_still (idle : u.swp.state = .idle) (blank : u.blankCells) (cpl : u.cpl = .cold)
    (only : u.standing.verifiesOnly) : Still u (rteSettle u) := by
  have both := rteSettle_keeps (s := u) (P := fun v => Still u v ∧ v.standing.verifiesOnly) ?_ ?_ ?_
    ⟨⟨rfl, blank, cpl, fun _ => rfl⟩, only⟩
  · exact both.1
  · rintro v w ⟨still, only⟩ - filled
    exact ⟨still.fills filled, fills_verifiesOnly only filled⟩
  · rintro v o ⟨still, wants, waits, deferred⟩ staged -
    exact ⟨still.starts idle (waits o staged), starts_verifiesOnly ⟨wants, waits, deferred⟩ o⟩
  · rintro v o ⟨still, only⟩ staged -
    exact ⟨still.defers o, defers_verifiesOnly only staged⟩

end

end Sys2Proof.Machine
end

section
/-! Proofs of the warm restart: its event and its RSP frames (R186). -/

namespace Sys2Proof.Machine

theorem offers_swp (l : List Frame) (s : State) : (forEach l offerRsp s).swp = s.swp := by
  induction l generalizing s with
  | nil => rfl
  | cons f l ih => rw [forEach_cons, ih, offerRsp_swp]

/-- At most the active operation and the one waiting for the MGR are cut short (R54). -/
theorem cutShort_length (c : Cpl) : c.cutShort.length ≤ 2 := by
  have first : (match c.active with
      | some op => (match op.asker with | some a => [({ kind := op.kind, asker := a } : HeldAnswer)] | none => [])
      | none => []).length ≤ 1 := by
    split
    · split
      · exact Nat.le_refl 1
      · exact Nat.zero_le 1
    · exact Nat.zero_le 1
  have second : (match c.mgrPlace with | some r => [({ kind := r.kind, asker := r.asker } : HeldAnswer)] | none => []).length ≤ 1 := by
    split
    · exact Nat.le_refl 1
    · exact Nat.zero_le 1
  rw [Cpl.cutShort, List.length_append]
  exact Nat.add_le_add first second

/-- The RSP frames of a warm restart, in their order (R186). -/
def State.restartRsps (s : State) (h : CmdHead) : List Frame :=
  s.cpl.cutShort.map (HeldAnswer.rsp s.rif.node) ++ [s.rspTo h Req.restart .ok []]

section
variable {s u : State} (restarts : Restarts s u)
include restarts

theorem Restarts.node : u.rif.node = s.rif.node := (congrArg Rif.node restarts.rif :)

theorem Restarts.still : Still u (rteSettle u) := by
  have idle : u.swp.state = .idle := (congrArg Swp.state restarts.swp :)
  refine rteSettle_still idle restarts.blank restarts.cpl ⟨fun k r want => ?_, fun o is => ?_, fun o mem => ?_⟩
  · have isWant : u.want k = some r := want
    rw [restarts.want] at isWant
    split at isWant
    · exact (Option.some.inj isWant).symm
    · cases isWant
  · have staged : u.rte.staged = some o := is
    rw [restarts.rte] at staged
    cases staged
  · have deferred : o ∈ u.rte.deferred := mem
    rw [restarts.rte] at deferred
    cases deferred

/-- Behind the settling the RSP frames find their places (R105, R169). -/
theorem Restarts.returns (h : CmdHead) :
    Returned (s.restartRsps h) u (forEach (s.restartRsps h) offerRsp (rteSettle u)) := by
  have idle : u.swp.state = .idle := (congrArg Swp.state restarts.swp :)
  have queue : u.rif.ctlQ = [] := (congrArg Rif.ctlQ restarts.rif :)
  have noAnswers : (rteSettle u).onCpl (fun c => { c with answers := [] }) = rteSettle u := by
    rw [State.onCpl, restarts.still.cpl]
    exact congrArg (fun c => { rteSettle u with cpl := c }) restarts.still.cpl.symm
  have few := cutShort_length s.cpl
  have returned := returned (l := s.restartRsps h) (w := u) idle (by
    rw [queue, State.restartRsps, List.length_append, List.length_map]
    exact Nat.le_trans (Nat.add_le_add_left (Nat.add_le_add_right few 1) _) (by decide))
  rwa [noAnswers] at returned

theorem Restarts.sends (h : CmdHead) : reply h Req.restart .ok [] (sendBypassed s.cpl.cutShort (rteSettle u)) =
    forEach (s.restartRsps h) offerRsp (rteSettle u) := by
  have settled : (rteSettle u).rif.node = s.rif.node := (rteSettle_inner u).node.trans restarts.node
  have node := (offers_inner (s.cpl.cutShort.map (HeldAnswer.rsp s.rif.node)) (rteSettle u)).node.trans settled
  rw [sendBypassed_offers, settled, State.restartRsps, forEach_append, reply, State.rspFrame, node]
  rfl

end

theorem exec_restart_sends {h : CmdHead} {s : State} (taken : s.takes h Req.restart [] = true) (released : s.mgr.locked = false) :
    exec (.restart h []) s =
      .next (reply h Req.restart .ok [] (sendBypassed s.cpl.cutShort (rteSettle s.handed.restarting))) := by
  have restarts := restarting_restarts s.handed
  have effect := exec_restart_taken taken released
  rw [restartBlocks_eq] at effect
  generalize s.handed.restarting = u at restarts effect ⊢
  have entry : (sendBypassed s.cpl.cutShort (rteSettle u)).rif.entry = none :=
    (sendBypassed_inner _ _).entry.trans ((rteSettle_inner u).entry.trans (congrArg Rif.entry restarts.rif :))
  exact effect.trans (congrArg _ (answerCmd_offers entry _ _))

/-- Settles O17. -/
theorem restartIsWarm : Obligations.RestartIsWarm := by
  intro h s taken released
  have restarts := restarting_restarts s.handed
  have runs := exec_restart_sends taken released
  generalize s.handed.restarting = u at restarts runs
  have sends := restarts.sends h
  have returned := restarts.returns h
  have still := restarts.still
  have aside := offers_aside (s.handed.restartRsps h) (rteSettle u)
  have cpl := (offers_cpl (s.handed.restartRsps h) (rteSettle u)).trans still.cpl
  have sweep := offers_swp (s.handed.restartRsps h) (rteSettle u)
  generalize forEach (s.handed.restartRsps h) offerRsp (rteSettle u) = t at sends returned aside cpl sweep
  have swp : t.swp = { Swp.cold with
      cells := t.swp.cells
      interval := if s.mgr.settings.sweepInterval = 0 then none else some (1000 * s.mgr.settings.sweepInterval) } := by
    rw [sweep, still.swp, restarts.swp]
    rfl
  obtain ⟨inner, mgr, -, -, voice, pend, wanted, rsps⟩ := returned
  have rif : t.rif = { s.rif.restarted with
      ctlQ := t.rif.ctlQ, voiceQ := t.rif.voiceQ, notesLost := t.rif.notesLost } := by
    rw [inner.rif, restarts.rif]
    rfl
  have lmp : t.lmp = { s.lmp with test := false, next := 0, refresh := some (1000 * s.mgr.settings.lampRefresh)
                                  pending := t.lmp.pending } := by
    rw [inner.lmp, restarts.lmp]
    rfl
  have link (k : LinkId) : (t.link k).idled = { s.abandoned k with
      health := { LinkHealth.cold with
        silence := if (s.abandoned k).carrier.state = .committed then some s.mgr.settings.meterSilence else none }
      tally := .empty } := by
    rw [aside.link, still.link, restarts.link]
    rfl
  have slot (i : SlotId) : t.slot i = (s.slot i).offline :=
    (congrArg (fun x : Tly => rd x.slots i) inner.tly).trans (restarts.slots i)
  have blank : t.blankCells := fun b j => by rw [sweep]; exact still.blank b j
  refine ⟨u, t, runs.trans (congrArg _ sends), sends.symm, restarts.rte, fun k => ?_, restarts.gen, fun k => ?_, restarts.swp,
    restarts.own, ?_, ?_, restarts.pend, ?_, ?_, ?_, ?_, ?_, ?_, ?_, ?_, ?_, ?_, ?_, fun k => ?_, ?_, ?_, ?_, ?_, ?_, fun b => ?_,
    ?_, ?_, ?_, ?_, ?_, blank, fun i => ?_, ?_, ?_, ?_, ?_, ?_, ?_, ?_, fun k eligible => ?_, ?_⟩
  · exact (congrArg Link.carrier (restarts.link k) :)
  · rw [restarts.want, restarts.link]
  · exact (congrArg Rif.ctlQ restarts.rif :)
  · exact (congrArg Mgr.hold restarts.mgr :)
  · exact (congrArg Rif.node rif :)
  · exact (congrArg Rif.errors rif :)
  · exact (congrArg Rif.mode rif :)
  · exact (congrArg Rif.entry rif :)
  · exact (congrArg Rif.voicePtr rif :)
  · have empty : u.rif.voiceQ = Vector.replicate 32 none := (congrArg Rif.voiceQ restarts.rif :)
    exact tab_ext fun d => (voice d (by rw [empty, rd_replicate])).trans (rd_replicate _ d).symm
  · exact fun lost => inner.lost (restarts.lost lost)
  · have queue : u.rif.ctlQ = [] := (congrArg Rif.ctlQ restarts.rif :)
    rw [rsps, queue, State.restartRsps, List.map_append, List.map_map]
    rfl
  · exact mgr.trans restarts.mgr
  · exact inner.bands.trans restarts.bands
  · exact inner.windows.trans restarts.windows
  · have carrier := congrArg Link.carrier (link k)
    have state : (t.link k).carrier.state = (s.abandoned k).carrier.state := (congrArg LinkCarrier.state carrier :)
    refine ⟨(congrArg Link.cfg (link k) :), (congrArg Link.tally (link k) :), (congrArg LinkCarrier.channel carrier :),
      (congrArg LinkCarrier.forced carrier :), ?_, fun uncertain => wanted k ?_⟩
    · rw [state]
      exact (congrArg Link.health (link k) :)
    · have doubtful : (s.handed.abandoned k).carrier.state = .uncertain := abandoned_uncertain s k (.inl uncertain)
      rw [restarts.want, if_pos doubtful]
      exact Option.some_ne_none _
  · rw [cpl]; rfl
  · rw [cpl]; rfl
  · rw [cpl]; rfl
  · rw [cpl]; rfl
  · rw [cpl]; rfl
  · rw [cpl]
    exact ⟨rd_replicate _ b, rd_replicate _ b⟩
  · exact (congrArg Swp.cfg swp :)
  · exact (congrArg Swp.state swp :)
  · exact (congrArg Swp.probe swp :)
  · exact (congrArg Swp.probeTag swp :)
  · exact (congrArg Swp.interval swp :)
  · rw [slot]
    exact ⟨rfl, rfl, rfl, rfl, rfl, rfl⟩
  · exact inner.tbm.trans restarts.tbm
  · exact (congrArg Lmp.palette lmp :)
  · exact (congrArg Lmp.conditions lmp :)
  · exact (congrArg Lmp.debts lmp :)
  · exact (congrArg Lmp.test lmp :)
  · exact (congrArg Lmp.next lmp :)
  · exact (congrArg Lmp.refresh lmp :)
  · refine pend k ?_
    rw [restarts.pend, rd_tab]
    exact Bool.or_eq_true_iff.mpr (.inr eligible)
  · exact inner.pins.trans restarts.pins

end Sys2Proof.Machine
end
